-- ==== Sys2Proof/Word.lean ====
section
/-! DEFINITION. The byte of the SPI frames, and the largest values of the part's counts. -/

namespace Sys2Proof

/-- One byte, as a port clocks it in or out (R174). -/
abbrev Byte := BitVec 8

/-- Largest value of a 32-bit count of seconds: device time and the hold clock stop there (R43, R44, R50). -/
def maxSeconds : Nat := 4294967295

/-- Largest balance of an entry (Table 1-1). -/
def maxBalance : Nat := 16777215

/-- Largest value of a 16-bit count: the use count stops there (R6). -/
def maxCount16 : Nat := 65535

end Sys2Proof
end

