-- ==== Sys2Proof/Syntax.lean ====
section
/-! DEFINITION. The commands of the block: one constructor of `Instr` per row of spec/opcode_table.json.
The table lists no operand fields; the operands here are what each row's rule needs from outside the block. -/

namespace Sys2Proof

/-- The three SPI target ports: the manager port and the two terminal ports. -/
inductive Port
  | mp | tp0 | tp1
deriving DecidableEq, Repr

/-- What a controller does on its port in one uninterrupted stretch of a transaction (R174).
A whole transaction has both `selectFalls` and `selectRises`; a transaction may also be given in several
stretches, with other events between them. -/
structure Exchange where
  /-- Chip select falls before the first byte: a transaction begins. -/
  selectFalls : Bool
  /-- The whole bytes the controller sends, most significant bit first; the first byte of a transaction is its type. -/
  sent : List Byte
  /-- Bits of a further byte that is incomplete when chip select rises; they are discarded. -/
  spareBits : Nat
  /-- Chip select rises after the last byte: the transaction ends. -/
  selectRises : Bool
deriving DecidableEq, Repr

/-- What the commit unit's read-back reports at a completion (R108, R109; DESIGN CHOICE, log 9). -/
inductive Verify
  | ok | fault
deriving DecidableEq, Repr

/-- How far durable work had come when the supply was lost (R108, R110, R112, R115). -/
inductive PowerCut
  /-- Before any update of the store: the old contents stand. -/
  | beforeUpdates
  /-- While the one write of the work was being made: no verify has passed. -/
  | duringWrite
  /-- After the write was whole, and before its update made it current. -/
  | afterWrite
  /-- After `n` of the atomic updates of the work in progress, 1 to 3. For a restore that has settled the store:
  after the start counter was raised. -/
  | afterUpdates (n : Nat)
  /-- After a verify failed and the wear mark was set, before the FAULT was reported. -/
  | afterFault
deriving DecidableEq, Repr

/-- One constructor per row of spec/opcode_table.json, in the table's order. -/
inductive Instr
  -- transactions on a port
  | request (p : Port) (x : Exchange)
  | fetch (p : Port) (x : Exchange)
  | portStatus (p : Port) (x : Exchange)
  -- takes of the table engine: the asking port is an operand where the spec accepts the request on several ports
  | present (p : Port)
  | draw (p : Port)
  | extend (p : Port)
  | settle (p : Port)
  | release (p : Port)
  | forceRelease
  | queryHold (p : Port)
  | listHolds
  | readTime (p : Port)
  | readIdentity (p : Port)
  | status
  | setTime
  | setClass
  | readClass
  | insert
  | modify
  | topUp
  | bar
  | unbar
  | retire
  | relocate
  | readEntry
  | stage
  | discard
  | readBatch
  | apply
  | startScan
  | suspendScan
  | resumeScan
  | abortScan
  | reset
  | scanStep
  -- events of the timebase and of the hold unit
  | secondEvent
  | holdExpiry (place : Nat)
  -- events of the commit unit
  | commitBegin
  | clearDueAdmission
  | batchCommitAdmission
  | settlementCompletion (v : Verify)
  | insertCompletion (v : Verify)
  | modifyCompletion (v : Verify)
  | topUpCompletion (v : Verify)
  | barCompletion (v : Verify)
  | retireCompletion (v : Verify)
  | slotClearCompletion
  | moveCompletion (v : Verify)
  | classWriteCompletion (v : Verify)
  | stageWriteCompletion (v : Verify)
  | promoteCompletion
  -- the supply, the pins, start-up
  | powerOn
  | powerLoss (cut : PowerCut)
  | resetNFall (counterRaised : Bool)
  | resetNRelease
  | chgInhChange (asserted : Bool)
  | startUpRestore
  | restoreComplete
  | tbclkPeriod
deriving DecidableEq, Repr

end Sys2Proof
end

