-- ==== Sys2Proof/Decode.lean ====
section
/-! DEFINITION. The command a table word spells. The 59 rows of spec/opcode_table.json carry no bits ("fields" is empty
in every row, and no row has "fixed"), so no word spells a command (log 25). -/

namespace Sys2Proof

/-- The command that the low `nbits` bits of `w` spell by the table's bits: none, for every word. -/
def decodeTableWord (_nbits _w : Nat) : Option Instr := none

end Sys2Proof
end

