-- ==== Sys2Proof/Config.lean ====
section
/-! DEFINITION. The sizes the spec fixes for the part, and the values it leaves free (constants without a body). -/

namespace Sys2Proof.Config

/-- Slots 0 to 4,351 (R10). -/
def slots : Nat := 4352
/-- Slots 0 to 4,095 form the home area; the spill area begins here (R10). -/
def homeSlots : Nat := 4096
/-- Spill slots 4,096 to 4,351 (R10). -/
def spillSlots : Nat := 256
/-- Home buckets 0 to 511 (R10). -/
def buckets : Nat := 512
/-- Ways 0 to 7 of a bucket (R10). -/
def ways : Nat := 8
/-- Classes 0 to 15 (R27). -/
def classes : Nat := 16
/-- Places of the hold table (R73). -/
def holdPlaces : Nat := 32
/-- Places of the commit queue (R101). -/
def commitPlaces : Nat := 16
/-- Commit places kept for takes (R105). -/
def takePlaces : Nat := 4
/-- Items of the batch buffer (R139). -/
def batchItems : Nat := 24
/-- Places of each request queue and of each response queue (R178, R181). -/
def portPlaces : Nat := 4
/-- Slots one scan step examines at most (R161). -/
def stepSlots : Nat := 8
/-- Largest payload length of a request (R176). -/
def maxPayload : Nat := 48
/-- Periods of TBCLK in a second (R42). -/
def dividerPeriods : Nat := 32768

/-- Vendor code of Read Identity (R185). -/
def vendorCode : Nat := 0x1C4A
/-- Part code of Read Identity (R185). -/
def partCode : Nat := 0x0436

/-- The serial number of this device (R185: unique to each device). A FREE VALUE, log 13. -/
opaque serialNumber : BitVec 64

/-- The silicon revision of this die (R185). A FREE VALUE, log 13. -/
opaque siliconRevision : Byte

/-- The n-th byte whose value the spec does not state (the occupancy and wear of a slot that does not exist,
R135). A FREE VALUE, log 12. -/
opaque freeByte : Nat → Byte

/-- The 40 bits that a record position of a class holds after the n-th write of it that did not pass its verify, by class and
n (R28, R32). A FREE VALUE, log 14. -/
opaque failedRecord : Nat → Nat → BitVec 40

end Sys2Proof.Config
end

