-- ==== Sys2Proof/Machine/State.lean ====
section
/-! DEFINITION. The state of the VPT436 as plain data, its stops, and the state after reset.
INVENTORY.md lists every field with the rule that names it and its reset value. -/

namespace Sys2Proof.Machine

/-- A numbered store of records (slots, hold places, classes, spill counts): the listed numbers with their records.
A number that is not listed holds the store's own default record. -/
abbrev Table (α : Type) := List (Nat × α)

/-! ### The entitlement table (01) -/

/-- Entry states (R7). -/
inductive EntryState
  | active | barred | retiring
deriving DecidableEq, Repr

/-- An entry image (R1, Table 1-1). An optional field is `none` when absent. -/
structure Entry where
  id : List Byte
  cls : Nat
  state : EntryState
  validFrom : Option Nat
  validUntil : Option Nat
  balance : Option Nat
  ceiling : Option Nat
  holdsLimit : Nat
  groupTag : Option Nat
  useCount : Nat
  lastUse : Option Nat
  revision : Nat
deriving DecidableEq, Repr

/-- Who holds a reservation (R14). -/
inductive Holder
  | singleInsert | batchInsert | move
deriving DecidableEq, Repr

/-- Occupancy of a slot in the working directory, with the reservation record or the working image (R10, R14). -/
inductive SlotContent
  | free
  | reserved (id : List Byte) (holder : Holder)
  | occupied (e : Entry)
deriving DecidableEq, Repr

/-- What the working directory holds for a slot (R10). -/
structure WorkingSlot where
  content : SlotContent
  worn : Bool
  retireMark : Bool
deriving DecidableEq, Repr

/-- What the durable store holds for a slot (R10); the slot is OCCUPIED when the image position holds an image. -/
structure DurableSlot where
  image : Option Entry
  staged : Option Entry
  worn : Bool
  moveTarget : Bool
  retireMark : Bool
deriving DecidableEq, Repr

/-- A slot that is not listed: FREE, sound, unmarked. -/
def emptySlot : WorkingSlot := ⟨.free, false, false⟩
/-- A durable slot that is not listed: no image, no staged version, sound, unmarked. -/
def emptyDurable : DurableSlot := ⟨none, none, false, false, false⟩

/-! ### Classes (02) -/

/-- A class policy record (R27, Table 2-1). -/
structure ClassRecord where
  enabled : Bool
  guarded : Bool
  tp0Allowed : Bool
  tp1Allowed : Bool
  partialDraws : Bool
  retireOnExhaustion : Bool
  lifetime : Nat
  lifetimeLimit : Nat
deriving DecidableEq, Repr

/-- The two record positions of a class (R28): which one is current, the record in it, which is the record in use,
and the record in the other one. -/
structure ClassStore where
  current : Bool
  inUse : ClassRecord
  other : ClassRecord
  /-- The MODEL's own count of the writes of this class that did not pass their verify: it names the next free content of
  the other position (log 14). -/
  failures : Nat
deriving DecidableEq, Repr

/-- The factory values of Table 2-1. -/
def factoryRecord : ClassRecord := ⟨true, false, true, true, false, false, 600, 3600⟩
/-- A class that no CLASS_WRITE has completed for: the factory record in use (R28), and in the other position too (DESIGN
CHOICE, log 14). -/
def factoryClass : ClassStore := ⟨false, factoryRecord, factoryRecord, 0⟩

/-! ### Holds (05) -/

/-- State of a live hold, with the settle units of a SETTLING one (Table 5-1). -/
inductive HoldState
  | opened
  | settling (units : Nat)
deriving DecidableEq, Repr

/-- How a hold ended (R74). -/
inductive HoldOutcome
  | settled | released | expired | forced
deriving DecidableEq, Repr

/-- A live hold (Table 5-1); its number is its place and its generation is the place's. -/
structure Hold where
  epoch : Nat
  owner : Port
  slot : Nat
  units : Nat
  deadline : Nat
  limit : Nat
  state : HoldState
  /-- A second event found the deadline reached and the expiry has not been taken (R84, R85; log 11). -/
  due : Bool
deriving DecidableEq, Repr

/-- A place of the hold table (R73, R74). -/
structure HoldPlace where
  generation : Nat
  live : Option Hold
  closing : Option (Nat × HoldOutcome)
deriving DecidableEq, Repr

/-- A place that is not listed: FREE, generation 0, closing record empty (R97). -/
def freshPlace : HoldPlace := ⟨0, none, none⟩

/-! ### Requests and responses (10) -/

/-- Request kinds (Table 10-2). -/
inductive Kind
  | present | draw | extend | settle | release | queryHold | readTime | readIdentity
  | status | setTime | setClass | readClass
  | insert | modify | topUp | bar | unbar | retire | relocate
  | readEntry | listHolds | forceRelease
  | stage | apply | discard | readBatch
  | startScan | suspendScan | resumeScan | abortScan
  | reset
deriving DecidableEq, Repr

/-- Response statuses (Table 10-9). -/
inductive Status
  | ok | accepted | denied | badField | range
  | notFound | alreadyPresent | tableFull | badSlot | guarded | revisionMismatch | held | entryBusy | retiring | storeFault
  | noSuchHold | holdExpired | holdClosed | restarted | notOwner | exceedsHold | holdSettling
  | timeBackward | timeUnknown
  | applyInProgress | batchFull | batchEmpty | batchBusy | duplicateInBatch | rejected | applied | batchStoreFault
  | scanActive | scanIdle | scanDone | scanAborted
deriving DecidableEq, Repr

/-- Deny reasons 1 to 13 (Table 4-1). -/
inductive DenyReason
  | unknownToken | classDisabled | portNotAllowed | barred | retiring | timeUnknown | notYetValid | expired
  | entryChanging | overCeiling | insufficient | holdLimit | holdsExhausted
deriving DecidableEq, Repr

/-- A request in a request queue (R178). -/
structure Request where
  kind : Kind
  tag : Byte
  payload : List Byte
deriving DecidableEq, Repr

/-- A filled response (R181, R189); a notice has its request's kind code plus 80h. -/
structure Response where
  kind : Byte
  tag : Byte
  status : Status
  payload : List Byte
deriving DecidableEq, Repr

/-- A transaction in progress on a port (R174, R182). -/
structure Transaction where
  /-- The port summary at the fall of chip select (R175). -/
  summary : Byte
  /-- The bytes received so far, the type byte first. -/
  received : List Byte
  /-- In a Fetch, the response frame fixed at the end of the type byte. -/
  frame : List Byte
  /-- In a Fetch, whether that frame is a filled response (and not the empty response). -/
  fetching : Bool
  /-- A start-up began during the transaction (R174). -/
  abandoned : Bool
deriving DecidableEq, Repr

/-- A port controller. -/
structure PortState where
  requests : List Request
  filled : List Response
  reserved : List (Byte × Byte)
  transaction : Option Transaction
  /-- The MODEL's record of the bytes driven on the data output since chip select last fell (log 6). -/
  sdo : List Byte
deriving DecidableEq, Repr

/-! ### Commits (06) -/

/-- What a Modify does to its fields (R128): `none` leaves a field; for an optional field `some none` makes it absent. -/
structure FieldChanges where
  cls : Option Nat
  holdsLimit : Option Nat
  validFrom : Option (Option Nat)
  validUntil : Option (Option Nat)
  balance : Option (Option Nat)
  ceiling : Option (Option Nat)
  groupTag : Option (Option Nat)
deriving DecidableEq, Repr

/-- Kind, subject and change description of a commit (R99, Table 6-1). The first five are ENTRY_WRITEs. -/
inductive Change
  | insertEntry (slot : Nat) (image : Entry)
  | modifyEntry (slot : Nat) (fields : FieldChanges)
  | topUpEntry (slot amount : Nat)
  | setEntryState (slot : Nat) (state : EntryState)
  | settleHold (slot place units : Nat)
  | retireEntry (slot : Nat)
  | clearEntry (slot : Nat)
  | moveEntry (source target : Nat)
  | writeClass (cls : Nat) (record : ClassRecord)
  | stageItem (index slot : Nat)
  | promoteBatch
deriving DecidableEq, Repr

/-- Origin of a commit (R99); for a port, the kind code and tag of the request, as its reserved place records them. -/
inductive Origin
  | port (p : Port) (kind tag : Byte)
  | scan
  | clearDue
  | batch
deriving DecidableEq, Repr

/-- A commit (R99). -/
structure Commit where
  change : Change
  origin : Origin
deriving DecidableEq, Repr

/-- What the PROMOTE's directory update does to one slot (R114). -/
inductive Promotion
  | makeCurrent | clear | mark
deriving DecidableEq, Repr

/-- The work of a commit that has begun: the image it formed or the updates it decided on (R108, R111, R114). -/
inductive Work
  | writeImage (slot : Nat) (e : Entry)
  | writeStaged (slot : Nat) (e : Entry)
  | moveImage (source target : Nat) (e : Entry)
  | writeClass (cls : Nat) (record : ClassRecord)
  | clear (slot : Nat)
  | mark (slot : Nat)
  | promote (updates : List (Nat × Promotion))
deriving DecidableEq, Repr

/-- The commit queue (R101) and the commit in progress, which is its head, with its work (R102). -/
structure CommitUnit where
  queue : List Commit
  work : Option Work
deriving DecidableEq, Repr

/-- The non-volatile store of the commit unit. -/
structure Store where
  slots : Table DurableSlot
  classes : Table ClassStore
  startCounter : Nat
deriving DecidableEq, Repr

/-! ### Batches (08) -/

/-- A batch item (Table 8-1); also a single change of the same kind. -/
inductive Item
  | insert (image : Entry)
  | modify (id : List Byte) (expected : Option Nat) (fields : FieldChanges)
  | topUp (id : List Byte) (amount : Nat)
  | bar (id : List Byte) (expected : Option Nat)
  | unbar (id : List Byte) (expected : Option Nat)
  | retire (id : List Byte) (expected : Option Nat)
deriving DecidableEq, Repr

/-- Batch states (R140). -/
inductive BatchState
  | empty | opened | writing | promoting
deriving DecidableEq, Repr

/-- The validation record of an item (R139). -/
structure ItemRecord where
  slot : Nat
  needsStage : Bool
deriving DecidableEq, Repr

/-- Origin of a last result (R143). -/
inductive ResultOrigin
  | validation | store
deriving DecidableEq, Repr

/-- A last result that is not empty (R143). -/
structure BatchResult where
  origin : ResultOrigin
  index : Nat
  status : Status
deriving DecidableEq, Repr

/-- The batch unit. -/
structure Batch where
  state : BatchState
  items : List Item
  records : List ItemRecord
  lastResult : Option BatchResult
  /-- Items whose STAGE_WRITE has been admitted or is not needed: the feed has come to this index (R151). -/
  fed : Nat
  /-- The PROMOTE has been admitted (R151). -/
  promoteFed : Bool
  /-- Stage writes completed with OK (R143). -/
  staged : Nat
  /-- Tag of the accepted Apply (R155). -/
  applyTag : Byte
deriving DecidableEq, Repr

/-- The batch unit after start-up (R156). -/
def emptyBatch : Batch := ⟨.empty, [], [], none, 0, false, 0, 0#8⟩

/-! ### Scans (09) -/

/-- Scan kinds (Table 9-3). -/
inductive ScanKind
  | expiry | cls | group | clear
deriving DecidableEq, Repr

/-- Scan states (R158). -/
inductive ScanState
  | idle | running | suspended | draining
deriving DecidableEq, Repr

/-- The scan record (Table 9-1). -/
structure Scan where
  kind : Option ScanKind
  argument : Option Nat
  state : ScanState
  cursor : Nat
  scanTime : Option Nat
  inFlight : Nat
  retired : Nat
  marked : Nat
  rehomed : Nat
  skipped : Nat
  startTag : Byte
deriving DecidableEq, Repr

/-- The scan unit after start-up (R173). -/
def idleScan : Scan := ⟨none, none, .idle, 0, none, 0, 0, 0, 0, 0, 0#8⟩

/-! ### Timebase, table engine, device -/

/-- The timebase (R42 to R44, R50). -/
structure Timebase where
  divider : Nat
  deviceTime : Option Nat
  holdClock : Nat
  /-- Second events produced by the divider and not yet taken (log 10). -/
  secondsDue : Nat
deriving DecidableEq, Repr

/-- The timebase after start-up (R52). -/
def startTime : Timebase := ⟨0, none, 0, 0⟩

/-- Candidates of the arbiter (R179). -/
inductive Candidate
  | port (p : Port)
  | scan
deriving DecidableEq, Repr

/-- The table engine: working directory and images, spill counts, clear-due list, grant pointer. -/
structure Engine where
  slots : Table WorkingSlot
  spillCounts : Table Nat
  clearDue : List Nat
  pointer : Candidate
deriving DecidableEq, Repr

/-- The run of the device (R116 to R118). -/
inductive Phase
  /-- The supply is out of its operating range. -/
  | off
  /-- A start-up has begun and restore has not settled the store. -/
  | starting
  /-- Restore has settled the store and intake has not opened. -/
  | settled
  /-- Intake is open. -/
  | running
deriving DecidableEq, Repr

/-- A port after start-up (R188). -/
def freshPort : PortState := ⟨[], [], [], none, []⟩

/-- The machine. -/
structure State where
  mp : PortState
  tp0 : PortState
  tp1 : PortState
  engine : Engine
  holds : Table HoldPlace
  commits : CommitUnit
  store : Store
  batch : Batch
  scan : Scan
  time : Timebase
  phase : Phase
  /-- RESET_N is held low. -/
  resetLow : Bool
  /-- CHG_INH is asserted (held low). -/
  inhibited : Bool
  /-- The MODEL's own counter: number of the next free value (log 12). -/
  freeIndex : Nat
  /-- The MODEL's own queue of commands, first in, first out. -/
  pending : List Instr
deriving DecidableEq, Repr

/-- No command stops the block: "The VPT436 has no device-wide error state" (R102). Faults of writes are completions
reported in responses, notices and counts (R109), so this type has no constructor. -/
inductive Fault
deriving DecidableEq, Repr

/-- Why a command has no meaning. No command of the finished model is refused. -/
inductive Refusal
  /-- Raised by an arm of `exec` whose row is not modelled yet, with the row's mnemonic. Safe: the run stops. -/
  | notModelled (mnemonic : String)
deriving DecidableEq, Repr

/-- The machine right after the first start-up of a device that was never used (log 4): intake open on all ports,
every block at the values its own chapter gives (R26, R52, R97, R118, R156, R173, R180, R188), the start counter
raised from 0 to 1 (R115), the factory class records (R28), and the pins at their pull-ups' levels (log 5). -/
def State.reset : State where
  mp := freshPort
  tp0 := freshPort
  tp1 := freshPort
  engine := ⟨[], [], [], .port .mp⟩
  holds := []
  commits := ⟨[], none⟩
  store := ⟨[], [], 1⟩
  batch := emptyBatch
  scan := idleScan
  time := startTime
  phase := .running
  resetLow := false
  inhibited := false
  freeIndex := 0
  pending := []

end Sys2Proof.Machine
end

