-- ==== Sys2Proof/Machine/Frames.lean ====
section
/-! DEFINITION. How numbers, fields and frames are encoded on a port: CRC-16, Table 10-3, the codes of Tables 10-2 and
10-9, the entry image and class record of Tables 10-5 and 10-6, and the response frame of R189. -/

namespace Sys2Proof.Machine

/-! ### Bytes on the wire (R174) -/

/-- The bits of a byte, most significant bit first. -/
def bitsOf (b : Byte) : List Bool :=
  [b.getLsbD 7, b.getLsbD 6, b.getLsbD 5, b.getLsbD 4, b.getLsbD 3, b.getLsbD 2, b.getLsbD 1, b.getLsbD 0]

/-- The bits that a data line carries at successive rising clock edges form bytes, eight clocks each, most significant bit
first; the clocks after the last whole byte are not part of one (R174). -/
def bytesOfBits : List Bool → List Byte
  | a :: b :: c :: d :: e :: f :: g :: h :: rest =>
    BitVec.ofBoolListBE [a, b, c, d, e, f, g, h] :: bytesOfBits rest
  | _ => []

/-! ### CRC-16 (R11) -/

/-- One bit time of the register of the generator x^16 + x^12 + x^5 + 1. -/
def crcShift (c : BitVec 16) : BitVec 16 :=
  if c.msb then (c <<< (1 : Nat)) ^^^ 0x1021#16 else c <<< (1 : Nat)

/-- One byte, most significant bit first. -/
def crcByte (c : BitVec 16) (b : Byte) : BitVec 16 :=
  crcShift (crcShift (crcShift (crcShift (crcShift (crcShift (crcShift (crcShift
    (c ^^^ ((b.setWidth 16 : BitVec 16) <<< (8 : Nat))))))))))

/-- The CRC-16 of a list of bytes: initial value FFFFh, no final inversion (R11). -/
def crc16 (bytes : List Byte) : BitVec 16 := bytes.foldl crcByte 0xFFFF#16

/-- The home bucket of a token ID: the CRC-16 of its bytes modulo 512 (R11). -/
def homeBucket (id : List Byte) : Nat := (crc16 id).toNat % Config.buckets

/-! ### Numbers (R189) -/

/-- `n` bytes of a number, most significant byte first. -/
def be : Nat → Nat → List Byte
  | 0, _ => []
  | n + 1, v => BitVec.ofNat 8 (v / 256 ^ n) :: be n v

/-- The number that bytes carry, most significant byte first. -/
def beNat (bytes : List Byte) : Nat := bytes.foldl (fun v b => 256 * v + b.toNat) 0

/-- A byte of a number below 256. -/
def byte (v : Nat) : Byte := BitVec.ofNat 8 v

/-- Yes/no (Table 10-3). -/
def yesNo (b : Bool) : Byte := if b then 1#8 else 0#8

/-- A field of `n` bytes that is optional or possibly absent: presence byte, then the value or zeros (R189). -/
def optional (n : Nat) : Option Nat → List Byte
  | none => 0#8 :: List.replicate n 0#8
  | some v => 1#8 :: be n v

/-- A figure that may be "unmetered": 01h and zeros, or 00h and three value bytes (R189). -/
def figure : Option Nat → List Byte
  | none => [1#8, 0#8, 0#8, 0#8]
  | some v => 0#8 :: be 3 v

/-- An optional number as value bytes alone, zeros when absent (Tables 10-5 and 10-8). -/
def valueOrZero (n : Nat) (v : Option Nat) : List Byte := be n (v.getD 0)

/-! ### Codes (Table 10-3, Table 10-9) -/

/-- Port codes. -/
def portCode : Port → Byte
  | .mp => 0#8
  | .tp0 => 1#8
  | .tp1 => 2#8

/-- Entry state codes. -/
def EntryState.code : EntryState → Byte
  | .active => 1#8
  | .barred => 2#8
  | .retiring => 3#8

/-- Hold outcome codes. -/
def HoldOutcome.code : HoldOutcome → Byte
  | .settled => 1#8
  | .released => 2#8
  | .expired => 3#8
  | .forced => 4#8

/-- Hold state codes: 01h OPEN, 02h SETTLING. -/
def HoldState.code : HoldState → Byte
  | .opened => 1#8
  | .settling _ => 2#8

/-- Hold state code 03h EXPIRED (Table 10-3). -/
def expiredStateCode : Byte := 3#8

/-- Retire outcome codes. -/
def clearedCode : Byte := 1#8
/-- Retire outcome codes. -/
def retiringCode : Byte := 2#8

/-- Last-result origin codes. -/
def ResultOrigin.code : ResultOrigin → Byte
  | .validation => 1#8
  | .store => 2#8

/-- Slot occupancy codes. -/
def SlotContent.code : SlotContent → Byte
  | .free => 0#8
  | .reserved _ _ => 1#8
  | .occupied _ => 2#8

/-- Scan kind codes (Table 10-4). -/
def ScanKind.code : ScanKind → Byte
  | .expiry => 1#8
  | .cls => 2#8
  | .group => 3#8
  | .clear => 4#8

/-- Scan state codes of Status (R186). -/
def ScanState.code : ScanState → Byte
  | .idle => 0#8
  | .running => 1#8
  | .suspended => 2#8
  | .draining => 3#8

/-- Batch state codes of Status (R186). -/
def BatchState.code : BatchState → Byte
  | .empty => 0#8
  | .opened => 1#8
  | .writing => 2#8
  | .promoting => 3#8

/-- Status codes (Table 10-9). -/
def Status.code : Status → Byte
  | .ok => 0x00#8
  | .accepted => 0x01#8
  | .denied => 0x02#8
  | .badField => 0x03#8
  | .range => 0x04#8
  | .notFound => 0x10#8
  | .alreadyPresent => 0x11#8
  | .tableFull => 0x12#8
  | .badSlot => 0x13#8
  | .guarded => 0x14#8
  | .revisionMismatch => 0x15#8
  | .held => 0x16#8
  | .entryBusy => 0x17#8
  | .retiring => 0x18#8
  | .storeFault => 0x19#8
  | .noSuchHold => 0x20#8
  | .holdExpired => 0x21#8
  | .holdClosed => 0x22#8
  | .restarted => 0x23#8
  | .notOwner => 0x24#8
  | .exceedsHold => 0x25#8
  | .holdSettling => 0x26#8
  | .timeBackward => 0x28#8
  | .timeUnknown => 0x29#8
  | .applyInProgress => 0x30#8
  | .batchFull => 0x31#8
  | .batchEmpty => 0x32#8
  | .batchBusy => 0x33#8
  | .duplicateInBatch => 0x34#8
  | .rejected => 0x35#8
  | .applied => 0x36#8
  | .batchStoreFault => 0x37#8
  | .scanActive => 0x38#8
  | .scanIdle => 0x39#8
  | .scanDone => 0x3A#8
  | .scanAborted => 0x3B#8

/-- Deny reason numbers (Table 4-1). -/
def DenyReason.number : DenyReason → Nat
  | .unknownToken => 1
  | .classDisabled => 2
  | .portNotAllowed => 3
  | .barred => 4
  | .retiring => 5
  | .timeUnknown => 6
  | .notYetValid => 7
  | .expired => 8
  | .entryChanging => 9
  | .overCeiling => 10
  | .insufficient => 11
  | .holdLimit => 12
  | .holdsExhausted => 13

/-- Pending kind of a commit (Table 10-7). -/
def Change.pendingCode : Change → Byte
  | .insertEntry _ _ => 1#8
  | .modifyEntry _ _ => 1#8
  | .topUpEntry _ _ => 1#8
  | .setEntryState _ _ => 1#8
  | .settleHold _ _ _ => 1#8
  | .retireEntry _ => 2#8
  | .clearEntry _ => 3#8
  | .moveEntry _ _ => 4#8
  | .writeClass _ _ => 0#8
  | .stageItem _ _ => 5#8
  | .promoteBatch => 6#8

/-- Kind codes (Table 10-2). -/
def Kind.code : Kind → Byte
  | .present => 0x10#8
  | .draw => 0x11#8
  | .extend => 0x12#8
  | .settle => 0x13#8
  | .release => 0x14#8
  | .queryHold => 0x15#8
  | .readTime => 0x16#8
  | .readIdentity => 0x17#8
  | .status => 0x20#8
  | .setTime => 0x21#8
  | .setClass => 0x22#8
  | .readClass => 0x23#8
  | .insert => 0x24#8
  | .modify => 0x25#8
  | .topUp => 0x26#8
  | .bar => 0x27#8
  | .unbar => 0x28#8
  | .retire => 0x29#8
  | .relocate => 0x2A#8
  | .readEntry => 0x2B#8
  | .listHolds => 0x2C#8
  | .forceRelease => 0x2D#8
  | .stage => 0x30#8
  | .apply => 0x31#8
  | .discard => 0x32#8
  | .readBatch => 0x33#8
  | .startScan => 0x38#8
  | .suspendScan => 0x39#8
  | .resumeScan => 0x3A#8
  | .abortScan => 0x3B#8
  | .reset => 0x3F#8

/-- Kind code of the Apply notice (R155). -/
def applyNotice : Byte := 0xB1#8
/-- Kind code of the scan notice (R171). -/
def scanNotice : Byte := 0xB8#8

/-! ### Records -/

/-- The presence byte of an entry image (Table 10-5). -/
def Entry.presence (e : Entry) : Byte :=
  byte ((if e.validFrom.isSome then 1 else 0) + (if e.validUntil.isSome then 2 else 0)
    + (if e.balance.isSome then 4 else 0) + (if e.ceiling.isSome then 8 else 0)
    + (if e.groupTag.isSome then 16 else 0) + (if e.lastUse.isSome then 32 else 0))

/-- A token ID: its length, then its bytes (Table 10-3). -/
def idField (id : List Byte) : List Byte := byte id.length :: id

/-- An entry image (Table 10-5), with the state to report (R9). -/
def Entry.image (e : Entry) (state : EntryState) : List Byte :=
  idField e.id ++ [e.presence, byte e.cls, state.code, byte e.holdsLimit]
    ++ valueOrZero 4 e.validFrom ++ valueOrZero 4 e.validUntil ++ valueOrZero 3 e.balance
    ++ valueOrZero 2 e.ceiling ++ valueOrZero 2 e.groupTag ++ be 2 e.useCount
    ++ valueOrZero 4 e.lastUse ++ [byte e.revision]

/-- A class record (Table 10-6). -/
def ClassRecord.bytes (r : ClassRecord) : List Byte :=
  byte ((if r.enabled then 1 else 0) + (if r.guarded then 2 else 0) + (if r.tp0Allowed then 4 else 0)
    + (if r.tp1Allowed then 8 else 0) + (if r.partialDraws then 16 else 0)
    + (if r.retireOnExhaustion then 32 else 0))
    :: (be 2 r.lifetime ++ be 2 r.lifetimeLimit)

/-! ### Frames -/

/-- A frame from its parts: kind, tag, status, payload length, payload, CRC high byte first (R189). -/
def frameBytes (kind tag status : Byte) (payload : List Byte) : List Byte :=
  let body := kind :: tag :: status :: byte payload.length :: payload
  body ++ be 2 (crc16 body).toNat

/-- The frame of a response. -/
def Response.frame (r : Response) : List Byte := frameBytes r.kind r.tag r.status.code r.payload

/-- The empty response: kind, tag, status and length 00h, with its CRC (R182). -/
def emptyFrame : List Byte := frameBytes 0#8 0#8 0#8 []

end Sys2Proof.Machine
end

