-- ==== Sys2Proof/Machine/Operands.lean ====
section
/-! DEFINITION. Table 10-2 (request kinds), Table 10-4 (payload lengths), and the reading of every request payload at its
take (R190, R191): each reader answers `none` where the payload is malformed or a value is outside its range, which the
take answers with BAD_FIELD. -/

namespace Sys2Proof.Machine

/-! ### Request kinds -/

/-- Table 10-2, in the table's order. -/
def allKinds : List Kind :=
  [.present, .draw, .extend, .settle, .release, .queryHold, .readTime, .readIdentity,
   .status, .setTime, .setClass, .readClass,
   .insert, .modify, .topUp, .bar, .unbar, .retire, .relocate,
   .readEntry, .listHolds, .forceRelease,
   .stage, .apply, .discard, .readBatch,
   .startScan, .suspendScan, .resumeScan, .abortScan, .reset]

/-- The kind of a kind code; none where the code is not in Table 10-2. -/
def kindOfCode (b : Byte) : Option Kind := allKinds.find? fun k => k.code == b

/-- The ports that accept a kind (Table 10-2). -/
inductive Acceptance
  | everyPort | terminals | manager
deriving DecidableEq, Repr

/-- The ports on which a kind is accepted (Table 10-2). -/
def Kind.acceptance : Kind → Acceptance
  | .present => .everyPort
  | .draw => .terminals
  | .extend => .terminals
  | .settle => .terminals
  | .release => .terminals
  | .queryHold => .everyPort
  | .readTime => .everyPort
  | .readIdentity => .everyPort
  | .status => .manager
  | .setTime => .manager
  | .setClass => .manager
  | .readClass => .manager
  | .insert => .manager
  | .modify => .manager
  | .topUp => .manager
  | .bar => .manager
  | .unbar => .manager
  | .retire => .manager
  | .relocate => .manager
  | .readEntry => .manager
  | .listHolds => .manager
  | .forceRelease => .manager
  | .stage => .manager
  | .apply => .manager
  | .discard => .manager
  | .readBatch => .manager
  | .startScan => .manager
  | .suspendScan => .manager
  | .resumeScan => .manager
  | .abortScan => .manager
  | .reset => .manager

/-- Whether a port accepts a kind (R177 check 5). -/
def Kind.acceptedOn (k : Kind) (p : Port) : Bool :=
  match k.acceptance, p with
  | .everyPort, _ => true
  | .terminals, .mp => false
  | .terminals, _ => true
  | .manager, .mp => true
  | .manager, _ => false

/-- Response places a kind needs (Table 10-2). -/
def Kind.responsePlaces : Kind → Nat
  | .apply => 2
  | .startScan => 2
  | .reset => 0
  | _ => 1

/-- Whether a kind needs a commit place (Table 10-2). -/
def Kind.needsCommit : Kind → Bool
  | .settle => true
  | .setClass => true
  | .insert => true
  | .modify => true
  | .topUp => true
  | .bar => true
  | .unbar => true
  | .retire => true
  | .relocate => true
  | _ => false

/-- The range of the payload length of a kind (Table 10-4). -/
def Kind.lengths : Kind → Nat × Nat
  | .present => (5, 15)
  | .draw => (8, 16)
  | .extend => (6, 6)
  | .settle => (6, 6)
  | .release => (4, 4)
  | .queryHold => (4, 4)
  | .forceRelease => (2, 2)
  | .listHolds => (1, 1)
  | .setTime => (5, 5)
  | .setClass => (6, 6)
  | .readClass => (1, 1)
  | .insert => (31, 39)
  | .modify => (26, 34)
  | .topUp => (8, 16)
  | .bar => (7, 15)
  | .unbar => (7, 15)
  | .retire => (7, 15)
  | .relocate => (8, 16)
  | .readEntry => (3, 14)
  | .stage => (8, 40)
  | .startScan => (3, 3)
  | .readTime => (0, 0)
  | .readIdentity => (0, 0)
  | .status => (0, 0)
  | .apply => (0, 0)
  | .discard => (0, 0)
  | .readBatch => (0, 0)
  | .suspendScan => (0, 0)
  | .resumeScan => (0, 0)
  | .abortScan => (0, 0)
  | .reset => (0, 0)

/-! ### Parts of a payload -/

/-- The number in the `n` bytes at `offset`. -/
def field (bytes : List Byte) (offset n : Nat) : Nat := beNat ((bytes.drop offset).take n)

/-- A token ID at the head of a payload, and the bytes after it: the length byte is 4 to 12 and the bytes are there. -/
def readId : List Byte → Option (List Byte × List Byte)
  | [] => none
  | n :: rest =>
    if 4 ≤ n.toNat ∧ n.toNat ≤ 12 ∧ n.toNat ≤ rest.length then some (rest.take n.toNat, rest.drop n.toNat) else none

/-- A token ID followed by exactly `n` bytes. -/
def readIdThen (n : Nat) (payload : List Byte) : Option (List Byte × List Byte) :=
  match readId payload with
  | some (id, rest) => if rest.length = n then some (id, rest) else none
  | none => none

/-- A yes/no byte (Table 10-3); none for any other value. -/
def readYesNo (v : Nat) : Option Bool :=
  if v = 0 then some false else if v = 1 then some true else none

/-- A presence flag followed by a value that is not read when the flag says absent (R190). -/
def readFlagged (flag value : Nat) : Option (Option Nat) :=
  if flag = 0 then some none else if flag = 1 then some (some value) else none

/-- A hold handle (Table 10-3). -/
structure Handle where
  number : Nat
  generation : Nat
  epoch : Nat
deriving DecidableEq, Repr

/-- The handle in the first four bytes of a payload. -/
def readHandle (payload : List Byte) : Handle := ⟨field payload 0 1, field payload 1 1, field payload 2 2⟩

/-! ### Payloads (Table 10-4) -/

/-- Present: token ID; requested units 1 to 65,535, only when present (R53). -/
def readPresent (payload : List Byte) : Option (List Byte × Option Nat) :=
  match readId payload with
  | some (id, rest) =>
    if rest.length = 0 then some (id, none)
    else if rest.length = 2 ∧ field rest 0 2 ≠ 0 then some (id, some (field rest 0 2))
    else none
  | none => none

/-- Draw: token ID; requested units 1 to 65,535; partial flag (R54). -/
def readDraw (payload : List Byte) : Option (List Byte × Nat × Bool) :=
  match readIdThen 3 payload with
  | some (id, rest) =>
    match readYesNo (field rest 2 1) with
    | some partialFlag => if field rest 0 2 = 0 then none else some (id, field rest 0 2, partialFlag)
    | none => none
  | none => none

/-- Whether an optional value, where present, satisfies `p`. -/
def presentIs (p : Nat → Bool) : Option Nat → Bool
  | none => true
  | some v => p v

/-- Valid-from is below valid-until where both are present (R2, R129). -/
def windowOk (validFrom validUntil : Option Nat) : Bool :=
  match validFrom, validUntil with
  | some a, some b => decide (a < b)
  | _, _ => true

/-- A well-formed new entry image (R2), for an image whose fields were read. -/
def Entry.newImageOk (e : Entry) : Bool :=
  decide (4 ≤ e.id.length ∧ e.id.length ≤ 12) && decide (e.cls < Config.classes)
    && decide (e.state = .active ∨ e.state = .barred)
    && presentIs (fun v => decide (v ≤ maxSeconds)) e.validFrom
    && presentIs (fun v => decide (v ≤ maxSeconds)) e.validUntil
    && presentIs (fun v => decide (v ≤ maxBalance)) e.balance
    && presentIs (fun v => decide (1 ≤ v ∧ v ≤ maxCount16)) e.ceiling
    && presentIs (fun v => decide (1 ≤ v ∧ v ≤ maxCount16)) e.groupTag
    && decide (1 ≤ e.holdsLimit ∧ e.holdsLimit ≤ 4)
    && windowOk e.validFrom e.validUntil

/-- The value of a field whose presence bit is set. -/
def whenBit (presence : Byte) (bit : Nat) (v : Nat) : Option Nat :=
  if presence.getLsbD bit then some v else none

/-- An entry image as Insert and Stage INSERT carry it (Table 10-5, R191): revision 0, use count 0 and last use absent
whatever the payload holds there (R2), holds limit 1 where it gives 0. -/
def readImage (payload : List Byte) : Option Entry :=
  match readIdThen 26 payload with
  | some (id, rest) =>
    let presence := (rest.head?).getD 0#8
    let state := field rest 2 1
    let e : Entry :=
      { id := id
        cls := field rest 1 1
        state := if state = 1 then .active else if state = 2 then .barred else .retiring
        validFrom := whenBit presence 0 (field rest 4 4)
        validUntil := whenBit presence 1 (field rest 8 4)
        balance := whenBit presence 2 (field rest 12 3)
        ceiling := whenBit presence 3 (field rest 15 2)
        holdsLimit := if field rest 3 1 = 0 then 1 else field rest 3 1
        groupTag := whenBit presence 4 (field rest 17 2)
        useCount := 0
        lastUse := none
        revision := 0 }
    if presence.getLsbD 6 = false ∧ presence.getLsbD 7 = false ∧ e.newImageOk = true then some e else none
  | none => none

/-- A field of a Modify that cannot be made absent. -/
def changedField (mask : Byte) (bit : Nat) (v : Nat) : Option Nat :=
  if mask.getLsbD bit then some v else none

/-- An optional field of a Modify. -/
def changedOptional (mask absent : Byte) (bit : Nat) (v : Nat) : Option (Option Nat) :=
  if mask.getLsbD bit then some (if absent.getLsbD bit then none else some v) else none

/-- The field mask and absent mask are well formed (R128, R190). -/
def masksOk (mask absent : Byte) : Bool :=
  !(mask == 0#8) && !(mask.getLsbD 7) && !(absent.getLsbD 7) && (absent &&& ~~~mask == 0#8)
    && !(absent.getLsbD 0) && !(absent.getLsbD 1)

/-- Every value a Modify sets is in the range of its field (R128). -/
def FieldChanges.inRange (f : FieldChanges) : Bool :=
  presentIs (fun v => decide (v < Config.classes)) f.cls
    && presentIs (fun v => decide (1 ≤ v ∧ v ≤ 4)) f.holdsLimit
    && presentIs (fun v => decide (v ≤ maxSeconds)) (f.validFrom.getD none)
    && presentIs (fun v => decide (v ≤ maxSeconds)) (f.validUntil.getD none)
    && presentIs (fun v => decide (v ≤ maxBalance)) (f.balance.getD none)
    && presentIs (fun v => decide (1 ≤ v ∧ v ≤ maxCount16)) (f.ceiling.getD none)
    && presentIs (fun v => decide (1 ≤ v ∧ v ≤ maxCount16)) (f.groupTag.getD none)

/-- Modify (Table 10-4): the values stand in the order class, holds limit, valid-from, valid-until, balance, draw
ceiling, group tag; a value that is not set is not read. -/
def readModify (payload : List Byte) : Option Item :=
  match readIdThen 21 payload with
  | some (id, rest) =>
    let mask := ((rest.drop 2).head?).getD 0#8
    let absent := ((rest.drop 3).head?).getD 0#8
    let f : FieldChanges :=
      { cls := changedField mask 0 (field rest 4 1)
        holdsLimit := changedField mask 1 (field rest 5 1)
        validFrom := changedOptional mask absent 2 (field rest 6 4)
        validUntil := changedOptional mask absent 3 (field rest 10 4)
        balance := changedOptional mask absent 4 (field rest 14 3)
        ceiling := changedOptional mask absent 5 (field rest 17 2)
        groupTag := changedOptional mask absent 6 (field rest 19 2) }
    match readFlagged (field rest 0 1) (field rest 1 1) with
    | some expected => if masksOk mask absent = true ∧ f.inRange = true then some (.modify id expected f) else none
    | none => none
  | none => none

/-- Top Up: token ID; amount 1 to 16,777,215 (R131). -/
def readTopUp (payload : List Byte) : Option Item :=
  match readIdThen 3 payload with
  | some (id, rest) => if field rest 0 3 = 0 then none else some (.topUp id (field rest 0 3))
  | none => none

/-- Bar, Unbar and Retire: token ID; expected revision where its flag says present. -/
def readIdExpected (payload : List Byte) : Option (List Byte × Option Nat) :=
  match readIdThen 2 payload with
  | some (id, rest) =>
    match readFlagged (field rest 0 1) (field rest 1 1) with
    | some expected => some (id, expected)
    | none => none
  | none => none

/-- Relocate: token ID; target slot where its flag says present. -/
def readRelocate (payload : List Byte) : Option (List Byte × Option Nat) :=
  match readIdThen 3 payload with
  | some (id, rest) =>
    match readFlagged (field rest 0 1) (field rest 1 2) with
    | some target => some (id, target)
    | none => none
  | none => none

/-- Insert's change. -/
def readInsertItem (payload : List Byte) : Option Item := (readImage payload).map Item.insert
/-- Bar's change. -/
def readBarItem (payload : List Byte) : Option Item := (readIdExpected payload).map fun x => Item.bar x.1 x.2
/-- Unbar's change. -/
def readUnbarItem (payload : List Byte) : Option Item := (readIdExpected payload).map fun x => Item.unbar x.1 x.2
/-- Retire's change. -/
def readRetireItem (payload : List Byte) : Option Item := (readIdExpected payload).map fun x => Item.retire x.1 x.2

/-- Stage: item kind, then the payload of the matching single request. -/
def readStage : List Byte → Option Item
  | [] => none
  | kind :: payload =>
    match kind.toNat with
    | 1 => readInsertItem payload
    | 2 => readModify payload
    | 3 => readTopUp payload
    | 4 => readBarItem payload
    | 5 => readUnbarItem payload
    | 6 => readRetireItem payload
    | _ => none

/-- What a Read Entry names: an entry by token ID, or a slot. -/
inductive EntryName
  | byId (id : List Byte)
  | bySlot (slot : Nat)
deriving DecidableEq, Repr

/-- Read Entry: selector 01h then token ID, or selector 02h then slot. -/
def readEntryName : List Byte → Option EntryName
  | [] => none
  | selector :: payload =>
    match selector.toNat with
    | 1 => (readIdThen 0 payload).map fun x => EntryName.byId x.1
    | 2 => if payload.length = 2 then some (.bySlot (field payload 0 2)) else none
    | _ => none

/-- A class record (Table 10-6), with bits 6 and 7 of its flags clear and lifetimes in range (R31). -/
def readClassRecord (bytes : List Byte) : Option ClassRecord :=
  let flags := (bytes.head?).getD 0#8
  let r : ClassRecord :=
    { enabled := flags.getLsbD 0
      guarded := flags.getLsbD 1
      tp0Allowed := flags.getLsbD 2
      tp1Allowed := flags.getLsbD 3
      partialDraws := flags.getLsbD 4
      retireOnExhaustion := flags.getLsbD 5
      lifetime := field bytes 1 2
      lifetimeLimit := field bytes 3 2 }
  if bytes.length = 5 ∧ flags.getLsbD 6 = false ∧ flags.getLsbD 7 = false
      ∧ 10 ≤ r.lifetime ∧ r.lifetime ≤ r.lifetimeLimit ∧ r.lifetimeLimit ≤ maxCount16 then some r else none

/-- Set Class: class 0 to 15; class record (R31 checks 1 and 2). -/
def readSetClass : List Byte → Option (Nat × ClassRecord)
  | [] => none
  | c :: bytes =>
    if c.toNat < Config.classes then (readClassRecord bytes).map fun r => (c.toNat, r) else none

/-- Start Scan: scan kind and argument; the argument of EXPIRY and CLEAR is not read (R159 check 1). -/
def readStartScan (payload : List Byte) : Option (ScanKind × Option Nat) :=
  let argument := field payload 1 2
  match field payload 0 1 with
  | 1 => some (.expiry, none)
  | 2 => if argument < Config.classes then some (.cls, some argument) else none
  | 3 => if argument = 0 then none else some (.group, some argument)
  | 4 => some (.clear, none)
  | _ => none

end Sys2Proof.Machine
end

