-- ==== Sys2Proof/Machine/Table.lean ====
section
/-! DEFINITION. Reading and writing a numbered store (DESIGN CHOICE, log 30). A store lists (number, record)
pairs in one canonical form: numbers strictly rising, and no record equal to the default `d` that an unlisted number holds (`Table.wf`). -/

namespace Sys2Proof.Machine

/-- The record of number `k`; `d` where none is listed. -/
def Table.get {α : Type} (d : α) : Table α → Nat → α
  | [], _ => d
  | (j, v) :: rest, k => if j = k then v else Table.get d rest k

/-- Put a pair before the first larger number. -/
def Table.place {α : Type} (k : Nat) (v : α) : Table α → Table α
  | [] => [(k, v)]
  | (j, w) :: rest => if k < j then (k, v) :: (j, w) :: rest else (j, w) :: Table.place k v rest

/-- The store without number `k`. -/
def Table.drop {α : Type} (k : Nat) (t : Table α) : Table α :=
  t.filter fun p => !(p.1 == k)

/-- Write the record of number `k`; writing the default takes the number off the list. -/
def Table.set {α : Type} [DecidableEq α] (d : α) (t : Table α) (k : Nat) (v : α) : Table α :=
  if v = d then Table.drop k t else Table.place k v (Table.drop k t)

/-- The listed numbers. -/
def Table.keys {α : Type} (t : Table α) : List Nat := t.map (·.1)

/-- How many listed records satisfy `p`. -/
def Table.count {α : Type} (p : Nat → α → Bool) (t : Table α) : Nat :=
  (t.filter fun x => p x.1 x.2).length

/-- Strictly rising numbers. -/
def rising : List Nat → Bool
  | [] => true
  | [_] => true
  | a :: b :: rest => decide (a < b) && rising (b :: rest)

/-- The canonical form. -/
def Table.wf {α : Type} [DecidableEq α] (d : α) (t : Table α) : Bool :=
  rising (Table.keys t) && t.all fun x => !(decide (x.2 = d))

/-- Put a number into a rising list, once. -/
def insertRising (k : Nat) : List Nat → List Nat
  | [] => [k]
  | a :: rest => if k < a then k :: a :: rest else if k = a then a :: rest else a :: insertRising k rest

end Sys2Proof.Machine
end

