-- ==== Sys2Proof/Machine/Ops.lean ====
section
/-! DEFINITION. The named operations over the state: ports and their queues, slots and reservations, holds, commits and
the durable store. Every meaning reads and writes the state through them. -/

namespace Sys2Proof.Machine

/-! ### Ports -/

/-- The controller of a port. -/
def State.port (s : State) : Port → PortState
  | .mp => s.mp
  | .tp0 => s.tp0
  | .tp1 => s.tp1

/-- Replace the controller of a port. -/
def State.setPort (s : State) (p : Port) (x : PortState) : State :=
  match p with
  | .mp => { s with mp := x }
  | .tp0 => { s with tp0 := x }
  | .tp1 => { s with tp1 := x }

/-- Response places that are neither filled nor reserved (R179, R181). -/
def PortState.freePlaces (x : PortState) : Nat := Config.portPlaces - (x.filled.length + x.reserved.length)

/-- The attention output is asserted while one or more responses are filled (R184). -/
def PortState.attention (x : PortState) : Bool := !x.filled.isEmpty

/-- Fill a free place with a response: it joins the fill order at its end (R181). -/
def State.fill (s : State) (p : Port) (r : Response) : State :=
  s.setPort p { s.port p with filled := (s.port p).filled ++ [r] }

/-- Turn a free place into a reserved place that records kind and tag (R181). -/
def State.reserve (s : State) (p : Port) (kind tag : Byte) : State :=
  s.setPort p { s.port p with reserved := (s.port p).reserved ++ [(kind, tag)] }

/-- The place reserved for this kind and tag becomes filled (R181); two places of one kind and tag are alike (log 21). -/
def State.fillReserved (s : State) (p : Port) (kind tag : Byte) (status : Status) (payload : List Byte) : State :=
  if (kind, tag) ∈ (s.port p).reserved then
    s.setPort p { s.port p with
      filled := (s.port p).filled ++ [⟨kind, tag, status, payload⟩]
      reserved := (s.port p).reserved.erase (kind, tag) }
  else s

/-- Answer a request at its take: an immediate fill with the request's kind and tag (R181). -/
def State.answer (s : State) (p : Port) (r : Request) (status : Status) (payload : List Byte) : State :=
  s.fill p ⟨r.kind.code, r.tag, status, payload⟩

/-! ### The arbiter and a take (R179, R180) -/

/-- Free places of the commit queue (R101). -/
def State.freeCommits (s : State) : Nat := Config.commitPlaces - s.commits.queue.length

/-- Whether a port's head request may be granted: room for its response, and for its commit where it needs one (R179). -/
def State.portIsCandidate (s : State) (p : Port) : Bool :=
  match (s.port p).requests with
  | [] => false
  | r :: _ =>
    decide (r.kind.responsePlaces ≤ (s.port p).freePlaces) && (!r.kind.needsCommit || decide (1 ≤ s.freeCommits))

/-- Candidates (R179). -/
def State.isCandidate (s : State) : Candidate → Bool
  | .port p => s.portIsCandidate p
  | .scan => decide (s.scan.state = .running)

/-- The cyclic order MP, TP0, TP1, SCAN from a candidate on (R180). -/
def candidatesFrom : Candidate → List Candidate
  | .port .mp => [.port .mp, .port .tp0, .port .tp1, .scan]
  | .port .tp0 => [.port .tp0, .port .tp1, .scan, .port .mp]
  | .port .tp1 => [.port .tp1, .scan, .port .mp, .port .tp0]
  | .scan => [.scan, .port .mp, .port .tp0, .port .tp1]

/-- The candidate after one in the cyclic order (R180). -/
def Candidate.after : Candidate → Candidate
  | .port .mp => .port .tp0
  | .port .tp0 => .port .tp1
  | .port .tp1 => .scan
  | .scan => .port .mp

/-- The candidate the arbiter grants: the first from the grant pointer on; none while intake is closed (R180, R26). -/
def State.granted (s : State) : Option Candidate :=
  if s.phase = .running then (candidatesFrom s.engine.pointer).find? s.isCandidate else none

/-- Set the grant pointer. -/
def State.setPointer (s : State) (c : Candidate) : State := { s with engine := { s.engine with pointer := c } }

/-- The take of the head request of a port removes it and moves the grant pointer past the port (R178, R180). -/
def State.dequeue (s : State) (p : Port) : State :=
  (s.setPort p { s.port p with requests := (s.port p).requests.tail }).setPointer (Candidate.port p).after

/-- The request that a take of this kind on this port would remove now: the arbiter grants the port and the head of its
queue has the kind. -/
def State.takeable (s : State) (p : Port) (k : Kind) : Option Request :=
  if s.granted = some (.port p) then
    match (s.port p).requests with
    | r :: _ => if r.kind = k then some r else none
    | [] => none
  else none

/-- A take of the table engine: `body` judges the request on the state without it. Where the arbiter does not grant a
request of this kind on this port, the request stays where it is and nothing changes (R107, R178; log 1). -/
def State.take (s : State) (p : Port) (k : Kind) (body : Request → State → State) : State :=
  match s.takeable p k with
  | some r => body r (s.dequeue p)
  | none => s

/-! ### Slots (01) -/

/-- What the working directory holds for a slot. -/
def State.slot (s : State) (n : Nat) : WorkingSlot := Table.get emptySlot s.engine.slots n

/-- Write what the working directory holds for a slot. -/
def State.setSlot (s : State) (n : Nat) (w : WorkingSlot) : State :=
  { s with engine := { s.engine with slots := Table.set emptySlot s.engine.slots n w } }

/-- The entry of an OCCUPIED slot. -/
def SlotContent.entry? : SlotContent → Option Entry
  | .occupied e => some e
  | .free => none
  | .reserved _ _ => none

/-- The entry in a slot, with its working image. -/
def State.entryAt (s : State) (n : Nat) : Option Entry := (s.slot n).content.entry?

/-- Write the working image of a slot. -/
def State.setEntry (s : State) (n : Nat) (e : Entry) : State := s.setSlot n { s.slot n with content := .occupied e }

/-- A slot is FREE and sound: eligible for placement (R13). -/
def State.placeable (s : State) (n : Nat) : Bool :=
  match (s.slot n).content with
  | .free => !(s.slot n).worn
  | .reserved _ _ => false
  | .occupied _ => false

/-- The eight ways of a bucket, lowest first (R10). -/
def waysOf (bucket : Nat) : List Nat := (List.range Config.ways).map (Config.ways * bucket + ·)

/-- The spill slots, lowest first (R10). -/
def spillArea : List Nat := (List.range Config.spillSlots).map (Config.homeSlots + ·)

/-- A slot lies in the spill area (R10). -/
def inSpill (n : Nat) : Bool := decide (Config.homeSlots ≤ n ∧ n < Config.slots)

/-- The spill count of a bucket (R17). -/
def State.spillCount (s : State) (bucket : Nat) : Nat := Table.get 0 s.engine.spillCounts bucket

/-- Write the spill count of a bucket. -/
def State.setSpillCount (s : State) (bucket v : Nat) : State :=
  { s with engine := { s.engine with spillCounts := Table.set 0 s.engine.spillCounts bucket v } }

/-- An entry of this ID has come to a slot: a spill slot counts (R17). -/
def State.spillGain (s : State) (n : Nat) (id : List Byte) : State :=
  if inSpill n then s.setSpillCount (homeBucket id) (s.spillCount (homeBucket id) + 1) else s

/-- An entry of this ID has left a slot (R17). -/
def State.spillLoss (s : State) (n : Nat) (id : List Byte) : State :=
  if inSpill n then s.setSpillCount (homeBucket id) (s.spillCount (homeBucket id) - 1) else s

/-- The slot is OCCUPIED by the entry of this ID (R18). -/
def State.slotHasId (s : State) (id : List Byte) (n : Nat) : Bool :=
  match s.entryAt n with
  | some e => decide (e.id = id)
  | none => false

/-- Lookup (R18): the ways of the home bucket, then, if its spill count is above 0, the spill slots. -/
def State.lookup (s : State) (id : List Byte) : Option Nat :=
  match (waysOf (homeBucket id)).find? (s.slotHasId id) with
  | some n => some n
  | none => if 0 < s.spillCount (homeBucket id) then spillArea.find? (s.slotHasId id) else none

/-- The slot that a reservation holds for this ID, whoever holds it (R19). -/
def State.reservedFor (s : State) (id : List Byte) : Option Nat :=
  (s.engine.slots.find? fun x => match x.2.content with
    | .reserved i _ => decide (i = id)
    | .free => false
    | .occupied _ => false).map (·.1)

/-- The slot where an ID is found or reserved (R19). -/
def State.foundOrReserved (s : State) (id : List Byte) : Option Nat :=
  match s.lookup id with
  | some n => some n
  | none => s.reservedFor id

/-- The lowest FREE, sound way of a home bucket (R20, R163). -/
def State.freeWay (s : State) (id : List Byte) : Option Nat := (waysOf (homeBucket id)).find? s.placeable

/-- Placement (R20): the lowest FREE, sound way of the home bucket, else the lowest FREE, sound spill slot. -/
def State.placement (s : State) (id : List Byte) : Option Nat :=
  match s.freeWay id with
  | some n => some n
  | none => spillArea.find? s.placeable

/-- Reserve a slot for an ID (R14). -/
def State.reserveSlot (s : State) (n : Nat) (id : List Byte) (holder : Holder) : State :=
  s.setSlot n { s.slot n with content := .reserved id holder }

/-- A reservation ends without an entry: the slot is FREE (R14). -/
def State.releaseSlot (s : State) (n : Nat) : State := s.setSlot n { s.slot n with content := .free }

/-- Set the wear mark of a slot in the working directory (R15). -/
def State.wearSlot (s : State) (n : Nat) : State := s.setSlot n { s.slot n with worn := true }

/-- Clear a slot: FREE, its retire mark removed, its wear mark kept, its spill count adjusted (R12, R17, R100). -/
def State.clearSlot (s : State) (n : Nat) : State :=
  match s.entryAt n with
  | some e => (s.setSlot n ⟨.free, (s.slot n).worn, false⟩).spillLoss n e.id
  | none => s.setSlot n ⟨.free, (s.slot n).worn, false⟩

/-- An entry joins a slot: OCCUPIED with it, spill count adjusted (R12, R17). -/
def State.occupySlot (s : State) (n : Nat) (e : Entry) : State := (s.setEntry n e).spillGain n e.id

/-- An entry joins the clear-due list, in slot order, once (R25). -/
def State.joinClearDue (s : State) (n : Nat) : State :=
  { s with engine := { s.engine with clearDue := insertRising n s.engine.clearDue } }

/-- An entry leaves the clear-due list (R25). -/
def State.leaveClearDue (s : State) (n : Nat) : State :=
  { s with engine := { s.engine with clearDue := s.engine.clearDue.filter fun m => !(m == n) } }

/-! ### Classes (02) -/

/-- The record in use of a class (R28). -/
def State.classOf (s : State) (c : Nat) : ClassRecord := (Table.get factoryClass s.store.classes c).inUse

/-! ### Hold places (05) -/

/-- A place of the hold table. -/
def State.place (s : State) (n : Nat) : HoldPlace := Table.get freshPlace s.holds n

/-- Write a place of the hold table. -/
def State.setPlace (s : State) (n : Nat) (x : HoldPlace) : State :=
  { s with holds := Table.set freshPlace s.holds n x }

/-- Replace the live hold of a place. -/
def State.setHold (s : State) (n : Nat) (h : Hold) : State := s.setPlace n { s.place n with live := some h }

/-- The live holds with their numbers, in ascending place order (R73). -/
def State.liveHolds (s : State) : List (Nat × Hold) :=
  (List.range Config.holdPlaces).filterMap fun n => (s.place n).live.map fun h => (n, h)

/-- The live holds on the entry of a slot (R22). -/
def State.holdsOn (s : State) (slot : Nat) : List Hold :=
  (s.liveHolds.map (·.2)).filter fun h => h.slot == slot

/-- Open holds of an entry: its OPEN and SETTLING holds (R22). -/
def State.openHolds (s : State) (slot : Nat) : Nat := (s.holdsOn slot).length

/-- Held units of an entry: the full units of its OPEN and SETTLING holds (R22). -/
def State.heldUnits (s : State) (slot : Nat) : Nat := ((s.holdsOn slot).map (·.units)).sum

/-- Available units of an entry: balance minus held units; none for an unmetered entry (R22, R62). -/
def State.available (s : State) (slot : Nat) (e : Entry) : Option Nat :=
  e.balance.map fun b => b - s.heldUnits slot

/-- The lowest-numbered FREE place (R75). -/
def State.freePlace (s : State) : Option Nat :=
  (List.range Config.holdPlaces).find? fun n => (s.place n).live.isNone

/-! ### Commits (06) -/

/-- Admit a commit at the tail of the queue (R101, R104). -/
def State.joinQueue (s : State) (c : Commit) : State :=
  { s with commits := { s.commits with queue := s.commits.queue ++ [c] } }

/-- Accept a request in its take: its commit is admitted and a response place is reserved (R120). -/
def State.accept (s : State) (p : Port) (r : Request) (c : Change) : State :=
  (s.joinQueue ⟨c, .port p r.kind.code r.tag⟩).reserve p r.kind.code r.tag

/-- The response of a commit whose origin is a port fills its reserved place; other origins get none (R99). -/
def State.report (s : State) (o : Origin) (status : Status) (payload : List Byte) : State :=
  match o with
  | .port p kind tag => s.fillReserved p kind tag status payload
  | .scan => s
  | .clearDue => s
  | .batch => s

/-! ### The durable store (06) -/

/-- What the durable store holds for a slot. -/
def Store.slot (st : Store) (n : Nat) : DurableSlot := Table.get emptyDurable st.slots n

/-- Write what the durable store holds for a slot. -/
def Store.setSlot (st : Store) (n : Nat) (d : DurableSlot) : Store :=
  { st with slots := Table.set emptyDurable st.slots n d }

/-- An image replaces what the image position of a slot holds; the slot is OCCUPIED (R108, R127). -/
def Store.writeImage (st : Store) (n : Nat) (e : Entry) : Store := st.setSlot n { st.slot n with image := some e }

/-- A clear: FREE, with the retire mark and any move-target mark removed; the wear mark stays (R100). -/
def Store.clear (st : Store) (n : Nat) : Store :=
  st.setSlot n { st.slot n with image := none, moveTarget := false, retireMark := false }

/-- The wear mark of a slot (R109). -/
def Store.wear (st : Store) (n : Nat) : Store := st.setSlot n { st.slot n with worn := true }

/-- The two record positions of a class (R28). -/
def Store.classAt (st : Store) (c : Nat) : ClassStore := Table.get factoryClass st.classes c

/-- Write the two record positions of a class. -/
def Store.setClass (st : Store) (c : Nat) (x : ClassStore) : Store :=
  { st with classes := Table.set factoryClass st.classes c x }

/-- A CLASS_WRITE writes the new record into the class's other position (R28). -/
def Store.writeOther (st : Store) (c : Nat) (r : ClassRecord) : Store := st.setClass c { st.classAt c with other := r }

/-- A CLASS_WRITE that passed its verify makes the position it wrote current: the record in it is the record in use, and the
one that was in use is in the other position (R28). -/
def Store.makeClassCurrent (st : Store) (c : Nat) (r : ClassRecord) : Store :=
  st.setClass c ⟨!(st.classAt c).current, r, (st.classAt c).inUse, (st.classAt c).failures⟩

/-- A record position whose write did not pass its verify holds bits the spec does not state: a FREE VALUE (log 14). -/
def failedRecord (c n : Nat) : ClassRecord :=
  let b := Config.failedRecord c n
  ⟨b.getLsbD 32, b.getLsbD 33, b.getLsbD 34, b.getLsbD 35, b.getLsbD 36, b.getLsbD 37,
    (b.extractLsb' 16 16).toNat, (b.extractLsb' 0 16).toNat⟩

/-- A CLASS_WRITE whose verify failed, or whose write a loss of power cut short, leaves the position it wrote with a free
content; the position in use stands (R28, R32, log 14). -/
def Store.spoilClass (st : Store) (c : Nat) : Store :=
  st.setClass c { st.classAt c with
    other := failedRecord c (st.classAt c).failures, failures := (st.classAt c).failures + 1 }

/-- Every staged version is discarded (R117 step 2, R153). -/
def Store.discardStaged (st : Store) : Store :=
  (Table.keys st.slots).foldl (fun x n => x.setSlot n { x.slot n with staged := none }) st

/-- What a PROMOTE does to one slot of its batch (R114). -/
def Store.promoteSlot (st : Store) : Nat × Promotion → Store
  | (n, .makeCurrent) => st.setSlot n { st.slot n with image := (st.slot n).staged, staged := none }
  | (n, .clear) => st.setSlot n { st.slot n with image := none, staged := none, moveTarget := false, retireMark := false }
  | (n, .mark) => st.setSlot n { st.slot n with staged := none, retireMark := true }

/-- The store after the first `k` atomic updates of a work, `k` at least 1: a MOVE has three (R112), every other work
has one (R108, R110, R114). -/
def Work.updates (w : Work) (k : Nat) (st : Store) : Store :=
  match w with
  | .writeImage n e => st.writeImage n e
  | .writeStaged n e => st.setSlot n { st.slot n with staged := some e }
  | .moveImage source target e =>
    let written := st.setSlot target { st.slot target with image := some e, moveTarget := true }
    if k ≤ 1 then written
    else
      let cleared := written.clear source
      if k ≤ 2 then cleared
      else cleared.setSlot target { cleared.slot target with moveTarget := false }
  | .writeClass c r => st.makeClassCurrent c r
  | .clear n => st.clear n
  | .mark n => st.setSlot n { st.slot n with retireMark := true }
  | .promote updates => updates.foldl Store.promoteSlot st

/-- The store after a write of this work failed its verify: the old contents, and the wear mark of the slot written
(R109); with a stage write, the batch's staged versions discarded in the same update (R153); a work that is made of
directory updates alone cannot fault (R110). -/
def Work.faulted (w : Work) (st : Store) : Store :=
  match w with
  | .writeImage n _ => st.wear n
  | .writeStaged n _ => (st.wear n).discardStaged
  | .moveImage _ target _ => st.wear target
  | .writeClass c _ => st.spoilClass c
  | .clear _ => st
  | .mark _ => st
  | .promote _ => st

/-- Whether a work can fault (Table 6-1). -/
def Work.canFault : Work → Bool
  | .writeImage _ _ => true
  | .writeStaged _ _ => true
  | .moveImage _ _ _ => true
  | .writeClass _ _ => true
  | .clear _ => false
  | .mark _ => false
  | .promote _ => false

/-- The result a completion of this work reports: a directory update cannot fault (R110, log 28). -/
def Work.result (w : Work) (v : Verify) : Verify := if w.canFault then v else .ok

/-- The store a completion leaves: all updates made (a MOVE's three), or the failed write (R108, R109, R112; DEDUCED,
log 8). -/
def Work.complete (w : Work) (v : Verify) (st : Store) : Store :=
  match w.result v with
  | .ok => w.updates 3 st
  | .fault => w.faulted st

/-- The store while a write is being made, before its verify has passed: an image position or a staging position reads as it
did (R108), and the other position of a class holds a free content (R28). -/
def Work.written (w : Work) (whole : Bool) (st : Store) : Store :=
  match w with
  | .writeClass c r => if whole then st.writeOther c r else st.spoilClass c
  | .writeImage _ _ => st
  | .writeStaged _ _ => st
  | .moveImage _ _ _ => st
  | .clear _ => st
  | .mark _ => st
  | .promote _ => st

/-- The store that a loss of power at this point leaves (R28, R108, R110, R112; DEDUCED, log 8). -/
def Work.cut (w : Work) (c : PowerCut) (st : Store) : Store :=
  match c with
  | .beforeUpdates => st
  | .duringWrite => w.written false st
  | .afterWrite => w.written true st
  | .afterUpdates k => if k = 0 then st else w.updates k st
  | .afterFault => w.faulted st

end Sys2Proof.Machine
end

