-- ==== Sys2Proof/Machine/Flags.lean ====
section
/-! DEFINITION. The derived conditions of an entry (01 section 1.8; DEDUCED, log 29), the guard of a class (R36),
the counts of Status, and the two bookkeeping operations that read them: the end of a hold and the hand-over of its closure (R95). -/

namespace Sys2Proof.Machine

/-! ### Pending, locked, changing -/

/-- The batch is WRITING or PROMOTING: it is locked in the sense of R140. -/
def Batch.isLocked (b : Batch) : Bool :=
  match b.state with
  | .empty => false
  | .opened => false
  | .writing => true
  | .promoting => true

/-- An item that creates its entry. -/
def Item.isInsert : Item → Bool
  | .insert _ => true
  | .modify _ _ _ => false
  | .topUp _ _ => false
  | .bar _ _ => false
  | .unbar _ _ => false
  | .retire _ _ => false

/-- The items of a validated batch with their records. -/
def Batch.recorded (b : Batch) : List (Item × ItemRecord) := b.items.zip b.records

/-- The slots of the entries a validated batch names: the entries it locks (R24, R148). -/
def Batch.lockedSlots (b : Batch) : List Nat :=
  (b.recorded.filter fun x => !x.1.isInsert).map fun x => x.2.slot

/-- The slots a validated batch has reserved for its INSERT items (R148). -/
def Batch.reservedSlots (b : Batch) : List Nat :=
  (b.recorded.filter fun x => x.1.isInsert).map fun x => x.2.slot

/-- An entry is locked (R24). -/
def State.locked (s : State) (slot : Nat) : Bool :=
  s.batch.isLocked && s.batch.lockedSlots.contains slot

/-- A commit is a commit for the entry in this slot (R23). An Insert's commit is covered by its reservation. -/
def Change.isFor (lockedSlots : List Nat) (slot : Nat) : Change → Bool
  | .insertEntry _ _ => false
  | .modifyEntry n _ => n == slot
  | .topUpEntry n _ => n == slot
  | .setEntryState n _ => n == slot
  | .settleHold n _ _ => n == slot
  | .retireEntry n => n == slot
  | .clearEntry n => n == slot
  | .moveEntry n _ => n == slot
  | .writeClass _ _ => false
  | .stageItem _ n => n == slot
  | .promoteBatch => lockedSlots.contains slot

/-- The change queued or in progress for the entry in a slot: each entry has at most one (R23). -/
def State.pendingChange (s : State) (slot : Nat) : Option Change :=
  (s.commits.queue.find? fun c => c.change.isFor s.batch.lockedSlots slot).map (·.change)

/-- An entry is pending (R23). -/
def State.isPending (s : State) (slot : Nat) : Bool := (s.pendingChange slot).isSome

/-- The pending kind that responses carry (Table 10-7): 00h for none. -/
def State.pendingCode (s : State) (slot : Nat) : Byte :=
  match s.pendingChange slot with
  | some c => c.pendingCode
  | none => 0#8

/-- The pending commits that make an entry changing (R24). -/
def Change.makesChanging : Change → Bool
  | .modifyEntry _ _ => true
  | .setEntryState _ _ => true
  | .retireEntry _ => true
  | .insertEntry _ _ => false
  | .topUpEntry _ _ => false
  | .settleHold _ _ _ => false
  | .clearEntry _ => false
  | .moveEntry _ _ => false
  | .writeClass _ _ => false
  | .stageItem _ _ => false
  | .promoteBatch => false

/-- An entry is changing (R24). -/
def State.changing (s : State) (slot : Nat) : Bool :=
  s.locked slot ||
    match s.pendingChange slot with
    | some c => c.makesChanging
    | none => false

/-- The pending commit is a settlement (Table 10-7, condition bit 5). -/
def State.pendingSettlement (s : State) (slot : Nat) : Bool :=
  match s.pendingChange slot with
  | some (.settleHold _ _ _) => true
  | _ => false

/-! ### Retiring, worn-resident, clear due -/

/-- The entry in a slot is RETIRING, by its image or by the slot's retire mark (R9). -/
def State.isRetiring (s : State) (slot : Nat) (e : Entry) : Bool :=
  decide (e.state = .retiring) || (s.slot slot).retireMark

/-- The state of an entry as verdicts and Read Entry see it (R9; DEDUCED, log 26). -/
def State.entryState (s : State) (slot : Nat) (e : Entry) : EntryState :=
  if s.isRetiring slot e then .retiring else e.state

/-- A slot holds a RETIRING entry. -/
def State.slotRetiring (s : State) (slot : Nat) : Bool :=
  match s.entryAt slot with
  | some e => s.isRetiring slot e
  | none => false

/-- An entry in a WORN slot is worn-resident (R16). -/
def State.wornResident (s : State) (slot : Nat) : Bool := (s.slot slot).worn

/-- A SLOT_CLEAR for the slot is queued or in progress. -/
def State.clearQueued (s : State) (slot : Nat) : Bool :=
  s.commits.queue.any fun c => decide (c.change = .clearEntry slot)

/-- An entry is clear due (R25): on the list, or its SLOT_CLEAR queued or in progress. -/
def State.isClearDue (s : State) (slot : Nat) : Bool := s.engine.clearDue.contains slot || s.clearQueued slot

/-! ### The guard (R36) -/

/-- A change is a CLASS_WRITE for a class that carries a guarded record. -/
def Change.guards (c : Nat) : Change → Bool
  | .writeClass n r => n == c && r.guarded
  | _ => false

/-- A class is under guard: by its record in use, or by a CLASS_WRITE queued or in progress (R36). -/
def State.underGuard (s : State) (c : Nat) : Bool :=
  (s.classOf c).guarded || s.commits.queue.any fun x => x.change.guards c

/-- A CLASS_WRITE for a class is queued or in progress (R34). -/
def State.classPending (s : State) (c : Nat) : Bool :=
  s.commits.queue.any fun x => match x.change with
    | .writeClass n _ => n == c
    | _ => false

/-! ### Counts of Status (R13, R186) -/

/-- The slot is OCCUPIED. -/
def WorkingSlot.isOccupied (w : WorkingSlot) : Bool := w.content.entry?.isSome

/-- Live entries. -/
def State.liveEntries (s : State) : Nat := Table.count (fun _ w => w.isOccupied) s.engine.slots
/-- OCCUPIED spill slots. -/
def State.spillOccupied (s : State) : Nat := Table.count (fun n w => w.isOccupied && inSpill n) s.engine.slots
/-- WORN slots. -/
def State.wornSlots (s : State) : Nat := Table.count (fun _ w => w.worn) s.engine.slots
/-- OCCUPIED, WORN slots. -/
def State.wornResidents (s : State) : Nat := Table.count (fun _ w => w.isOccupied && w.worn) s.engine.slots
/-- Clear-due entries not yet cleared (R25). -/
def State.clearDueCount (s : State) : Nat :=
  s.engine.clearDue.length + (s.commits.queue.filter fun c => decide (c.origin = .clearDue)).length

/-! ### Hold closures (R95) -/

/-- The table engine is handed a closure on a slot: a RETIRING entry left with no open hold becomes clear due (R95). -/
def State.handOver (s : State) (slot : Nat) : State :=
  if s.openHolds slot = 0 ∧ s.slotRetiring slot = true then s.joinClearDue slot else s

/-- A live hold ends: its place becomes FREE, the closing record becomes its generation and the outcome, and the closure
is handed over (R74, R80, R84, R95). -/
def State.endHold (s : State) (n : Nat) (outcome : HoldOutcome) : State :=
  match (s.place n).live with
  | some h =>
    (s.setPlace n ⟨(s.place n).generation, none, some ((s.place n).generation, outcome)⟩).handOver h.slot
  | none => s

end Sys2Proof.Machine
end

