-- ==== Sys2Proof/Machine/Changes.lean ====
section
/-! DEFINITION. Single-entry changes (07): the validation of Table 7-1, which batch items share (R145), and the rows
INSERT, MODIFY, TOP_UP, BAR, UNBAR, RETIRE, RELOCATE and READ_ENTRY. -/

namespace Sys2Proof.Machine

/-- A refusal: its status and the fields it carries. -/
abbrev Refused := Status × List Byte

/-- A check of Table 7-1: whether it fails, and the refusal it then gives. -/
abbrev Check := Bool × Refused

/-- The first check that fails (R121). -/
def firstRefusal (checks : List Check) : Option Refused := (checks.find? (·.1)).map (·.2)

/-! ### The image a change leaves -/

/-- Revisions: 255 is followed by 0 (R5). -/
def Entry.nextRevision (e : Entry) : Nat := (e.revision + 1) % 256

/-- The masked fields set or made absent (R129). -/
def Entry.withFields (e : Entry) (f : FieldChanges) : Entry :=
  { e with
    cls := f.cls.getD e.cls
    holdsLimit := f.holdsLimit.getD e.holdsLimit
    validFrom := f.validFrom.getD e.validFrom
    validUntil := f.validUntil.getD e.validUntil
    balance := f.balance.getD e.balance
    ceiling := f.ceiling.getD e.ceiling
    groupTag := f.groupTag.getD e.groupTag }

/-- The image with its revision raised by 1 (R5). -/
def Entry.revised (e : Entry) : Entry := { e with revision := e.nextRevision }

/-- The image a Modify writes (R108, R152). -/
def Entry.modified (e : Entry) (f : FieldChanges) : Entry := (e.withFields f).revised

/-- The image a Top Up writes (R108, R131). -/
def Entry.toppedUp (e : Entry) (amount : Nat) : Entry := { e with balance := e.balance.map (· + amount) }.revised

/-- The image with a state set (R108): Bar, Unbar, and a write of RETIRING. -/
def Entry.withState (e : Entry) (state : EntryState) : Entry := { e with state := state }.revised

/-! ### Validation (Table 7-1) -/

/-- The token ID an item names. -/
def Item.id : Item → List Byte
  | .insert e => e.id
  | .modify id _ _ => id
  | .topUp id _ => id
  | .bar id _ => id
  | .unbar id _ => id
  | .retire id _ => id

/-- The expected revision an item gives (R125). -/
def Item.expected : Item → Option Nat
  | .insert _ => none
  | .modify _ x _ => x
  | .topUp _ _ => none
  | .bar _ x => x
  | .unbar _ x => x
  | .retire _ x => x

/-- A change that a worn-resident entry refuses (check 7): all but Retire, which passes over it (R133). -/
def Item.writesImage : Item → Bool
  | .insert _ => true
  | .modify _ _ _ => true
  | .topUp _ _ => true
  | .bar _ _ => true
  | .unbar _ _ => true
  | .retire _ _ => false

/-- The classes an item touches on an entry (R37). -/
def Item.classes (e : Entry) : Item → List Nat
  | .insert image => [image.cls]
  | .modify _ _ f => e.cls :: f.cls.toList
  | .topUp _ _ => [e.cls]
  | .bar _ _ => [e.cls]
  | .unbar _ _ => [e.cls]
  | .retire _ _ => [e.cls]

/-- Check 8: CHG_INH asserted in the sample and a class touched under guard (R37, R39). -/
def State.guardFails (s : State) (sample : Bool) (classes : List Nat) : Bool := sample && classes.any s.underGuard

/-- Check 9 of a Modify (R129): window, held units, open holds, on the resulting image. The valid-from and valid-until of a
BAD_FIELD response are always present there and are sent as their value bytes alone (DEDUCED, log 15). -/
def State.modifyChecks (s : State) (slot : Nat) (image : Entry) : List Check :=
  [(!windowOk image.validFrom image.validUntil,
      .badField, valueOrZero 4 image.validFrom ++ valueOrZero 4 image.validUntil),
   ((match image.balance with
     | some b => decide (b < s.heldUnits slot)
     | none => false), .held, be 3 (s.heldUnits slot)),
   (decide (image.holdsLimit < s.openHolds slot), .held, be 1 (s.openHolds slot))]

/-- Check 9 of a Top Up (R131). The balance of a RANGE response is always present there and is sent as its value bytes alone
(DEDUCED, log 15). -/
def topUpChecks (e : Entry) (amount : Nat) : List Check :=
  match e.balance with
  | none => [(true, .badField, [])]
  | some b => [(decide (maxBalance < b + amount), .range, be 3 b)]

/-- Check 9 by kind. -/
def State.kindChecks (s : State) (slot : Nat) (e : Entry) : Item → List Check
  | .insert _ => []
  | .modify _ _ f => s.modifyChecks slot (e.withFields f)
  | .topUp _ amount => topUpChecks e amount
  | .bar _ _ => []
  | .unbar _ _ => []
  | .retire _ _ => []

/-- Checks 4 to 9 on the entry that a change names (Table 7-1, Table 8-2). -/
def State.entryChecks (s : State) (sample : Bool) (item : Item) (slot : Nat) (e : Entry) : List Check :=
  [(s.isPending slot, .entryBusy, [s.pendingCode slot]),
   (s.isRetiring slot e, .retiring, []),
   (item.expected.any fun x => !(x == e.revision), .revisionMismatch, [byte e.revision, e.state.code]),
   (item.writesImage && s.wornResident slot, .storeFault, []),
   (s.guardFails sample (item.classes e), .guarded, [])]
    ++ s.kindChecks slot e item

/-- Checks 3 to 9 of an Insert: presence, guard, placement (R126, R145, R146). -/
def State.validateInsert (s : State) (sample : Bool) (image : Entry) : Except Refused Nat :=
  match s.foundOrReserved image.id with
  | some n => .error (.alreadyPresent, be 2 n)
  | none =>
    if s.guardFails sample [image.cls] = true then .error (.guarded, [])
    else match s.placement image.id with
      | some n => .ok n
      | none => .error (.tableFull, be 2 s.wornSlots)

/-- Checks 3 to 9 of the other changes: the slot of the entry, or the first refusal (R121, R145). -/
def State.validateNamed (s : State) (sample : Bool) (item : Item) : Except Refused Nat :=
  match s.lookup item.id with
  | none => .error (.notFound, [])
  | some slot =>
    match s.entryAt slot with
    | none => .error (.notFound, [])
    | some e =>
      match firstRefusal (s.entryChecks sample item slot e) with
      | some x => .error x
      | none => .ok slot

/-- Checks 3 to 9 of a change under a sample of CHG_INH: the slot it will write, or the refusal. -/
def State.validate (s : State) (sample : Bool) (item : Item) : Except Refused Nat :=
  match item with
  | .insert image => s.validateInsert sample image
  | .modify _ _ _ => s.validateNamed sample item
  | .topUp _ _ => s.validateNamed sample item
  | .bar _ _ => s.validateNamed sample item
  | .unbar _ _ => s.validateNamed sample item
  | .retire _ _ => s.validateNamed sample item

/-! ### The takes -/

/-- The commit a change queues for its slot (R100). -/
def Item.change (slot : Nat) : Item → Change
  | .insert image => .insertEntry slot image
  | .modify _ _ f => .modifyEntry slot f
  | .topUp _ amount => .topUpEntry slot amount
  | .bar _ _ => .setEntryState slot .barred
  | .unbar _ _ => .setEntryState slot .active
  | .retire _ _ => .retireEntry slot

/-- An INSERT's slot becomes RESERVED for its ID at once (R14, R20); other items reserve nothing. -/
def State.reserveFor (s : State) (item : Item) (slot : Nat) (holder : Holder) : State :=
  if item.isInsert = true then s.reserveSlot slot item.id holder else s

/-- The take of a change, its payload read (R120, R121): check 1 BAD_FIELD, check 2 APPLY_IN_PROGRESS, then the
validation under one sample of CHG_INH; a change that passes has its commit admitted and a place reserved. -/
def takeChange (item : Option Item) (r : Request) (s : State) : State :=
  match item with
  | none => s.answer .mp r .badField []
  | some x =>
    if s.batch.isLocked = true then s.answer .mp r .applyInProgress []
    else match s.validate s.inhibited x with
      | .error (status, fields) => s.answer .mp r status fields
      | .ok slot => (s.reserveFor x slot .singleInsert).accept .mp r (x.change slot)

/-- INSERT (R126). -/
def execInsert (s : State) : Host.Outcome State Fault Refusal :=
  .next (s.take .mp .insert fun r => takeChange (readInsertItem r.payload) r)

/-- MODIFY (R128, R129). -/
def execModify (s : State) : Host.Outcome State Fault Refusal :=
  .next (s.take .mp .modify fun r => takeChange (readModify r.payload) r)

/-- TOP_UP (R131). -/
def execTopUp (s : State) : Host.Outcome State Fault Refusal :=
  .next (s.take .mp .topUp fun r => takeChange (readTopUp r.payload) r)

/-- BAR (R132). -/
def execBar (s : State) : Host.Outcome State Fault Refusal :=
  .next (s.take .mp .bar fun r => takeChange (readBarItem r.payload) r)

/-- UNBAR (R132). -/
def execUnbar (s : State) : Host.Outcome State Fault Refusal :=
  .next (s.take .mp .unbar fun r => takeChange (readUnbarItem r.payload) r)

/-- RETIRE (R133). -/
def execRetire (s : State) : Host.Outcome State Fault Refusal :=
  .next (s.take .mp .retire fun r => takeChange (readRetireItem r.payload) r)

/-! ### Relocate (R135) -/

/-- A named target is eligible: FREE, sound, and a way of the entry's home bucket or a spill slot (R21). -/
def State.eligibleTarget (s : State) (id : List Byte) (target : Nat) : Bool :=
  decide (target < Config.slots) && s.placeable target && ((waysOf (homeBucket id)).contains target || inSpill target)

/-- The occupancy and wear that a BAD_SLOT response carries (R135); for a slot that does not exist the spec states no
value, and both bytes are FREE VALUES (log 12). -/
def State.badSlotFields (s : State) (target : Nat) : List Byte :=
  if target < Config.slots then [(s.slot target).content.code, yesNo (s.slot target).worn]
  else [Config.freeByte s.freeIndex, Config.freeByte (s.freeIndex + 1)]

/-- The free values that a BAD_SLOT response used are not used again (log 12). -/
def State.spendFree (s : State) (target : Nat) : State :=
  if target < Config.slots then s else { s with freeIndex := s.freeIndex + 2 }

/-- The take of a Relocate (R135): checks 1 to 4, then its target. -/
def takeRelocate (r : Request) (s : State) : State :=
  match readRelocate r.payload with
  | none => s.answer .mp r .badField []
  | some (id, target) =>
    if s.batch.isLocked = true then s.answer .mp r .applyInProgress []
    else match s.lookup id with
      | none => s.answer .mp r .notFound []
      | some slot =>
        if s.isPending slot = true then s.answer .mp r .entryBusy [s.pendingCode slot]
        else match target with
          | some t =>
            if s.eligibleTarget id t = true then
              (s.reserveSlot t id .move).accept .mp r (.moveEntry slot t)
            else (s.spendFree t).answer .mp r .badSlot (s.badSlotFields t)
          | none =>
            match s.placement id with
            | some t => (s.reserveSlot t id .move).accept .mp r (.moveEntry slot t)
            | none => s.answer .mp r .tableFull []

/-- RELOCATE (R135). -/
def execRelocate (s : State) : Host.Outcome State Fault Refusal := .next (s.take .mp .relocate takeRelocate)

/-! ### Read Entry (R137, R138) -/

/-- The conditions byte of Table 10-7. -/
def State.conditions (s : State) (slot : Nat) : Byte :=
  byte ((if s.changing slot then 1 else 0) + (if s.locked slot then 2 else 0) + (if s.wornResident slot then 4 else 0)
    + (if (s.slot slot).retireMark then 8 else 0) + (if s.isClearDue slot then 16 else 0)
    + (if s.pendingSettlement slot then 32 else 0))

/-- The payload of Table 10-7. -/
def State.entryReport (s : State) (slot : Nat) (e : Entry) : List Byte :=
  be 2 slot ++ be 2 (homeBucket e.id) ++ [yesNo (inSpill slot)] ++ e.image (s.entryState slot e)
    ++ [yesNo e.balance.isNone] ++ be 3 (s.heldUnits slot) ++ be 1 (s.openHolds slot)
    ++ valueOrZero 3 (s.available slot e) ++ [s.pendingCode slot, s.conditions slot]

/-- The take of a Read Entry (R137). -/
def takeReadEntry (r : Request) (s : State) : State :=
  match readEntryName r.payload with
  | none => s.answer .mp r .badField []
  | some (.byId id) =>
    match s.lookup id with
    | none => s.answer .mp r .notFound []
    | some slot =>
      match s.entryAt slot with
      | none => s.answer .mp r .notFound []
      | some e => s.answer .mp r .ok (s.entryReport slot e)
  | some (.bySlot slot) =>
    if Config.slots ≤ slot then s.answer .mp r .badSlot []
    else match s.entryAt slot with
      | none => s.answer .mp r .notFound [(s.slot slot).content.code, yesNo (s.slot slot).worn]
      | some e => s.answer .mp r .ok (s.entryReport slot e)

/-- READ_ENTRY (R137). -/
def execReadEntry (s : State) : Host.Outcome State Fault Refusal := .next (s.take .mp .readEntry takeReadEntry)

end Sys2Proof.Machine
end

