-- ==== Sys2Proof/Machine/Batches.lean ====
section
/-! DEFINITION. Change batches (08): the rows STAGE, DISCARD, READ_BATCH, APPLY and BATCH_COMMIT_ADMISSION. (Stage-write and
promotion completions are in Completions.) -/

namespace Sys2Proof.Machine

/-- Replace the batch unit. -/
def State.setBatch (s : State) (b : Batch) : State := { s with batch := b }

/-! ### Stage, Discard, Read Batch -/

/-- The index of the item that names an ID (R141 check 4). -/
def Batch.indexOf (b : Batch) (id : List Byte) : Option Nat := b.items.findIdx? fun x => decide (x.id = id)

/-- The take of a Stage (R141). -/
def takeStage (r : Request) (s : State) : State :=
  if s.batch.isLocked = true then s.answer .mp r .batchBusy []
  else match readStage r.payload with
    | none => s.answer .mp r .badField []
    | some item =>
      if Config.batchItems ≤ s.batch.items.length then s.answer .mp r .batchFull []
      else match s.batch.indexOf item.id with
        | some index => s.answer .mp r .duplicateInBatch (be 1 index)
        | none =>
          (s.setBatch { s.batch with state := .opened, items := s.batch.items ++ [item] }).answer .mp r .ok
            (be 1 s.batch.items.length ++ be 1 (s.batch.items.length + 1))

/-- STAGE (R141). -/
def execStage (s : State) : Host.Outcome State Fault Refusal := .next (s.take .mp .stage takeStage)

/-- The take of a Discard (R142). -/
def takeDiscard (r : Request) (s : State) : State :=
  match s.batch.state with
  | .empty => s.answer .mp r .batchEmpty []
  | .writing => s.answer .mp r .batchBusy []
  | .promoting => s.answer .mp r .batchBusy []
  | .opened =>
    (s.setBatch { s.batch with state := .empty, items := [], lastResult := none }).answer .mp r .ok
      (be 1 s.batch.items.length)

/-- DISCARD (R142). -/
def execDiscard (s : State) : Host.Outcome State Fault Refusal := .next (s.take .mp .discard takeDiscard)

/-- Stage writes a validated batch needs (R143, R151). -/
def Batch.needed (b : Batch) : Nat := (b.records.filter (·.needsStage)).length

/-- The last result as Read Batch carries it: possibly empty, so with its presence byte (R143, R189). -/
def lastResultField : Option BatchResult → List Byte
  | none => [0#8, 0#8, 0#8, 0#8]
  | some x => [1#8, x.origin.code, byte x.index, x.status.code]

/-- The content of a Read Batch response (R143). -/
def Batch.report (b : Batch) : List Byte :=
  b.state.code :: byte b.items.length :: (lastResultField b.lastResult
    ++ (if b.isLocked then be 1 b.needed ++ be 1 b.staged else []))

/-- The take of a Read Batch (R143). -/
def takeReadBatch (r : Request) (s : State) : State := s.answer .mp r .ok s.batch.report

/-- READ_BATCH (R143). -/
def execReadBatch (s : State) : Host.Outcome State Fault Refusal := .next (s.take .mp .readBatch takeReadBatch)

/-! ### Apply and validation -/

/-- Whether an item needs a STAGE_WRITE (R151): all but a RETIRE of an entry with no open hold or in a WORN slot. -/
def State.needsStage (s : State) (item : Item) (slot : Nat) : Bool :=
  match item with
  | .retire _ _ => !(decide (s.openHolds slot = 0)) && !(s.wornResident slot)
  | .insert _ => true
  | .modify _ _ _ => true
  | .topUp _ _ => true
  | .bar _ _ => true
  | .unbar _ _ => true

/-- Validation of items from an index on, in index order (R145): each item is judged on a state with the reservations
made for the earlier ones; the first failure gives its index and status. -/
def State.validateItems (s : State) (sample : Bool) (index : Nat) :
    List Item → Except (Nat × Status) (State × List ItemRecord)
  | [] => .ok (s, [])
  | item :: rest =>
    match s.validate sample item with
    | .error (status, _) => .error (index, status)
    | .ok slot =>
      match (s.reserveFor item slot .batchInsert).validateItems sample (index + 1) rest with
      | .error x => .error x
      | .ok (t, records) => .ok (t, ⟨slot, s.needsStage item slot⟩ :: records)

/-- An accepted Apply (R148): locks and reservations by the validation records, WRITING, notice place reserved. -/
def State.acceptApply (s : State) (r : Request) (records : List ItemRecord) : State :=
  let batch : Batch :=
    { s.batch with
      state := .writing, records := records, lastResult := none, fed := 0, promoteFed := false, staged := 0
      applyTag := r.tag }
  ((s.setBatch batch).answer .mp r .accepted (be 1 batch.items.length ++ be 1 batch.needed)).reserve .mp applyNotice r.tag

/-- The take of an Apply (R144): refused at once, or validated in the same take and REJECTED (R147) or ACCEPTED. -/
def takeApply (r : Request) (s : State) : State :=
  if s.batch.state = .empty then s.answer .mp r .batchEmpty []
  else if s.batch.isLocked = true then s.answer .mp r .batchBusy []
  else if s.scan.state = .running ∨ s.scan.state = .draining then s.answer .mp r .scanActive []
  else match s.validateItems s.inhibited 0 s.batch.items with
    | .error (index, status) =>
      (s.setBatch { s.batch with lastResult := some ⟨.validation, index, status⟩ }).answer .mp r .rejected
        (be 1 index ++ [status.code])
    | .ok (t, records) => t.acceptApply r records

/-- APPLY (R144 to R148). -/
def execApply (s : State) : Host.Outcome State Fault Refusal := .next (s.take .mp .apply takeApply)

/-! ### The batch unit's feed (R151) -/

/-- The first item at or after an index that needs a STAGE_WRITE, with its record. -/
def nextStage : Nat → List ItemRecord → Option (Nat × ItemRecord)
  | _, [] => none
  | index, x :: rest => if x.needsStage then some (index, x) else nextStage (index + 1) rest

/-- The commit the batch unit has ready (R151), with the feed's progress after its admission: the next STAGE_WRITE in
index order, then the PROMOTE, which is ready when the last STAGE_WRITE has been admitted. -/
def Batch.offer (b : Batch) : Option (Change × Batch) :=
  match b.state with
  | .writing =>
    match nextStage b.fed (b.records.drop b.fed) with
    | some (index, x) => some (.stageItem index x.slot, { b with fed := index + 1 })
    | none =>
      if b.promoteFed = true then none
      else some (.promoteBatch, { b with fed := b.records.length, promoteFed := true })
  | .empty => none
  | .opened => none
  | .promoting => none

/-- An entry that this commit of a batch is for is pending already: admitted now, it would be the entry's second commit (R23). -/
def State.hasPendingSubject (s : State) (c : Change) : Bool :=
  s.batch.lockedSlots.any fun n => c.isFor s.batch.lockedSlots n && s.isPending n

/-- The commit the batch unit may be admitted with: the one it has ready (R151), unless an entry it is for is pending, which
every producer tests at the moment it would admit the commit (R23, R101). So the PROMOTE waits until no STAGE_WRITE of a locked
entry is queued or in progress; a STAGE_WRITE of an INSERT item does not hold it back (R153; DEDUCED, log 31). -/
def State.batchOffer (s : State) : Option (Change × Batch) :=
  match s.batch.offer with
  | some (change, batch) => if s.hasPendingSubject change = true then none else some (change, batch)
  | none => none

/-- The entry the clear-due producer offers: the lowest-numbered on its list that is not pending (R25, R106). -/
def State.clearDueOffer (s : State) : Option Nat := s.engine.clearDue.find? fun n => !s.isPending n

/-- An internal producer may be admitted: intake is open and more than four places are free (R105). -/
def State.admitsInternal (s : State) : Bool := decide (s.phase = .running) && decide (Config.takePlaces < s.freeCommits)

/-- The admission of the batch unit's next commit; the clear-due producer goes first (R105, R106). -/
def State.admitBatch (s : State) : State :=
  if s.admitsInternal = true ∧ s.clearDueOffer = none then
    match s.batchOffer with
    | some (change, batch) => (s.setBatch batch).joinQueue ⟨change, .batch⟩
    | none => s
  else s

/-- BATCH_COMMIT_ADMISSION (R105, R151). -/
def execBatchCommitAdmission (s : State) : Host.Outcome State Fault Refusal := .next s.admitBatch

/-- The admission of the SLOT_CLEAR of the entry the clear-due producer offers (R105, R106). -/
def State.admitClear (s : State) : State :=
  if s.admitsInternal = true then
    match s.clearDueOffer with
    | some n => (s.leaveClearDue n).joinQueue ⟨.clearEntry n, .clearDue⟩
    | none => s
  else s

/-- CLEAR_DUE_ADMISSION (R106). -/
def execClearDueAdmission (s : State) : Host.Outcome State Fault Refusal := .next s.admitClear

end Sys2Proof.Machine
end

