-- ==== Sys2Proof/Machine/Classes.lean ====
section
/-! DEFINITION. Classes and the change-inhibit line (02): the rows SET_CLASS, READ_CLASS and CHG_INH_CHANGE. -/

namespace Sys2Proof.Machine

/-- The take of a Set Class (R31): fields, then the guard (R38); one that passes queues a CLASS_WRITE. -/
def takeSetClass (r : Request) (s : State) : State :=
  match readSetClass r.payload with
  | none => s.answer .mp r .badField []
  | some (c, record) =>
    if s.inhibited = true ∧ s.underGuard c = true then s.answer .mp r .guarded []
    else s.accept .mp r (.writeClass c record)

/-- SET_CLASS (R31). -/
def execSetClass (s : State) : Host.Outcome State Fault Refusal := .next (s.take .mp .setClass takeSetClass)

/-- The take of a Read Class (R34): the record in use and the pending flag. -/
def takeReadClass (r : Request) (s : State) : State :=
  let c := field r.payload 0 1
  if c < Config.classes then
    s.answer .mp r .ok (byte c :: ((s.classOf c).bytes ++ [yesNo (s.classPending c)]))
  else s.answer .mp r .badField []

/-- READ_CLASS (R34). -/
def execReadClass (s : State) : Host.Outcome State Fault Refusal := .next (s.take .mp .readClass takeReadClass)

/-- CHG_INH_CHANGE (R35): the level changes; only later samples see it. -/
def execChgInhChange (asserted : Bool) (s : State) : Host.Outcome State Fault Refusal :=
  .next { s with inhibited := asserted }

end Sys2Proof.Machine
end

