-- ==== Sys2Proof/Machine/Holds.lean ====
section
/-! DEFINITION. The hold unit (05): the handle check and the rows EXTEND, SETTLE, RELEASE, FORCE_RELEASE, QUERY_HOLD,
LIST_HOLDS and HOLD_EXPIRY. (Draw, which opens holds, is in Verdicts; the settlement's completion is in Completions.) -/

namespace Sys2Proof.Machine

/-- What a place says of a number and generation (R77 steps 3 to 5, R81). -/
inductive PlaceAnswer
  | live (h : Hold)
  | ended (outcome : HoldOutcome)
  | unknown
deriving DecidableEq, Repr

/-- A live hold of that generation, else a closing record for it, else nothing (R77, R81). -/
def HoldPlace.answer (x : HoldPlace) (generation : Nat) : PlaceAnswer :=
  let ended : PlaceAnswer :=
    match x.closing with
    | some (g, outcome) => if g = generation then .ended outcome else .unknown
    | none => .unknown
  match x.live with
  | some h => if x.generation = generation then .live h else ended
  | none => ended

/-- The outcome of a handle check (R77). -/
inductive HandleAnswer
  | found (h : Hold)
  | ended (outcome : HoldOutcome)
  | refused (status : Status)
deriving DecidableEq, Repr

/-- The handle check (R77); a Query Hold on MP passes over the ownership test. -/
def State.checkHandle (s : State) (p : Port) (h : Handle) : HandleAnswer :=
  if Config.holdPlaces ≤ h.number then .refused .badField
  else if h.epoch ≠ s.store.startCounter then .refused .restarted
  else match (s.place h.number).answer h.generation with
    | .live x => if p ≠ .mp ∧ x.owner ≠ p then .refused .notOwner else .found x
    | .ended outcome => .ended outcome
    | .unknown => .refused .noSuchHold

/-- The status of a hold that has ended (R77 step 4). -/
def HoldOutcome.status : HoldOutcome → Status
  | .expired => .holdExpired
  | .settled => .holdClosed
  | .released => .holdClosed
  | .forced => .holdClosed

/-- The hold is SETTLING. -/
def Hold.isSettling (h : Hold) : Bool :=
  match h.state with
  | .opened => false
  | .settling _ => true

/-- Seconds from the hold clock to a value, 0 where it has been reached (R79, R82). -/
def State.secondsTo (s : State) (v : Nat) : Nat := v - s.time.holdClock

/-! ### Extend (R79) -/

/-- The deadline an Extend sets: the old deadline plus e, bounded by the hold's limit (R79). -/
def Hold.extended (h : Hold) (e : Nat) : Nat := min (h.deadline + e) h.limit

/-- The take of an Extend (R79). -/
def takeExtend (p : Port) (r : Request) (s : State) : State :=
  let handle := readHandle r.payload
  let e := field r.payload 4 2
  if e = 0 then s.answer p r .badField []
  else match s.checkHandle p handle with
    | .refused status => s.answer p r status []
    | .ended outcome => s.answer p r outcome.status []
    | .found h =>
      if h.isSettling = true then s.answer p r .holdSettling []
      else
        (s.setHold handle.number { h with deadline := h.extended e }).answer p r .ok
          (be 4 (s.secondsTo (h.extended e)) ++ [yesNo (decide (h.extended e = h.limit))])

/-- EXTEND (R79). -/
def execExtend (p : Port) (s : State) : Host.Outcome State Fault Refusal := .next (s.take p .extend (takeExtend p))

/-! ### Release and Force Release (R80, R81) -/

/-- The take of a Release (R80). -/
def takeRelease (p : Port) (r : Request) (s : State) : State :=
  let handle := readHandle r.payload
  match s.checkHandle p handle with
  | .refused status => s.answer p r status []
  | .ended outcome => s.answer p r outcome.status []
  | .found h =>
    if h.isSettling = true then s.answer p r .holdSettling []
    else (s.endHold handle.number .released).answer p r .ok (be 2 h.units)

/-- RELEASE (R80). -/
def execRelease (p : Port) (s : State) : Host.Outcome State Fault Refusal := .next (s.take p .release (takeRelease p))

/-- The take of a Force Release (R81): hold number and generation, no epoch and no owner test. -/
def takeForceRelease (r : Request) (s : State) : State :=
  let n := field r.payload 0 1
  if Config.holdPlaces ≤ n then s.answer .mp r .badField []
  else match (s.place n).answer (field r.payload 1 1) with
    | .live h =>
      if h.isSettling = true then s.answer .mp r .holdSettling []
      else (s.endHold n .forced).answer .mp r .ok (portCode h.owner :: (be 2 h.slot ++ be 2 h.units))
    | .ended outcome => s.answer .mp r outcome.status []
    | .unknown => s.answer .mp r .noSuchHold []

/-- FORCE_RELEASE (R81). -/
def execForceRelease (s : State) : Host.Outcome State Fault Refusal := .next (s.take .mp .forceRelease takeForceRelease)

/-! ### Query Hold and List Holds (R82, R83) -/

/-- The settle units of a SETTLING hold. -/
def HoldState.settleUnits : HoldState → Option Nat
  | .opened => none
  | .settling u => some u

/-- The content of an OK response to Query Hold (R82). -/
def State.holdContent (s : State) (h : Hold) : List Byte :=
  h.state.code :: portCode h.owner :: (be 2 h.units
    ++ (match h.state with
        | .opened => []
        | .settling u => be 2 u)
    ++ be 4 (s.secondsTo h.deadline) ++ be 4 (s.secondsTo h.limit))

/-- The take of a Query Hold (R82). -/
def takeQueryHold (p : Port) (r : Request) (s : State) : State :=
  match s.checkHandle p (readHandle r.payload) with
  | .refused status => s.answer p r status []
  | .ended outcome => s.answer p r outcome.status [outcome.code]
  | .found h => s.answer p r .ok (s.holdContent h)

/-- QUERY_HOLD (R82). -/
def execQueryHold (p : Port) (s : State) : Host.Outcome State Fault Refusal := .next (s.take p .queryHold (takeQueryHold p))

/-- One hold of a List Holds response (R83). -/
def State.listedHold (s : State) (x : Nat × Hold) : List Byte :=
  byte x.1 :: byte (s.place x.1).generation :: (be 2 x.2.epoch ++ portCode x.2.owner :: (be 2 x.2.slot ++ be 2 x.2.units
    ++ x.2.state.code :: (optional 2 x.2.state.settleUnits ++ be 4 (s.secondsTo x.2.deadline))))

/-- The place after the last hold listed, when a live hold exists at or above it (R83). -/
def nextPlace (listed rest : List (Nat × Hold)) : Option Nat :=
  match listed.getLast?, rest with
  | some (n, _), _ :: _ => some (n + 1)
  | _, _ => none

/-- The take of a List Holds (R83): up to four live holds from the start place upwards. The count of the holds is one byte; no
table gives its width (DEDUCED, log 17). -/
def takeListHolds (r : Request) (s : State) : State :=
  let start := field r.payload 0 1
  if Config.holdPlaces ≤ start then s.answer .mp r .badField []
  else
    let live := s.liveHolds.filter fun x => decide (start ≤ x.1)
    let listed := live.take 4
    s.answer .mp r .ok (byte listed.length :: ((listed.map s.listedHold).flatten
      ++ optional 1 (nextPlace listed (live.drop 4))))

/-- LIST_HOLDS (R83). -/
def execListHolds (s : State) : Host.Outcome State Fault Refusal := .next (s.take .mp .listHolds takeListHolds)

/-! ### Settle (R88) -/

/-- The refusal of a Settle for its hold or its entry, by checks 2 to 6 of R88. -/
def State.settleRefusal (s : State) (h : Hold) (units : Nat) : Option Status :=
  if h.isSettling = true then some .holdSettling
  else if h.units < units then some .exceedsHold
  else if s.isPending h.slot = true then some .entryBusy
  else if s.locked h.slot = true then some .entryBusy
  else if s.wornResident h.slot = true then some .storeFault
  else none

/-- The take of a Settle (R88): refused at once, or the hold becomes SETTLING and one ENTRY_WRITE is queued with a
response place reserved. -/
def takeSettle (p : Port) (r : Request) (s : State) : State :=
  let handle := readHandle r.payload
  let units := field r.payload 4 2
  match s.checkHandle p handle with
  | .refused status => s.answer p r status []
  | .ended outcome => s.answer p r outcome.status []
  | .found h =>
    match s.settleRefusal h units with
    | some status => s.answer p r status []
    | none =>
      (s.setHold handle.number { h with state := .settling units }).accept p r
        (.settleHold h.slot handle.number units)

/-- SETTLE (R88). -/
def execSettle (p : Port) (s : State) : Host.Outcome State Fault Refusal := .next (s.take p .settle (takeSettle p))

/-! ### Expiry (R84) -/

/-- The expiry of a due hold (R84): it ends EXPIRED if it is still OPEN with its deadline reached; otherwise the expiry
has no effect and is over. -/
def State.expire (s : State) (n : Nat) : State :=
  match (s.place n).live with
  | some h =>
    if h.due = true then
      if h.state = .opened ∧ h.deadline ≤ s.time.holdClock then s.endHold n .expired
      else s.setHold n { h with due := false }
    else s
  | none => s

/-- HOLD_EXPIRY (R84). -/
def execHoldExpiry (place : Nat) (s : State) : Host.Outcome State Fault Refusal :=
  .next (if s.phase = .running then s.expire place else s)

end Sys2Proof.Machine
end

