-- ==== Sys2Proof/Machine/Scans.lean ====
section
/-! DEFINITION. Scans (09): the rows START_SCAN, SUSPEND_SCAN, RESUME_SCAN, ABORT_SCAN and SCAN_STEP, and the end of a scan. -/

namespace Sys2Proof.Machine

/-- Replace the scan unit. -/
def State.setScan (s : State) (x : Scan) : State := { s with scan := x }

/-! ### The end of a scan (R167, R170, R171) -/

/-- SCAN_DONE for a walk that passed the last slot, SCAN_ABORTED otherwise (R167, R170; log 22). -/
def Scan.endStatus (x : Scan) : Status := if x.cursor = Config.slots then .scanDone else .scanAborted

/-- The kind, argument and scan time as responses carry them (R159, R171): absent ones by their presence byte (DEDUCED, log 15).
The argument takes two bytes for every kind, as in the request (DEDUCED, log 17). -/
def Scan.selection (x : Scan) : List Byte :=
  (match x.kind with
   | some k => [k.code]
   | none => [0#8]) ++ optional 2 x.argument ++ optional 4 x.scanTime

/-- The content of the scan notice (R171). -/
def Scan.notice (x : Scan) : List Byte :=
  x.selection ++ be 2 x.cursor ++ be 2 x.retired ++ be 2 x.marked ++ be 2 x.rehomed ++ be 2 x.skipped

/-- The scan becomes IDLE and its notice is filled (R158, R171). -/
def State.endScan (s : State) : State :=
  (s.setScan { s.scan with state := .idle }).fillReserved .mp scanNotice s.scan.startTag s.scan.endStatus s.scan.notice

/-- The walk ends: DRAINING while commits are in flight, else IDLE with the notice (R167, R170). -/
def State.endWalk (s : State) : State :=
  if s.scan.inFlight = 0 then s.endScan else s.setScan { s.scan with state := .draining }

/-- A completion of a scan commit: the commits in flight fall by 1, a count rises, and the last completion of a
DRAINING scan ends it (R164, R165, R167). -/
def State.scanCompletion (s : State) (count : Scan → Scan) : State :=
  let x := count { s.scan with inFlight := s.scan.inFlight - 1 }
  if x.state = .draining ∧ x.inFlight = 0 then (s.setScan x).endScan else s.setScan x

/-- Report a completion to the scan unit when the commit is of scan origin (R99). -/
def State.tellScan (s : State) (o : Origin) (count : Scan → Scan) : State :=
  match o with
  | .scan => s.scanCompletion count
  | .port _ _ _ => s
  | .clearDue => s
  | .batch => s

/-- One more entry retired. -/
def Scan.countRetired (x : Scan) : Scan := { x with retired := x.retired + 1 }
/-- One more entry marked retiring. -/
def Scan.countMarked (x : Scan) : Scan := { x with marked := x.marked + 1 }
/-- One more entry rehomed. -/
def Scan.countRehomed (x : Scan) : Scan := { x with rehomed := x.rehomed + 1 }
/-- One more entry skipped. -/
def Scan.countSkipped (x : Scan) : Scan := { x with skipped := x.skipped + 1 }

/-! ### Start, Suspend, Resume, Abort -/

/-- The scan time a Start Scan records: device time, for EXPIRY only (R159). -/
def scanTimeOf (kind : ScanKind) (deviceTime : Option Nat) : Option Nat :=
  match kind with
  | .expiry => deviceTime
  | .cls => none
  | .group => none
  | .clear => none

/-- The record of an accepted Start Scan (R159). -/
def startedScan (kind : ScanKind) (argument deviceTime : Option Nat) (tag : Byte) : Scan :=
  ⟨some kind, argument, .running, 0, scanTimeOf kind deviceTime, 0, 0, 0, 0, 0, tag⟩

/-- The take of a Start Scan (R159). -/
def takeStartScan (r : Request) (s : State) : State :=
  match readStartScan r.payload with
  | none => s.answer .mp r .badField []
  | some (kind, argument) =>
    if s.scan.state ≠ .idle then s.answer .mp r .scanActive []
    else if s.batch.isLocked = true then s.answer .mp r .applyInProgress []
    else if kind = .expiry ∧ s.time.deviceTime = none then s.answer .mp r .timeUnknown []
    else
      let x := startedScan kind argument s.time.deviceTime r.tag
      ((s.setScan x).answer .mp r .accepted x.selection).reserve .mp scanNotice r.tag

/-- START_SCAN (R159). -/
def execStartScan (s : State) : Host.Outcome State Fault Refusal := .next (s.take .mp .startScan takeStartScan)

/-- The take of a Suspend Scan (R168). -/
def takeSuspendScan (r : Request) (s : State) : State :=
  match s.scan.state with
  | .running => (s.setScan { s.scan with state := .suspended }).answer .mp r .ok (be 2 s.scan.cursor)
  | .idle => s.answer .mp r .scanIdle []
  | .suspended => s.answer .mp r .scanActive []
  | .draining => s.answer .mp r .scanActive []

/-- SUSPEND_SCAN (R168). -/
def execSuspendScan (s : State) : Host.Outcome State Fault Refusal := .next (s.take .mp .suspendScan takeSuspendScan)

/-- The take of a Resume Scan (R169). -/
def takeResumeScan (r : Request) (s : State) : State :=
  match s.scan.state with
  | .idle => s.answer .mp r .scanIdle []
  | .running => s.answer .mp r .scanActive []
  | .draining => s.answer .mp r .scanActive []
  | .suspended =>
    if s.batch.isLocked = true then s.answer .mp r .applyInProgress []
    else (s.setScan { s.scan with state := .running }).answer .mp r .ok (be 2 s.scan.cursor)

/-- RESUME_SCAN (R169). -/
def execResumeScan (s : State) : Host.Outcome State Fault Refusal := .next (s.take .mp .resumeScan takeResumeScan)

/-- The take of an Abort Scan (R170): the walk ends; the response is filled before a notice of the same take (log 27). -/
def takeAbortScan (r : Request) (s : State) : State :=
  match s.scan.state with
  | .idle => s.answer .mp r .scanIdle []
  | .draining => s.answer .mp r .scanActive []
  | .running => (s.answer .mp r .ok (be 2 s.scan.cursor)).endWalk
  | .suspended => (s.answer .mp r .ok (be 2 s.scan.cursor)).endWalk

/-- ABORT_SCAN (R170). -/
def execAbortScan (s : State) : Host.Outcome State Fault Refusal := .next (s.take .mp .abortScan takeAbortScan)

/-! ### Steps (R160 to R163) -/

/-- An entry qualifies under the scan (R160, Table 9-3). -/
def State.qualifies (s : State) (slot : Nat) (e : Entry) : Bool :=
  !s.isRetiring slot e &&
    match s.scan.kind with
    | some .expiry => match e.validUntil, s.scan.scanTime with
      | some v, some t => decide (v ≤ t)
      | _, _ => false
    | some .cls => decide (s.scan.argument = some e.cls)
    | some .group => e.groupTag.isSome && decide (s.scan.argument = e.groupTag)
    | some .clear => true
    | none => false

/-- What a step decides for a slot (R162, R163). -/
inductive SlotDecision
  | pass
  | skip
  | retire
  | rehome (id : List Byte) (target : Nat)
deriving DecidableEq, Repr

/-- Rehoming of an entry that does not qualify (R163): an EXPIRY scan, a spill slot, a FREE sound home way. -/
def State.rehoming (s : State) (slot : Nat) (e : Entry) : SlotDecision :=
  if s.scan.kind = some .expiry ∧ inSpill slot = true then
    match s.freeWay e.id with
    | some way => if s.isPending slot = true then .skip else .rehome e.id way
    | none => .pass
  else .pass

/-- The decision for a slot, in the order of R162, under the step's sample of CHG_INH. -/
def State.slotDecision (s : State) (sample : Bool) (slot : Nat) : SlotDecision :=
  match s.entryAt slot with
  | none => .pass
  | some e =>
    if s.qualifies slot e = true then
      if s.isPending slot = true ∨ s.locked slot = true then .skip
      else if sample = true ∧ s.underGuard e.cls = true then .skip
      else .retire
    else s.rehoming slot e

/-- The cursor passes a slot (R161). -/
def State.advanceCursor (s : State) : State := s.setScan { s.scan with cursor := s.scan.cursor + 1 }

/-- A step queues a commit of scan origin (R104, R161). -/
def State.scanAdmit (s : State) (c : Change) : State :=
  (s.joinQueue ⟨c, .scan⟩).setScan { s.scan with inFlight := s.scan.inFlight + 1 }

/-- Examine up to `n` slots from the cursor; stop after the last slot, or before a slot that needs a commit while no
place is free (R161). -/
def State.examine (sample : Bool) : Nat → State → State
  | 0, s => s
  | n + 1, s =>
    if Config.slots ≤ s.scan.cursor then s
    else match s.slotDecision sample s.scan.cursor with
      | .pass => State.examine sample n s.advanceCursor
      | .skip => State.examine sample n (s.setScan s.scan.countSkipped).advanceCursor
      | .retire =>
        if s.freeCommits = 0 then s
        else State.examine sample n (s.scanAdmit (.retireEntry s.scan.cursor)).advanceCursor
      | .rehome id target =>
        if s.freeCommits = 0 then s
        else State.examine sample n
          ((s.reserveSlot target id .move).scanAdmit (.moveEntry s.scan.cursor target)).advanceCursor

/-- A step (R161): one take under the grant of SCAN; at the last slot the walk ends in the same take (R167). -/
def State.scanStep (s : State) : State :=
  if s.granted = some .scan then
    let t := State.examine s.inhibited Config.stepSlots (s.setPointer Candidate.scan.after)
    if t.scan.cursor = Config.slots then t.endWalk else t
  else s

/-- SCAN_STEP (R161). -/
def execScanStep (s : State) : Host.Outcome State Fault Refusal := .next s.scanStep

end Sys2Proof.Machine
end

