-- ==== Sys2Proof/Machine/Verdicts.lean ====
section
/-! DEFINITION. The ordered verdict checks (04) and the rows PRESENT and DRAW. -/

namespace Sys2Proof.Machine

/-- The request as the verdict checks see it (Table 4-1): who asks, whether it is a Draw, the units where it carries
some, and a Draw's partial flag. -/
structure Query where
  port : Port
  draws : Bool
  units : Option Nat
  partialFlag : Bool
deriving DecidableEq, Repr

/-- The class allows the asking port; a Present on MP passes over the terminal mask (R57). -/
def ClassRecord.allows (c : ClassRecord) : Port → Bool
  | .mp => true
  | .tp0 => c.tp0Allowed
  | .tp1 => c.tp1Allowed

/-- Check 6 (R59). -/
def timeUnknown (e : Entry) (t : Option Nat) : Bool := (e.validFrom.isSome || e.validUntil.isSome) && t.isNone

/-- Check 7 (R59). -/
def notYetValid (e : Entry) (t : Option Nat) : Bool :=
  match e.validFrom, t with
  | some a, some now => decide (now < a)
  | _, _ => false

/-- Check 8 (R59). -/
def windowOver (e : Entry) (t : Option Nat) : Bool :=
  match e.validUntil, t with
  | some b, some now => decide (b ≤ now)
  | _, _ => false

/-- Check 10 (R61). -/
def overCeiling (e : Entry) (units : Option Nat) : Bool :=
  match e.ceiling, units with
  | some c, some u => decide (c < u)
  | _, _ => false

/-- A Draw short of units is granted in part (R64). -/
def grantsPart (q : Query) (c : ClassRecord) (available : Nat) : Bool :=
  q.draws && q.partialFlag && c.partialDraws && decide (1 ≤ available)

/-- Check 11 (R63, R64). -/
def insufficient (q : Query) (c : ClassRecord) (available : Option Nat) : Bool :=
  match available, q.units with
  | some a, some u => decide (a < u) && !grantsPart q c a
  | _, _ => false

/-- Checks 2 to 13 of Table 4-1 on the entry found in a slot: each reason with whether its check applies and fails. -/
def State.verdictChecks (s : State) (q : Query) (slot : Nat) (e : Entry) : List (DenyReason × Bool) :=
  let c := s.classOf e.cls
  [(.classDisabled, !c.enabled),
   (.portNotAllowed, !c.allows q.port),
   (.barred, decide (s.entryState slot e = .barred)),
   (.retiring, decide (s.entryState slot e = .retiring)),
   (.timeUnknown, timeUnknown e s.time.deviceTime),
   (.notYetValid, notYetValid e s.time.deviceTime),
   (.expired, windowOver e s.time.deviceTime),
   (.entryChanging, q.draws && s.changing slot),
   (.overCeiling, overCeiling e q.units),
   (.insufficient, insufficient q c (s.available slot e)),
   (.holdLimit, q.draws && decide (e.holdsLimit ≤ s.openHolds slot)),
   (.holdsExhausted, q.draws && s.freePlace.isNone)]

/-- The first check that fails (R55). -/
def State.denial (s : State) (q : Query) (slot : Nat) (e : Entry) : Option DenyReason :=
  ((s.verdictChecks q slot e).find? (·.2)).map (·.1)

/-- A verdict: no entry found, an entry with the reason it is denied, or a positive one (R55, R56). -/
inductive Verdict
  | unknown
  | denied (reason : DenyReason) (slot : Nat) (e : Entry)
  | positive (slot : Nat) (e : Entry)
deriving DecidableEq, Repr

/-- The verdict of a request on a token ID (R55, R56). -/
def State.verdict (s : State) (q : Query) (id : List Byte) : Verdict :=
  match s.lookup id with
  | none => .unknown
  | some slot =>
    match s.entryAt slot with
    | none => .unknown
    | some e =>
      match s.denial q slot e with
      | some reason => .denied reason slot e
      | none => .positive slot e

/-- The content of a Present response (Table 4-2): every field may be absent, so each is sent with its presence byte;
for the available units the figure of R189 follows it (log 16). -/
def State.presentContent (s : State) (reason : Option DenyReason) (found : Option (Nat × Entry)) : List Byte :=
  optional 1 (reason.map DenyReason.number) ++ optional 1 (found.map (·.2.cls))
    ++ (match found with
        | some (slot, e) => 1#8 :: figure (s.available slot e)
        | none => [0#8, 0#8, 0#8, 0#8, 0#8])
    ++ optional 4 (found.bind (·.2.validUntil)) ++ optional 1 (found.map (·.2.revision))

/-- The take of a Present (R53, R69). -/
def takePresent (p : Port) (r : Request) (s : State) : State :=
  match readPresent r.payload with
  | none => s.answer p r .badField []
  | some (id, units) =>
    match s.verdict ⟨p, false, units, false⟩ id with
    | .unknown => s.answer p r .denied (s.presentContent (some .unknownToken) none)
    | .denied reason slot e => s.answer p r .denied (s.presentContent (some reason) (some (slot, e)))
    | .positive slot e => s.answer p r .ok (s.presentContent none (some (slot, e)))

/-- A sum on the hold clock stops at 4,294,967,295 (R50). -/
def clockSum (a b : Nat) : Nat := min (a + b) maxSeconds

/-- Units granted: those requested, or the available units where fewer remain (R64, R67). -/
def unitsGranted (units : Nat) : Option Nat → Nat
  | some a => min a units
  | none => units

/-- Generations and revisions: 255 is followed by 0 (R5, R75). -/
def nextByte (v : Nat) : Nat := (v + 1) % 256

/-- The hold that a grant opens (R75 steps 3 to 7). -/
def State.newHold (s : State) (owner : Port) (slot units : Nat) (c : ClassRecord) : Hold :=
  { epoch := s.store.startCounter
    owner := owner
    slot := slot
    units := units
    deadline := clockSum s.time.holdClock c.lifetime
    limit := clockSum s.time.holdClock c.lifetimeLimit
    state := .opened
    due := false }

/-- Open a hold in a place: its generation rises by 1, its closing record stays (R75). -/
def State.openHold (s : State) (n : Nat) (h : Hold) : State :=
  s.setPlace n ⟨nextByte (s.place n).generation, some h, (s.place n).closing⟩

/-- The content of a denied Draw (R68): the reason; the ceiling for OVER_CEILING, the available units for
INSUFFICIENT, each always present there and sent as its value bytes alone (DEDUCED, log 15). -/
def State.denialContent (s : State) (reason : DenyReason) (slot : Nat) (e : Entry) : List Byte :=
  byte reason.number ::
    (match reason with
     | .overCeiling => be 2 (e.ceiling.getD 0)
     | .insufficient => be 3 ((s.available slot e).getD 0)
     | _ => [])

/-- A granted Draw: the hold opens in the lowest FREE place and its handle, units and lifetime are answered (R67, R68,
R75). -/
def State.grantDraw (s : State) (p : Port) (r : Request) (slot : Nat) (e : Entry) (units n : Nat) : State :=
  let h := s.newHold p slot (unitsGranted units (s.available slot e)) (s.classOf e.cls)
  (s.openHold n h).answer p r .ok
    (byte n :: byte (nextByte (s.place n).generation) :: (be 2 h.epoch ++ be 2 h.units
      ++ be 4 (h.deadline - s.time.holdClock)))

/-- The take of a Draw (R54, R67, R68). -/
def takeDraw (p : Port) (r : Request) (s : State) : State :=
  match readDraw r.payload with
  | none => s.answer p r .badField []
  | some (id, units, partialFlag) =>
    match s.verdict ⟨p, true, some units, partialFlag⟩ id with
    | .unknown => s.answer p r .denied [byte DenyReason.unknownToken.number]
    | .denied reason slot e => s.answer p r .denied (s.denialContent reason slot e)
    | .positive slot e =>
      match s.freePlace with
      | some n => s.grantDraw p r slot e units n
      | none => s.answer p r .denied [byte DenyReason.holdsExhausted.number]

/-- PRESENT (R53). -/
def execPresent (p : Port) (s : State) : Host.Outcome State Fault Refusal := .next (s.take p .present (takePresent p))

/-- DRAW (R54). -/
def execDraw (p : Port) (s : State) : Host.Outcome State Fault Refusal := .next (s.take p .draw (takeDraw p))

end Sys2Proof.Machine
end

