-- ==== Sys2Proof/Machine/Completions.lean ====
section
/-! DEFINITION. The commit unit at work (06): COMMIT_BEGIN forms the image or decides the work of the head commit; a
completion is one event that removes the commit, makes its durable effect, applies the outcome to the working state and
fills the reserved response (R102). -/

namespace Sys2Proof.Machine

/-! ### Beginning a commit (R102, R108, R111, R114) -/

/-- The use count stops at 65,535 (R6). -/
def nextCount (v : Nat) : Nat := min (v + 1) maxCount16

/-- The state a settlement writes (R92): RETIRING for a RETIRING entry, and for a metered entry left at 0 in a class
with retire-on-exhaustion. -/
def State.settledState (s : State) (slot : Nat) (e : Entry) (balance : Option Nat) : EntryState :=
  if s.isRetiring slot e = true then .retiring
  else if balance = some 0 ∧ (s.classOf e.cls).retireOnExhaustion = true then .retiring
  else e.state

/-- The image a settlement of `u` units writes (R91). -/
def State.settledImage (s : State) (slot u : Nat) (e : Entry) : Entry :=
  let balance := e.balance.map (· - u)
  { e with
    balance := balance
    useCount := nextCount e.useCount
    lastUse := s.time.deviceTime
    revision := e.nextRevision
    state := s.settledState slot e balance }

/-- The staged version of an item (R152, Table 8-4), from the entry in its slot. -/
def State.stagedImage (s : State) (slot : Nat) : Item → Option Entry
  | .insert image => some image
  | .modify _ _ f => (s.entryAt slot).map (·.modified f)
  | .topUp _ amount => (s.entryAt slot).map (·.toppedUp amount)
  | .bar _ _ => (s.entryAt slot).map (·.withState .barred)
  | .unbar _ _ => (s.entryAt slot).map (·.withState .active)
  | .retire _ _ => (s.entryAt slot).map (·.withState .retiring)

/-- What the promotion does for an item, with the open holds read as the PROMOTE begins (R114, R154). -/
def State.promotionOf (s : State) (x : Item × ItemRecord) : Nat × Promotion :=
  match x.1 with
  | .retire _ _ =>
    (x.2.slot, if s.openHolds x.2.slot = 0 then .clear else if s.wornResident x.2.slot = true then .mark else .makeCurrent)
  | .insert _ => (x.2.slot, .makeCurrent)
  | .modify _ _ _ => (x.2.slot, .makeCurrent)
  | .topUp _ _ => (x.2.slot, .makeCurrent)
  | .bar _ _ => (x.2.slot, .makeCurrent)
  | .unbar _ _ => (x.2.slot, .makeCurrent)

/-- The work of a RETIRE, decided when it begins (R111). -/
def State.retireWork (s : State) (slot : Nat) (e : Entry) : Work :=
  if s.openHolds slot = 0 then .clear slot
  else if s.wornResident slot = true then .mark slot
  else .writeImage slot (e.withState .retiring)

/-- The work of a commit that begins now (R108, R111, R112, R114); none where its subject is not there. -/
def State.formWork (s : State) : Change → Option Work
  | .insertEntry n image => some (.writeImage n image)
  | .modifyEntry n f => (s.entryAt n).map fun e => .writeImage n (e.modified f)
  | .topUpEntry n amount => (s.entryAt n).map fun e => .writeImage n (e.toppedUp amount)
  | .setEntryState n state => (s.entryAt n).map fun e => .writeImage n (e.withState state)
  | .settleHold n _ u => (s.entryAt n).map fun e => .writeImage n (s.settledImage n u e)
  | .retireEntry n => (s.entryAt n).map (s.retireWork n)
  | .clearEntry n => some (.clear n)
  | .moveEntry source target =>
    (s.entryAt source).map fun e => .moveImage source target { e with state := s.entryState source e }
  | .writeClass c r => some (.writeClass c r)
  | .stageItem index slot => (s.batch.items[index]?).bind fun x => (s.stagedImage slot x).map (.writeStaged slot)
  | .promoteBatch => some (.promote (s.batch.recorded.map s.promotionOf))

/-- The batch becomes PROMOTING when its PROMOTE begins (R140, R154). -/
def State.noteBegin (s : State) (c : Change) : State :=
  if c = .promoteBatch then s.setBatch { s.batch with state := .promoting } else s

/-- The head of the queue begins when no commit is in progress (R102). -/
def State.beginCommit (s : State) : State :=
  if s.phase = .running ∧ s.commits.work = none then
    match s.commits.queue with
    | [] => s
    | c :: _ =>
      match s.formWork c.change with
      | some w => { s.noteBegin c.change with commits := { s.commits with work := some w } }
      | none => s
  else s

/-- COMMIT_BEGIN (R102). -/
def execCommitBegin (s : State) : Host.Outcome State Fault Refusal := .next s.beginCommit

/-! ### The completion event (R102) -/

/-- The state with the commit in progress gone from the queue and its durable effect made (R102, R108). -/
def State.finishCommit (s : State) (w : Work) (v : Verify) (rest : List Commit) : State :=
  { s with store := w.complete v s.store, commits := ⟨rest, none⟩ }

/-- The completion of the commit in progress, when it is of this kind: its durable effect, and while intake is open the
effect on the working state. During a start-up only the durable effect stands (R116). -/
def State.complete (s : State) (isKind : Change → Bool) (v : Verify)
    (effect : Commit → Work → Verify → State → State) : State :=
  match s.commits.queue, s.commits.work with
  | c :: rest, some w =>
    if isKind c.change = true then
      if s.phase = .running then effect c w (w.result v) (s.finishCommit w v rest) else s.finishCommit w v rest
    else s
  | _, _ => s

/-! ### Settlement (R91 to R94) -/

/-- An ENTRY_WRITE of a settlement. -/
def Change.isSettlement : Change → Bool
  | .settleHold _ _ _ => true
  | _ => false

/-- Settlement completed with OK (R91, R94). -/
def State.settleOk (s : State) (o : Origin) (n place u : Nat) (e : Entry) : State :=
  ((s.setEntry n e).endHold place .settled).report o .ok
    (be 2 u ++ figure e.balance ++ be 2 e.useCount ++ [byte e.revision, e.state.code])

/-- Settlement completed with FAULT (R93, R94): the hold returns to OPEN, or expires within the same change. -/
def State.settleFault (s : State) (o : Origin) (n place : Nat) : State :=
  let t := s.wearSlot n
  match (t.place place).live with
  | some h =>
    let reopened := t.setHold place { h with state := .opened }
    if h.deadline ≤ s.time.holdClock then
      (reopened.endHold place .expired).report o .storeFault [expiredStateCode]
    else reopened.report o .storeFault (HoldState.opened.code :: be 4 (s.secondsTo h.deadline))
  | none => t.report o .storeFault [expiredStateCode]

/-- The effect of a settlement's completion. -/
def settlementEffect (c : Commit) (w : Work) (v : Verify) (s : State) : State :=
  match c.change, w, v with
  | .settleHold n place u, .writeImage _ e, .ok => s.settleOk c.origin n place u e
  | .settleHold n place _, .writeImage _ _, .fault => s.settleFault c.origin n place
  | _, _, _ => s

/-- SETTLEMENT_COMPLETION (R91, R93). -/
def execSettlementCompletion (v : Verify) (s : State) : Host.Outcome State Fault Refusal :=
  .next (s.complete Change.isSettlement v settlementEffect)

/-! ### Insert, Modify, Top Up, Bar and Unbar -/

/-- An ENTRY_WRITE of an Insert. -/
def Change.isInsertion : Change → Bool
  | .insertEntry _ _ => true
  | _ => false

/-- A reserved slot whose write failed is FREE and WORN (R109, R113, R127). -/
def State.spoilSlot (s : State) (n : Nat) : State := s.setSlot n ⟨.free, true, false⟩

/-- The effect of an Insert's completion (R127). -/
def insertEffect (c : Commit) (w : Work) (v : Verify) (s : State) : State :=
  match w, v with
  | .writeImage n e, .ok => (s.occupySlot n e).report c.origin .ok (be 2 n ++ [byte e.revision])
  | .writeImage n _, .fault => (s.spoilSlot n).report c.origin .storeFault (be 2 n)
  | _, _ => s

/-- INSERT_COMPLETION (R127). -/
def execInsertCompletion (v : Verify) (s : State) : Host.Outcome State Fault Refusal :=
  .next (s.complete Change.isInsertion v insertEffect)

/-- An ENTRY_WRITE of a Modify. -/
def Change.isModification : Change → Bool
  | .modifyEntry _ _ => true
  | _ => false

/-- The revision of the entry in a slot. -/
def State.revisionAt (s : State) (n : Nat) : Byte := byte (((s.entryAt n).map (·.revision)).getD 0)

/-- The effect of a Modify's completion (R130). -/
def modifyEffect (c : Commit) (w : Work) (v : Verify) (s : State) : State :=
  match w, v with
  | .writeImage n e, .ok =>
    (s.setEntry n e).report c.origin .ok ([byte e.revision, e.state.code] ++ figure ((s.setEntry n e).available n e))
  | .writeImage n _, .fault => (s.wearSlot n).report c.origin .storeFault (be 2 n ++ [s.revisionAt n])
  | _, _ => s

/-- MODIFY_COMPLETION (R130). -/
def execModifyCompletion (v : Verify) (s : State) : Host.Outcome State Fault Refusal :=
  .next (s.complete Change.isModification v modifyEffect)

/-- An ENTRY_WRITE of a Top Up. -/
def Change.isTopUp : Change → Bool
  | .topUpEntry _ _ => true
  | _ => false

/-- The effect of a Top Up's completion (R131). The entry is metered, so the new balance and the available units are always
present and are sent as their value bytes alone (DEDUCED, log 15). -/
def topUpEffect (c : Commit) (w : Work) (v : Verify) (s : State) : State :=
  match w, v with
  | .writeImage n e, .ok =>
    (s.setEntry n e).report c.origin .ok
      (be 3 (e.balance.getD 0) ++ be 3 (((s.setEntry n e).available n e).getD 0) ++ [byte e.revision])
  | .writeImage n _, .fault => (s.wearSlot n).report c.origin .storeFault (be 2 n)
  | _, _ => s

/-- TOP_UP_COMPLETION (R131). -/
def execTopUpCompletion (v : Verify) (s : State) : Host.Outcome State Fault Refusal :=
  .next (s.complete Change.isTopUp v topUpEffect)

/-- An ENTRY_WRITE of a Bar or an Unbar. -/
def Change.isBar : Change → Bool
  | .setEntryState _ _ => true
  | _ => false

/-- The effect of the completion of a Bar or Unbar (R132). -/
def barEffect (c : Commit) (w : Work) (v : Verify) (s : State) : State :=
  match w, v with
  | .writeImage n e, .ok => (s.setEntry n e).report c.origin .ok [e.state.code, byte e.revision]
  | .writeImage n _, .fault => (s.wearSlot n).report c.origin .storeFault (be 2 n)
  | _, _ => s

/-- BAR_COMPLETION (R132), of a Bar and of an Unbar. -/
def execBarCompletion (v : Verify) (s : State) : Host.Outcome State Fault Refusal :=
  .next (s.complete Change.isBar v barEffect)

/-! ### Retire and clear -/

/-- A RETIRE commit, of a Retire or of a scan. -/
def Change.isRetire : Change → Bool
  | .retireEntry _ => true
  | _ => false

/-- An entry just made RETIRING whose last hold closed meanwhile becomes clear due in the same change (R111, R114). -/
def State.settleRetiring (s : State) (n : Nat) : State := if s.openHolds n = 0 then s.joinClearDue n else s

/-- Set the retire mark of a slot (R9). -/
def State.markRetiring (s : State) (n : Nat) : State := s.setSlot n { s.slot n with retireMark := true }

/-- The effect of a RETIRE's completion (R111, R134, R164). -/
def retireEffect (c : Commit) (w : Work) (v : Verify) (s : State) : State :=
  match w, v with
  | .clear n, _ => ((s.clearSlot n).report c.origin .ok (clearedCode :: be 2 n)).tellScan c.origin Scan.countRetired
  | .mark n, _ =>
    (((s.markRetiring n).settleRetiring n).report c.origin .ok
      (retiringCode :: (be 1 (s.openHolds n) ++ [s.revisionAt n]))).tellScan c.origin Scan.countMarked
  | .writeImage n e, .ok =>
    (((s.setEntry n e).settleRetiring n).report c.origin .ok
      (retiringCode :: (be 1 (s.openHolds n) ++ [byte e.revision]))).tellScan c.origin Scan.countMarked
  | .writeImage n _, .fault =>
    ((s.wearSlot n).report c.origin .storeFault (be 2 n)).tellScan c.origin Scan.countSkipped
  | _, _ => s

/-- RETIRE_COMPLETION (R111, R134, R164). -/
def execRetireCompletion (v : Verify) (s : State) : Host.Outcome State Fault Refusal :=
  .next (s.complete Change.isRetire v retireEffect)

/-- A SLOT_CLEAR commit. -/
def Change.isClear : Change → Bool
  | .clearEntry _ => true
  | _ => false

/-- The effect of a SLOT_CLEAR's completion (R25): it reports to no port. -/
def clearEffect (_c : Commit) (w : Work) (_v : Verify) (s : State) : State :=
  match w with
  | .clear n => s.clearSlot n
  | _ => s

/-- SLOT_CLEAR_COMPLETION (R25). -/
def execSlotClearCompletion (s : State) : Host.Outcome State Fault Refusal :=
  .next (s.complete Change.isClear .ok clearEffect)

/-! ### Moves (R113) -/

/-- A MOVE commit, of a Relocate or of a scan's rehoming. -/
def Change.isMove : Change → Bool
  | .moveEntry _ _ => true
  | _ => false

/-- A live hold of a moved entry takes the target slot (R76). -/
def State.followMove (source target : Nat) (s : State) (n : Nat) : State :=
  match (s.place n).live with
  | some h => if h.slot = source then s.setHold n { h with slot := target } else s
  | none => s

/-- Every live hold of a moved entry takes the target slot (R76). -/
def State.moveHolds (s : State) (source target : Nat) : State :=
  (List.range Config.holdPlaces).foldl (State.followMove source target) s

/-- A clear-due entry moves to its new place in the list (R106, R113). -/
def State.moveClearDue (s : State) (source target : Nat) : State :=
  if s.engine.clearDue.contains source then (s.leaveClearDue source).joinClearDue target else s

/-- A MOVE completed with OK, applied whole (R113). -/
def State.moveEntry (s : State) (source target : Nat) (e : Entry) : State :=
  (((s.clearSlot source).occupySlot target e).moveHolds source target).moveClearDue source target

/-- The effect of a MOVE's completion (R113, R136, R165). -/
def moveEffect (c : Commit) (w : Work) (v : Verify) (s : State) : State :=
  match w, v with
  | .moveImage source target e, .ok =>
    ((s.moveEntry source target e).report c.origin .ok
      (be 2 source ++ be 2 target ++ [byte e.revision])).tellScan c.origin Scan.countRehomed
  | .moveImage _ target _, .fault =>
    ((s.spoilSlot target).report c.origin .storeFault (be 2 target)).tellScan c.origin Scan.countSkipped
  | _, _ => s

/-- MOVE_COMPLETION (R113). -/
def execMoveCompletion (v : Verify) (s : State) : Host.Outcome State Fault Refusal :=
  .next (s.complete Change.isMove v moveEffect)

/-! ### Classes (R32) -/

/-- A CLASS_WRITE commit. -/
def Change.isClassWrite : Change → Bool
  | .writeClass _ _ => true
  | _ => false

/-- The effect of a CLASS_WRITE's completion (R32): the record in use has changed with OK and is the old one with FAULT;
either way the response carries it. -/
def classEffect (c : Commit) (w : Work) (v : Verify) (s : State) : State :=
  match w, v with
  | .writeClass n _, .ok => s.report c.origin .ok (byte n :: (s.classOf n).bytes)
  | .writeClass n _, .fault => s.report c.origin .storeFault (byte n :: (s.classOf n).bytes)
  | _, _ => s

/-- CLASS_WRITE_COMPLETION (R32). -/
def execClassWriteCompletion (v : Verify) (s : State) : Host.Outcome State Fault Refusal :=
  .next (s.complete Change.isClassWrite v classEffect)

/-! ### Stage writes (R152, R153) -/

/-- A STAGE_WRITE commit. -/
def Change.isStageWrite : Change → Bool
  | .stageItem _ _ => true
  | _ => false

/-- Every queued commit whose origin is the batch leaves the queue (R103). -/
def State.removeBatchCommits (s : State) : State :=
  { s with commits := { s.commits with queue := s.commits.queue.filter fun c => !(decide (c.origin = .batch)) } }

/-- The abandonment of the batch after the stage write of an item faulted (R153). -/
def State.abandonBatch (s : State) (index slot : Nat) : State :=
  let released := s.batch.reservedSlots.foldl State.releaseSlot (s.removeBatchCommits.wearSlot slot)
  let batch : Batch :=
    { s.batch with
      state := .opened, records := [], lastResult := some ⟨.store, index, .batchStoreFault⟩
      fed := 0, promoteFed := false, staged := 0 }
  (released.setBatch batch).fillReserved .mp applyNotice s.batch.applyTag .batchStoreFault (be 1 index ++ be 2 slot)

/-- The effect of a STAGE_WRITE's completion (R152, R153). -/
def stageEffect (c : Commit) (_w : Work) (v : Verify) (s : State) : State :=
  match c.change, v with
  | .stageItem _ _, .ok => s.setBatch { s.batch with staged := s.batch.staged + 1 }
  | .stageItem index slot, .fault => s.abandonBatch index slot
  | _, _ => s

/-- STAGE_WRITE_COMPLETION (R152, R153). -/
def execStageWriteCompletion (v : Verify) (s : State) : Host.Outcome State Fault Refusal :=
  .next (s.complete Change.isStageWrite v stageEffect)

/-! ### Promotion (R154, R155) -/

/-- A PROMOTE commit. -/
def Change.isPromote : Change → Bool
  | .promoteBatch => true
  | _ => false

/-- Rewrite the working image of a slot. -/
def State.mapEntry (s : State) (n : Nat) (f : Entry → Entry) : State :=
  match s.entryAt n with
  | some e => s.setEntry n (f e)
  | none => s

/-- The working state after one item is promoted (R154). -/
def State.promoteItem (s : State) (x : Item × Nat × Promotion) : State :=
  let slot := x.2.1
  match x.1 with
  | .insert image => s.occupySlot slot image
  | .modify _ _ f => s.mapEntry slot (·.modified f)
  | .topUp _ amount => s.mapEntry slot (·.toppedUp amount)
  | .bar _ _ => s.mapEntry slot (·.withState .barred)
  | .unbar _ _ => s.mapEntry slot (·.withState .active)
  | .retire _ _ =>
    match x.2.2 with
    | .clear => s.clearSlot slot
    | .mark => (s.markRetiring slot).settleRetiring slot
    | .makeCurrent => (s.mapEntry slot (·.withState .retiring)).settleRetiring slot

/-- A RETIRE item. -/
def Item.isRetire : Item → Bool
  | .retire _ _ => true
  | .insert _ => false
  | .modify _ _ _ => false
  | .topUp _ _ => false
  | .bar _ _ => false
  | .unbar _ _ => false

/-- The content of the APPLIED notice (R155): items applied, entries inserted, cleared, left RETIRING (DEDUCED, log 17). -/
def appliedContent (items : List (Item × Nat × Promotion)) : List Byte :=
  be 1 items.length ++ be 2 (items.filter (·.1.isInsert)).length
    ++ be 2 (items.filter fun x => x.1.isRetire && decide (x.2.2 = .clear)).length
    ++ be 2 (items.filter fun x => x.1.isRetire && !(decide (x.2.2 = .clear))).length

/-- The PROMOTE's completion (R154): every item applied in one change, the batch emptied, the notice filled. -/
def State.applyPromotion (s : State) (updates : List (Nat × Promotion)) : State :=
  let items := s.batch.items.zip updates
  ((items.foldl State.promoteItem s).setBatch emptyBatch).fillReserved .mp applyNotice s.batch.applyTag .applied
    (appliedContent items)

/-- The effect of a PROMOTE's completion. -/
def promoteEffect (_c : Commit) (w : Work) (_v : Verify) (s : State) : State :=
  match w with
  | .promote updates => s.applyPromotion updates
  | _ => s

/-- PROMOTE_COMPLETION (R154). -/
def execPromoteCompletion (s : State) : Host.Outcome State Fault Refusal :=
  .next (s.complete Change.isPromote .ok promoteEffect)

end Sys2Proof.Machine
end

