-- ==== Sys2Proof/WellFormed.lean ====
section
/-! DEFINITION. Which commands make sense as written: the checks on operands that need no state.
A command that fails a check is still executed by the model as its rule says for those operands. -/

namespace Sys2Proof

/-- The type byte of a Request transaction (R174). -/
def requestType : Byte := 0xC1#8
/-- The type byte of a Fetch transaction (R174). -/
def fetchType : Byte := 0xC2#8
/-- The type byte of a Port Status transaction (R174). -/
def portStatusType : Byte := 0xC3#8

/-- Spare bits are fewer than a byte and stand only before a rise of chip select; a transaction that begins here and
sends a byte sends `type` first (R174). -/
def Exchange.wellFormed (type : Byte) (x : Exchange) : Bool :=
  decide (x.spareBits < 8) && (x.selectRises || x.spareBits == 0) &&
    (!x.selectFalls || x.sent.head?.all (· == type))

/-- A request that only a terminal may send (Table 10-2). -/
def Port.isTerminal : Port → Bool
  | .mp => false
  | .tp0 => true
  | .tp1 => true

/-- The work of a commit has at most three updates (R112). -/
def PowerCut.wellFormed : PowerCut → Bool
  | .beforeUpdates => true
  | .duringWrite => true
  | .afterWrite => true
  | .afterUpdates n => decide (1 ≤ n ∧ n ≤ 3)
  | .afterFault => true

/-- Well-formed commands. -/
def Instr.wellFormed : Instr → Bool
  | .request _ x => x.wellFormed requestType
  | .fetch _ x => x.wellFormed fetchType
  | .portStatus _ x => x.wellFormed portStatusType
  | .present _ => true
  | .draw p => p.isTerminal
  | .extend p => p.isTerminal
  | .settle p => p.isTerminal
  | .release p => p.isTerminal
  | .forceRelease => true
  | .queryHold _ => true
  | .listHolds => true
  | .readTime _ => true
  | .readIdentity _ => true
  | .status => true
  | .setTime => true
  | .setClass => true
  | .readClass => true
  | .insert => true
  | .modify => true
  | .topUp => true
  | .bar => true
  | .unbar => true
  | .retire => true
  | .relocate => true
  | .readEntry => true
  | .stage => true
  | .discard => true
  | .readBatch => true
  | .apply => true
  | .startScan => true
  | .suspendScan => true
  | .resumeScan => true
  | .abortScan => true
  | .reset => true
  | .scanStep => true
  | .secondEvent => true
  | .holdExpiry n => decide (n < Config.holdPlaces)
  | .commitBegin => true
  | .clearDueAdmission => true
  | .batchCommitAdmission => true
  | .settlementCompletion _ => true
  | .insertCompletion _ => true
  | .modifyCompletion _ => true
  | .topUpCompletion _ => true
  | .barCompletion _ => true
  | .retireCompletion _ => true
  | .slotClearCompletion => true
  | .moveCompletion _ => true
  | .classWriteCompletion _ => true
  | .stageWriteCompletion _ => true
  | .promoteCompletion => true
  | .powerOn => true
  | .powerLoss cut => cut.wellFormed
  | .resetNFall _ => true
  | .resetNRelease => true
  | .chgInhChange _ => true
  | .startUpRestore => true
  | .restoreComplete => true
  | .tbclkPeriod => true

end Sys2Proof
end

