-- ==== Sys2Proof/Machine/Ports.lean ====
section
/-! DEFINITION. Transactions on a port, byte by byte (R174 to R183), and the rows REQUEST, FETCH and PORT_STATUS.
All three are one path in the part: the type byte received decides what a transaction is (log 6). -/

namespace Sys2Proof.Machine

/-- The data output where nothing else is sent (R174, R176, R182). -/
def idleByte : Byte := 0xFF#8

/-- The port summary (R175): 00h until intake has opened. -/
def State.summary (s : State) (p : Port) : Byte :=
  if s.phase = .running then
    byte (128 + 16 * (s.port p).filled.length + 2 * (Config.portPlaces - (s.port p).requests.length)
      + (if (s.port p).reserved.isEmpty then 0 else 1))
  else 0#8

/-- Intake verdicts (Table 10-1). -/
inductive IntakeVerdict
  | notReady | badLength | checkError | unknownKind | notOnPort | queueFull | taken
deriving DecidableEq, Repr

/-- Codes of Table 10-1. -/
def IntakeVerdict.code : IntakeVerdict → Byte
  | .taken => 0xA0#8
  | .queueFull => 0xA1#8
  | .checkError => 0xA2#8
  | .unknownKind => 0xA3#8
  | .notOnPort => 0xA4#8
  | .badLength => 0xA5#8
  | .notReady => 0xA6#8

/-- The payload length byte of a Request transaction, once received (R176). -/
def frameLength (received : List Byte) : Nat := field received 3 1

/-- The payload bytes of a Request transaction. -/
def framePayload (received : List Byte) : List Byte := (received.drop 4).take (frameLength received)

/-- The received CRC is that of the kind, tag, length and payload bytes (R176, R177 check 3). -/
def frameCheck (received : List Byte) : Bool :=
  field received (4 + frameLength received) 2 == (crc16 ((received.drop 1).take (3 + frameLength received))).toNat

/-- The kind a Request transaction carries. -/
def frameKind (received : List Byte) : Option Kind := ((received.drop 1).head?).bind kindOfCode

/-- The next byte is the verdict byte: after the length byte when the length is above 48, else after the CRC (R176). -/
def atVerdict (received : List Byte) : Bool :=
  decide (4 ≤ received.length) &&
    decide (received.length = if Config.maxPayload < frameLength received then 4 else 6 + frameLength received)

/-- The intake verdict: the checks of Table 10-1 in their order (R177; DEDUCED, log 7). -/
def State.intakeVerdict (s : State) (p : Port) (received : List Byte) : IntakeVerdict :=
  if s.phase ≠ .running then .notReady
  else if Config.maxPayload < frameLength received then .badLength
  else if frameCheck received = false then .checkError
  else match frameKind received with
    | none => .unknownKind
    | some k =>
      if k.acceptedOn p = false then .notOnPort
      else if frameLength received < k.lengths.1 ∨ k.lengths.2 < frameLength received then .badLength
      else if Config.portPlaces ≤ (s.port p).requests.length then .queueFull
      else .taken

/-- The request that a Request transaction carries. -/
def frameRequest (received : List Byte) : Option Request :=
  (frameKind received).map fun k => ⟨k, ((received.drop 2).head?).getD 0#8, framePayload received⟩

/-- A transaction with no byte received yet, when chip select falls: the summary is sampled (R175). -/
def State.openTransaction (s : State) (p : Port) : State :=
  s.setPort p { s.port p with transaction := some ⟨s.summary p, [], [], false, false⟩, sdo := [] }

/-- The byte the port sends next in a transaction. -/
def State.outByte (s : State) (p : Port) (t : Transaction) : Byte :=
  if t.abandoned = true then idleByte
  else match t.received with
    | [] => t.summary
    | type :: _ =>
      if type = portStatusType then s.summary p
      else if type = fetchType then t.frame.getD (t.received.length - 1) idleByte
      else if type = requestType ∧ atVerdict t.received = true then (s.intakeVerdict p t.received).code
      else idleByte

/-- The transaction after a byte: a Fetch fixes the oldest filled response, or the empty response, at the end of its
type byte (R182). -/
def State.afterByte (s : State) (p : Port) (t : Transaction) (b : Byte) : Transaction :=
  match t.received with
  | [] =>
    if b = fetchType then
      match (s.port p).filled with
      | r :: _ => { t with received := [b], frame := r.frame, fetching := true }
      | [] => { t with received := [b], frame := emptyFrame, fetching := false }
    else { t with received := [b] }
  | _ :: _ => { t with received := t.received ++ [b] }

/-- The byte just sent was the verdict TAKEN of a Request (R177). -/
def State.takesIn (s : State) (p : Port) (t : Transaction) : Bool :=
  !t.abandoned && (t.received.head? == some requestType) && atVerdict t.received
    && decide (s.intakeVerdict p t.received = .taken)

/-- The byte just sent was the last byte of a filled response's frame (R182). -/
def Transaction.delivers (t : Transaction) : Bool :=
  !t.abandoned && t.fetching && decide (t.received.length = t.frame.length)

/-- One whole byte in each direction on a port (R174): the port sends its byte, receives the controller's, and at its
end a TAKEN request joins the request queue (R177) or a delivered response leaves the response queue (R182). -/
def State.clockByte (p : Port) (s : State) (b : Byte) : State :=
  match (s.port p).transaction with
  | none => s
  | some t =>
    s.setPort p { s.port p with
      sdo := (s.port p).sdo ++ [s.outByte p t]
      transaction := some (s.afterByte p t b)
      requests := if s.takesIn p t = true then (s.port p).requests ++ (frameRequest t.received).toList
        else (s.port p).requests
      filled := if t.delivers = true then (s.port p).filled.tail else (s.port p).filled }

/-- Chip select rises: the transaction ends, and an incomplete byte is discarded (R174). -/
def State.closeTransaction (s : State) (p : Port) : State :=
  s.setPort p { s.port p with transaction := none }

/-- Chip select is low on a port exactly while a transaction is open, an abandoned one included (R174). -/
def PortState.selected (x : PortState) : Bool := x.transaction.isSome

/-- The transaction that a part without supply, or one that was powered in the midst of it, sees: none of its bytes counts
(R174, log 6). -/
def lostTransaction : Transaction := ⟨idleByte, [], [], false, true⟩

/-- Without supply a port follows its chip select alone: no byte is exchanged, and a transaction open when the supply returns
is an abandoned one (R174, log 6). -/
def State.exchangeUnpowered (s : State) (p : Port) (x : Exchange) : State :=
  s.setPort p { s.port p with
    transaction := if x.selectRises then none else if x.selectFalls then some lostTransaction else (s.port p).transaction }

/-- A stretch of a transaction on a port (R174). -/
def State.exchange (s : State) (p : Port) (x : Exchange) : State :=
  if s.phase = .off then s.exchangeUnpowered p x
  else
    let begun := if x.selectFalls then s.openTransaction p else s
    let clocked := x.sent.foldl (State.clockByte p) begun
    if x.selectRises then clocked.closeTransaction p else clocked

/-- The stretch of a transaction in which a controller clocks these bits: its whole bytes, and the bits of a byte that stays
incomplete (R174). -/
def Exchange.ofBits (falls : Bool) (bits : List Bool) (rises : Bool) : Exchange :=
  ⟨falls, bytesOfBits bits, bits.length % 8, rises⟩

/-- The data output of a port, a three-state output (R174, R193): the byte it carries over the next eight clocks while chip
select is low, and `none` for high-impedance while it is high or the part has no supply. -/
def State.dataOut (s : State) (p : Port) : Option Byte :=
  if s.phase = .off then none else (s.port p).transaction.map (s.outByte p)

/-- REQUEST (R176, R177). -/
def execRequest (p : Port) (x : Exchange) (s : State) : Host.Outcome State Fault Refusal := .next (s.exchange p x)

/-- FETCH (R182, R183). -/
def execFetch (p : Port) (x : Exchange) (s : State) : Host.Outcome State Fault Refusal := .next (s.exchange p x)

/-- PORT_STATUS (R175). -/
def execPortStatus (p : Port) (x : Exchange) (s : State) : Host.Outcome State Fault Refusal := .next (s.exchange p x)

end Sys2Proof.Machine
end

