-- ==== Sys2Proof/Machine/StartUp.lean ====
section
/-! DEFINITION. Start-up (06 section 6.8, R187, R188): the rows RESET, RESET_N_FALL, RESET_N_RELEASE, POWER_ON, POWER_LOSS,
START_UP_RESTORE and RESTORE_COMPLETE. -/

namespace Sys2Proof.Machine

/-! ### A start-up begins (R116) -/

/-- A transaction that a start-up finds in progress is abandoned (R174). -/
def Transaction.abandon (t : Transaction) : Transaction := { t with abandoned := true }

/-- A port as a start-up begins: queues empty, attention released, transaction abandoned (R116, R188). -/
def PortState.atStartUp (x : PortState) : PortState := ⟨[], [], [], x.transaction.map Transaction.abandon, x.sdo⟩

/-- Every commit that has not begun is discarded; the commit in progress stays until its completion (R116). -/
def CommitUnit.atStartUp (c : CommitUnit) : CommitUnit :=
  match c.work with
  | some w => ⟨c.queue.take 1, some w⟩
  | none => ⟨[], none⟩

/-- What happens at the take of a Reset request and at the falling edge of RESET_N (R116); the timebase takes its
start-up values (R42, R52) and the grant pointer names MP (R180). The other blocks keep their values until restore ends
(DEDUCED, log 24). -/
def State.beginStartUp (s : State) : State :=
  { s with
    mp := s.mp.atStartUp
    tp0 := s.tp0.atStartUp
    tp1 := s.tp1.atStartUp
    commits := s.commits.atStartUp
    time := startTime
    engine := { s.engine with pointer := .port .mp }
    phase := .starting }

/-- RESET: the take of the Reset request (R187). -/
def execReset (s : State) : Host.Outcome State Fault Refusal := .next (s.take .mp .reset fun _ t => t.beginStartUp)

/-- The start counter raised by 1, 65,535 followed by 0 (R115). -/
def Store.raiseCounter (st : Store) : Store := { st with startCounter := (st.startCounter + 1) % 65536 }

/-- The falling edge of RESET_N (R116); a restore that it stops may have passed the raise of the start counter (R115). -/
def State.resetFall (s : State) (counterRaised : Bool) : State :=
  if s.resetLow = true then s
  else match s.phase with
    | .off => { s with resetLow := true }
    | .starting => { s.beginStartUp with resetLow := true }
    | .settled =>
      if counterRaised = true then { s.beginStartUp with resetLow := true, store := s.store.raiseCounter }
      else { s.beginStartUp with resetLow := true }
    | .running => { s.beginStartUp with resetLow := true }

/-- RESET_N_FALL (R116). -/
def execResetNFall (counterRaised : Bool) (s : State) : Host.Outcome State Fault Refusal :=
  .next (s.resetFall counterRaised)

/-- RESET_N_RELEASE (R116): restore can begin. -/
def execResetNRelease (s : State) : Host.Outcome State Fault Refusal := .next { s with resetLow := false }

/-! ### Power (R108, R116) -/

/-- The durable store that a loss of power leaves (R108, R110, R112, R115). -/
def State.storeAfterLoss (s : State) (cut : PowerCut) : Store :=
  match s.commits.work with
  | some w => w.cut cut s.store
  | none =>
    match s.phase, cut with
    | .settled, .afterUpdates _ => s.store.raiseCounter
    | _, _ => s.store

/-- The part without supply: what is volatile is gone; it is built anew at the next start-up (log 18). -/
def State.unpowered (s : State) (store : Store) : State :=
  { s.beginStartUp with
    commits := ⟨[], none⟩
    store := store
    engine := ⟨[], [], [], .port .mp⟩
    holds := []
    batch := emptyBatch
    scan := idleScan
    phase := .off }

/-- POWER_LOSS (R108, R119). -/
def execPowerLoss (cut : PowerCut) (s : State) : Host.Outcome State Fault Refusal :=
  .next (if s.phase = .off then s else s.unpowered (s.storeAfterLoss cut))

/-- POWER_ON (R116): the supply has reached its operating range, and a start-up begins. -/
def execPowerOn (s : State) : Host.Outcome State Fault Refusal :=
  .next (if s.phase = .off then { s with phase := .starting } else s)

/-! ### Restore (R117) -/

/-- Another OCCUPIED slot of the store holds an entry with this token ID (R117 step 1). -/
def Store.hasTwin (st : Store) (n : Nat) (id : List Byte) : Bool :=
  (Table.keys st.slots).any fun m => !(m == n) && match (st.slot m).image with
    | some e => decide (e.id = id)
    | none => false

/-- Restore settles the move-target mark of a slot: an entry that another slot holds is cleared here, otherwise the mark
is dropped (R117 step 1). -/
def Store.settleMark (st : Store) (n : Nat) : Store :=
  if (st.slot n).moveTarget = true then
    match (st.slot n).image with
    | some e =>
      if st.hasTwin n e.id = true then st.clear n else st.setSlot n { st.slot n with moveTarget := false }
    | none => st.setSlot n { st.slot n with moveTarget := false }
  else st

/-- The store that restore leaves (R117): move-target marks settled, staged versions discarded. Reservations are not in
the store. -/
def Store.settle (st : Store) : Store := ((Table.keys st.slots).foldl Store.settleMark st).discardStaged

/-- START_UP_RESTORE (R116, R117): restore begins when RESET_N is high and the commit in progress has ended (DEDUCED,
logs 19 and 20). -/
def execStartUpRestore (s : State) : Host.Outcome State Fault Refusal :=
  .next (if s.phase = .starting ∧ s.resetLow = false ∧ s.commits.work = none then
    { s with store := s.store.settle, phase := .settled } else s)

/-! ### The blocks build their start-up state (R118) -/

/-- A slot of the working directory as the store holds it (R26). -/
def DurableSlot.working (d : DurableSlot) : WorkingSlot :=
  ⟨(match d.image with
    | some e => .occupied e
    | none => .free), d.worn, d.retireMark⟩

/-- The table engine reads one slot of the store: directory, image, spill count, clear-due list (R26, R17, R25). -/
def State.loadSlot (s : State) (n : Nat) : State :=
  let t := s.setSlot n (s.store.slot n).working
  match (s.store.slot n).image with
  | some e =>
    if t.isRetiring n e = true then (t.spillGain n e.id).joinClearDue n else t.spillGain n e.id
  | none => t

/-- The table state built from the store (R26). -/
def State.buildTable (s : State) : State :=
  (Table.keys s.store.slots).foldl State.loadSlot { s with engine := ⟨[], [], [], .port .mp⟩ }

/-- The end of restore (R118): start counter raised, every block at its start-up state, intake open. -/
def State.completeRestore (s : State) : State :=
  State.buildTable
    { s with
      store := s.store.raiseCounter
      holds := []
      commits := ⟨[], none⟩
      batch := emptyBatch
      scan := idleScan
      time := startTime
      phase := .running }

/-- RESTORE_COMPLETE (R118). -/
def execRestoreComplete (s : State) : Host.Outcome State Fault Refusal :=
  .next (if s.phase = .settled ∧ s.resetLow = false then s.completeRestore else s)

end Sys2Proof.Machine
end

