-- ==== Sys2Proof/Machine/System.lean ====
section
/-! DEFINITION. The port-level reports (R185, R186): the rows READ_IDENTITY and STATUS. -/

namespace Sys2Proof.Machine

/-- The identity figures in the order of R185. -/
def State.identity (s : State) : List Byte :=
  be 2 Config.vendorCode ++ be 2 Config.partCode ++ [Config.siliconRevision] ++ be 8 Config.serialNumber.toNat
    ++ be 2 Config.slots ++ be 2 Config.buckets ++ be 1 Config.ways ++ be 2 Config.spillSlots
    ++ be 1 Config.holdPlaces ++ be 1 Config.commitPlaces ++ be 1 Config.batchItems ++ be 1 Config.portPlaces
    ++ be 2 s.store.startCounter

/-- The take of a Read Identity (R185). -/
def takeReadIdentity (p : Port) (r : Request) (s : State) : State := s.answer p r .ok s.identity

/-- READ_IDENTITY (R185). -/
def execReadIdentity (p : Port) (s : State) : Host.Outcome State Fault Refusal :=
  .next (s.take p .readIdentity (takeReadIdentity p))

/-- The figures of Status in the order of R186. -/
def State.figures (s : State) : List Byte :=
  be 2 s.liveEntries ++ be 2 s.spillOccupied ++ be 2 s.wornSlots ++ be 2 s.wornResidents
    ++ be 1 s.liveHolds.length ++ be 1 s.commits.queue.length ++ [s.scan.state.code] ++ be 2 s.scan.cursor
    ++ [s.batch.state.code, yesNo s.time.deviceTime.isSome, yesNo s.inhibited] ++ be 2 s.clearDueCount

/-- The take of a Status (R186). -/
def takeStatus (r : Request) (s : State) : State := s.answer .mp r .ok s.figures

/-- STATUS (R186). -/
def execStatus (s : State) : Host.Outcome State Fault Refusal := .next (s.take .mp .status takeStatus)

end Sys2Proof.Machine
end

