-- ==== Sys2Proof/Machine/Time.lean ====
section
/-! DEFINITION. The timebase (03): the rows TBCLK_PERIOD, SECOND_EVENT, SET_TIME and READ_TIME. -/

namespace Sys2Proof.Machine

/-- A count of seconds advances by one and stops at 4,294,967,295 (R43). -/
def nextSecond (v : Nat) : Nat := min (v + 1) maxSeconds

/-- One period of TBCLK (R42): while a start-up holds the divider at 0 it does not count. The period that completes the
count returns the divider to 0 and produces one second event. -/
def Timebase.period (t : Timebase) : Timebase :=
  if t.divider + 1 < Config.dividerPeriods then { t with divider := t.divider + 1 }
  else { t with divider := 0, secondsDue := t.secondsDue + 1 }

/-- A second event advances both counts as one change (R43). -/
def Timebase.second (t : Timebase) : Timebase :=
  { t with
    holdClock := nextSecond t.holdClock
    deviceTime := t.deviceTime.map nextSecond
    secondsDue := t.secondsDue - 1 }

/-- A hold that a second event makes due: OPEN, with its deadline reached (R84). -/
def Hold.atDeadline (h : Hold) (clock : Nat) : Bool := decide (h.state = .opened) && decide (h.deadline ≤ clock)

/-- The second event makes the OPEN hold of a place due when its deadline is reached (R84). -/
def State.markDue (s : State) (n : Nat) : State :=
  match (s.place n).live with
  | some h => if h.atDeadline s.time.holdClock = true then s.setHold n { h with due := true } else s
  | none => s

/-- The take of a second event: the counts advance, and the advanced hold clock makes holds due (R43, R84). -/
def State.secondEvent (s : State) : State :=
  if s.phase = .running ∧ 0 < s.time.secondsDue then
    (List.range Config.holdPlaces).foldl State.markDue { s with time := s.time.second }
  else s

/-- TBCLK_PERIOD (R42). -/
def execTbclkPeriod (s : State) : Host.Outcome State Fault Refusal :=
  .next (if s.phase = .running then { s with time := s.time.period } else s)

/-- SECOND_EVENT (R43, R84). -/
def execSecondEvent (s : State) : Host.Outcome State Fault Refusal := .next s.secondEvent

/-- Whether a Set Time is accepted, by the rows of Table 3-1 (R45): the force option read, and the status. -/
def setTimeStatus (deviceTime : Option Nat) (t : Nat) (force : Option Bool) : Status :=
  match force, deviceTime with
  | none, _ => .badField
  | some _, none => .ok
  | some f, some now => if now ≤ t then .ok else if f then .ok else .timeBackward

/-- The take of a Set Time (R45): the response carries device time after the take and, when OK, before it. -/
def takeSetTime (r : Request) (s : State) : State :=
  let t := field r.payload 0 4
  match setTimeStatus s.time.deviceTime t (readYesNo (field r.payload 4 1)) with
  | .ok =>
    State.answer { s with time := { s.time with deviceTime := some t } } .mp r .ok
      (optional 4 (some t) ++ optional 4 s.time.deviceTime)
  | status => s.answer .mp r status (optional 4 s.time.deviceTime)

/-- SET_TIME (R45, R46). -/
def execSetTime (s : State) : Host.Outcome State Fault Refusal := .next (s.take .mp .setTime takeSetTime)

/-- The payload of Table 10-8. -/
def Timebase.report (t : Timebase) : List Byte :=
  yesNo t.deviceTime.isSome :: (valueOrZero 4 t.deviceTime ++ be 4 t.holdClock)

/-- The take of a Read Time (R49). -/
def takeReadTime (p : Port) (r : Request) (s : State) : State := s.answer p r .ok s.time.report

/-- READ_TIME (R49). -/
def execReadTime (p : Port) (s : State) : Host.Outcome State Fault Refusal := .next (s.take p .readTime (takeReadTime p))

end Sys2Proof.Machine
end

