-- ==== Sys2Proof/Machine/Dispatch.lean ====
section
/-! DEFINITION. The meaning of every command: one arm per constructor of `Instr`, one direct call each. -/

namespace Sys2Proof.Machine

/-- The effect of a command on everything but the queue of commands. -/
def exec (i : Instr) (s : State) : Host.Outcome State Fault Refusal :=
  match i with
  | .request p x => Sys2Proof.Machine.execRequest p x s
  | .fetch p x => Sys2Proof.Machine.execFetch p x s
  | .portStatus p x => Sys2Proof.Machine.execPortStatus p x s
  | .present p => Sys2Proof.Machine.execPresent p s
  | .draw p => Sys2Proof.Machine.execDraw p s
  | .extend p => Sys2Proof.Machine.execExtend p s
  | .settle p => Sys2Proof.Machine.execSettle p s
  | .release p => Sys2Proof.Machine.execRelease p s
  | .forceRelease => Sys2Proof.Machine.execForceRelease s
  | .queryHold p => Sys2Proof.Machine.execQueryHold p s
  | .listHolds => Sys2Proof.Machine.execListHolds s
  | .readTime p => Sys2Proof.Machine.execReadTime p s
  | .readIdentity p => Sys2Proof.Machine.execReadIdentity p s
  | .status => Sys2Proof.Machine.execStatus s
  | .setTime => Sys2Proof.Machine.execSetTime s
  | .setClass => Sys2Proof.Machine.execSetClass s
  | .readClass => Sys2Proof.Machine.execReadClass s
  | .insert => Sys2Proof.Machine.execInsert s
  | .modify => Sys2Proof.Machine.execModify s
  | .topUp => Sys2Proof.Machine.execTopUp s
  | .bar => Sys2Proof.Machine.execBar s
  | .unbar => Sys2Proof.Machine.execUnbar s
  | .retire => Sys2Proof.Machine.execRetire s
  | .relocate => Sys2Proof.Machine.execRelocate s
  | .readEntry => Sys2Proof.Machine.execReadEntry s
  | .stage => Sys2Proof.Machine.execStage s
  | .discard => Sys2Proof.Machine.execDiscard s
  | .readBatch => Sys2Proof.Machine.execReadBatch s
  | .apply => Sys2Proof.Machine.execApply s
  | .startScan => Sys2Proof.Machine.execStartScan s
  | .suspendScan => Sys2Proof.Machine.execSuspendScan s
  | .resumeScan => Sys2Proof.Machine.execResumeScan s
  | .abortScan => Sys2Proof.Machine.execAbortScan s
  | .reset => Sys2Proof.Machine.execReset s
  | .scanStep => Sys2Proof.Machine.execScanStep s
  | .secondEvent => Sys2Proof.Machine.execSecondEvent s
  | .holdExpiry place => Sys2Proof.Machine.execHoldExpiry place s
  | .commitBegin => Sys2Proof.Machine.execCommitBegin s
  | .clearDueAdmission => Sys2Proof.Machine.execClearDueAdmission s
  | .batchCommitAdmission => Sys2Proof.Machine.execBatchCommitAdmission s
  | .settlementCompletion v => Sys2Proof.Machine.execSettlementCompletion v s
  | .insertCompletion v => Sys2Proof.Machine.execInsertCompletion v s
  | .modifyCompletion v => Sys2Proof.Machine.execModifyCompletion v s
  | .topUpCompletion v => Sys2Proof.Machine.execTopUpCompletion v s
  | .barCompletion v => Sys2Proof.Machine.execBarCompletion v s
  | .retireCompletion v => Sys2Proof.Machine.execRetireCompletion v s
  | .slotClearCompletion => Sys2Proof.Machine.execSlotClearCompletion s
  | .moveCompletion v => Sys2Proof.Machine.execMoveCompletion v s
  | .classWriteCompletion v => Sys2Proof.Machine.execClassWriteCompletion v s
  | .stageWriteCompletion v => Sys2Proof.Machine.execStageWriteCompletion v s
  | .promoteCompletion => Sys2Proof.Machine.execPromoteCompletion s
  | .powerOn => Sys2Proof.Machine.execPowerOn s
  | .powerLoss cut => Sys2Proof.Machine.execPowerLoss cut s
  | .resetNFall counterRaised => Sys2Proof.Machine.execResetNFall counterRaised s
  | .resetNRelease => Sys2Proof.Machine.execResetNRelease s
  | .chgInhChange asserted => Sys2Proof.Machine.execChgInhChange asserted s
  | .startUpRestore => Sys2Proof.Machine.execStartUpRestore s
  | .restoreComplete => Sys2Proof.Machine.execRestoreComplete s
  | .tbclkPeriod => Sys2Proof.Machine.execTbclkPeriod s

end Sys2Proof.Machine
end

