-- ==== Sys2Proof/Safety.lean ====
section
/-! DEFINITION. The terms the statements use: what a take leaves, the verdict checks as conditions, the CRC fed bit by bit,
which command takes which request, which commands may write the durable store, and the invariants. -/

namespace Sys2Proof.Machine

/-! ### What a take leaves (R178, R180, R181) -/

/-- The state after a take on port `p` that answers at once: the head request gone, the grant pointer past the port, and
the response `x` filled last. Everything else is that of `s`. -/
def State.answered (s : State) (p : Port) (x : Response) : State :=
  (s.setPort p { s.port p with
    requests := (s.port p).requests.tail
    filled := (s.port p).filled ++ [x] }).setPointer (Candidate.port p).after

/-- The state after a take on port `p` that accepts a request whose response comes at a completion: the head request gone,
the grant pointer past the port, a place reserved for kind and tag, and the commit at the tail of the queue. -/
def State.accepted (s : State) (p : Port) (kind tag : Byte) (change : Change) : State :=
  (({ s with commits := { s.commits with queue := s.commits.queue ++ [Commit.mk change (.port p kind tag)] } }).setPort p
    { s.port p with
      requests := (s.port p).requests.tail
      reserved := (s.port p).reserved ++ [(kind, tag)] }).setPointer (Candidate.port p).after

/-- The state in which the commit in progress has left the queue and the store is as its completion leaves it (R102). -/
def State.ended (s : State) (rest : List Commit) (store : Store) : State :=
  { s with commits := ⟨rest, none⟩, store := store }

/-- The state after the hold `h` in place `n` ended with an outcome: the place FREE with its closing record, and the slot on
the clear-due list where no hold is left on a RETIRING entry (R74, R95). -/
def State.closedHold (s : State) (n : Nat) (h : Hold) (outcome : HoldOutcome) : State :=
  let u := s.setPlace n ⟨(s.place n).generation, none, some ((s.place n).generation, outcome)⟩
  { u with engine := { u.engine with
    clearDue := if u.openHolds h.slot = 0 ∧ u.slotRetiring h.slot = true then insertRising h.slot s.engine.clearDue
      else s.engine.clearDue } }

/-- The change that the payload of a single change of an existing entry carries (Table 10-4). -/
def itemOf (k : Kind) (payload : List Byte) : Option Item :=
  match k with
  | .modify => readModify payload
  | .topUp => readTopUp payload
  | .bar => readBarItem payload
  | .unbar => readUnbarItem payload
  | .retire => readRetireItem payload
  | _ => none

/-- The state after a take on MP that answers at once and reserves a notice place (Apply, Start Scan). -/
def State.answeredWithNotice (s : State) (x : Response) (notice tag : Byte) : State :=
  (s.setPort .mp { s.mp with
    requests := s.mp.requests.tail
    filled := s.mp.filled ++ [x]
    reserved := s.mp.reserved ++ [(notice, tag)] }).setPointer (.port .tp0)

/-- The port and the request kind that a command takes; none where the command is no take of a request. -/
def takenBy : Instr → Option (Port × Kind)
  | .present p => some (p, .present)
  | .draw p => some (p, .draw)
  | .extend p => some (p, .extend)
  | .settle p => some (p, .settle)
  | .release p => some (p, .release)
  | .forceRelease => some (.mp, .forceRelease)
  | .queryHold p => some (p, .queryHold)
  | .listHolds => some (.mp, .listHolds)
  | .readTime p => some (p, .readTime)
  | .readIdentity p => some (p, .readIdentity)
  | .status => some (.mp, .status)
  | .setTime => some (.mp, .setTime)
  | .setClass => some (.mp, .setClass)
  | .readClass => some (.mp, .readClass)
  | .insert => some (.mp, .insert)
  | .modify => some (.mp, .modify)
  | .topUp => some (.mp, .topUp)
  | .bar => some (.mp, .bar)
  | .unbar => some (.mp, .unbar)
  | .retire => some (.mp, .retire)
  | .relocate => some (.mp, .relocate)
  | .readEntry => some (.mp, .readEntry)
  | .stage => some (.mp, .stage)
  | .discard => some (.mp, .discard)
  | .readBatch => some (.mp, .readBatch)
  | .apply => some (.mp, .apply)
  | .startScan => some (.mp, .startScan)
  | .suspendScan => some (.mp, .suspendScan)
  | .resumeScan => some (.mp, .resumeScan)
  | .abortScan => some (.mp, .abortScan)
  | .reset => some (.mp, .reset)
  | _ => none

/-- The commands that may change the durable store: completions, a loss of power, a fall of RESET_N (which can stop a
restore) and restore itself (R108, R115, R117). -/
def writesStore : Instr → Bool
  | .settlementCompletion _ => true
  | .insertCompletion _ => true
  | .modifyCompletion _ => true
  | .topUpCompletion _ => true
  | .barCompletion _ => true
  | .retireCompletion _ => true
  | .slotClearCompletion => true
  | .moveCompletion _ => true
  | .classWriteCompletion _ => true
  | .stageWriteCompletion _ => true
  | .promoteCompletion => true
  | .powerLoss _ => true
  | .resetNFall _ => true
  | .startUpRestore => true
  | .restoreComplete => true
  | _ => false

/-- The commands that begin or end a start-up, or lose the supply. -/
def restarts : Instr → Bool
  | .reset => true
  | .resetNFall _ => true
  | .powerLoss _ => true
  | .restoreComplete => true
  | _ => false

/-! ### The CRC, bit by bit (R11) -/

/-- One bit fed into the register under the generator x^16 + x^12 + x^5 + 1. -/
def crcBit (c : BitVec 16) (b : Bool) : BitVec 16 :=
  if c.msb != b then (c <<< (1 : Nat)) ^^^ 0x1021#16 else c <<< (1 : Nat)

/-! ### Verdict checks as conditions (Table 4-1) -/

/-- The check of a deny reason applies to the request and fails on the entry found (R55 to R66). -/
def State.fails (s : State) (q : Query) (slot : Nat) (e : Entry) : DenyReason → Prop
  | .unknownToken => False
  | .classDisabled => (s.classOf e.cls).enabled = false
  | .portNotAllowed =>
    (q.port = .tp0 ∧ (s.classOf e.cls).tp0Allowed = false) ∨ (q.port = .tp1 ∧ (s.classOf e.cls).tp1Allowed = false)
  | .barred => e.state = .barred ∧ (s.slot slot).retireMark = false
  | .retiring => e.state = .retiring ∨ (s.slot slot).retireMark = true
  | .timeUnknown => (e.validFrom ≠ none ∨ e.validUntil ≠ none) ∧ s.time.deviceTime = none
  | .notYetValid => ∃ a now, e.validFrom = some a ∧ s.time.deviceTime = some now ∧ now < a
  | .expired => ∃ b now, e.validUntil = some b ∧ s.time.deviceTime = some now ∧ b ≤ now
  | .entryChanging => q.draws = true ∧ s.changing slot = true
  | .overCeiling => ∃ c u, e.ceiling = some c ∧ q.units = some u ∧ c < u
  | .insufficient => ∃ b u, e.balance = some b ∧ q.units = some u ∧ b - s.heldUnits slot < u ∧
      ¬(q.draws = true ∧ q.partialFlag = true ∧ (s.classOf e.cls).partialDraws = true ∧ 1 ≤ b - s.heldUnits slot)
  | .holdLimit => q.draws = true ∧ e.holdsLimit ≤ s.openHolds slot
  | .holdsExhausted => q.draws = true ∧ ∀ n, n < Config.holdPlaces → (s.place n).live ≠ none

/-! ### Validation of a change as conditions (Table 7-1) -/

/-- Checks 4 to 8 of Table 7-1 by number: the check applies to the change and fails on the entry found. -/
def State.changeFails (s : State) (item : Item) (slot : Nat) (e : Entry) : Nat → Prop
  | 4 => s.isPending slot = true
  | 5 => e.state = .retiring ∨ (s.slot slot).retireMark = true
  | 6 => ∃ x, item.expected = some x ∧ x ≠ e.revision
  | 7 => (∀ id x, item ≠ .retire id x) ∧ (s.slot slot).worn = true
  | 8 => s.inhibited = true ∧ ∃ c ∈ item.classes e, s.underGuard c = true
  | _ => False

/-- The refusal each of these checks gives, with the fields it carries (R121, R124, R125). -/
def State.changeRefusal (s : State) (slot : Nat) (e : Entry) : Nat → Status × List Byte
  | 4 => (.entryBusy, [s.pendingCode slot])
  | 5 => (.retiring, [])
  | 6 => (.revisionMismatch, [byte e.revision, e.state.code])
  | 7 => (.storeFault, [])
  | _ => (.guarded, [])

/-- A commit is a commit for the entry in this slot, by the list of R23; an Insert's is covered by its reservation. -/
def State.isCommitFor (s : State) (slot : Nat) : Change → Prop
  | .modifyEntry n _ => n = slot
  | .topUpEntry n _ => n = slot
  | .setEntryState n _ => n = slot
  | .settleHold n _ _ => n = slot
  | .retireEntry n => n = slot
  | .clearEntry n => n = slot
  | .moveEntry n _ => n = slot
  | .stageItem _ n => n = slot
  | .promoteBatch => ∃ (i : Nat) (x : Item) (r : ItemRecord), s.batch.items[i]? = some x ∧ s.batch.records[i]? = some r ∧
      x.isInsert = false ∧ r.slot = slot
  | .insertEntry _ _ => False
  | .writeClass _ _ => False

/-- The outcome of an item's validation: the slot of its entry or the slot chosen for it, or the status of the first check that
fails (R145, R146). -/
def State.judged (s : State) (item : Item) : Except Status Nat :=
  match s.validate s.inhibited item with
  | .ok n => .ok n
  | .error (status, _) => .error status

/-- The state in which a validation judges its next item, after these items with their slots: the slot of each INSERT item is
RESERVED for its ID (R146). -/
def State.afterReservations (s : State) (judged : List (Item × Nat)) : State :=
  judged.foldl (fun t x =>
    if x.1.isInsert = true then t.setSlot x.2 { t.slot x.2 with content := .reserved x.1.id .batchInsert } else t) s

/-- The first items of the batch, as many as there are slots here, pass their validation with these slots, each judged after the
reservations of those before it (R145, R146). -/
def State.passWith (s : State) (slots : List Nat) : Prop :=
  ∀ (j : Nat) (x : Item) (n : Nat), s.batch.items[j]? = some x → slots[j]? = some n →
    (s.afterReservations ((s.batch.items.zip slots).take j)).judged x = .ok n

/-! ### A step of a scan, slot by slot (R161) -/

/-- The decision queues a commit. -/
def SlotDecision.needsCommit : SlotDecision → Bool
  | .pass => false
  | .skip => false
  | .retire => true
  | .rehome _ _ => true

/-- The state after the slot at the cursor was examined with this decision: the cursor past it, a skip counted, or one commit of
scan origin queued and in flight, with its target reserved for a rehoming (R161 to R163). -/
def State.examined (s : State) (d : SlotDecision) : State :=
  let passed : Scan := { s.scan with cursor := s.scan.cursor + 1 }
  match d with
  | .pass => { s with scan := passed }
  | .skip => { s with scan := { passed with skipped := s.scan.skipped + 1 } }
  | .retire => { s with
      commits := { s.commits with queue := s.commits.queue ++ [⟨.retireEntry s.scan.cursor, .scan⟩] }
      scan := { passed with inFlight := s.scan.inFlight + 1 } }
  | .rehome id target => { s.setSlot target { s.slot target with content := .reserved id .move } with
      commits := { s.commits with queue := s.commits.queue ++ [⟨.moveEntry s.scan.cursor target, .scan⟩] }
      scan := { passed with inFlight := s.scan.inFlight + 1 } }

/-- The decision for the slot at the cursor. -/
def State.cursorDecision (s : State) : SlotDecision := s.slotDecision s.inhibited s.scan.cursor

/-- The state after `k` slots from the cursor on were examined, one at a time. -/
def State.walked (s : State) : Nat → State
  | 0 => s
  | k + 1 => (s.walked k).examined (s.walked k).cursorDecision

/-! ### Payloads as a controller sends them (Table 10-4) -/

/-- The value bytes of a field whose value is absent are 0. -/
def flagged (n : Nat) : Option Nat → List Byte
  | none => 0#8 :: List.replicate n 0#8
  | some v => 1#8 :: be n v

/-- A Modify's payload: masks from which fields are named and which are made absent, then the values. -/
def modifyPayload (id : List Byte) (expected : Option Nat) (f : FieldChanges) : List Byte :=
  let bit (b : Bool) (v : Nat) : Nat := if b then v else 0
  let gone (x : Option (Option Nat)) : Bool := decide (x = some none)
  idField id ++ flagged 1 expected
    ++ [byte (bit f.cls.isSome 1 + bit f.holdsLimit.isSome 2 + bit f.validFrom.isSome 4 + bit f.validUntil.isSome 8
          + bit f.balance.isSome 16 + bit f.ceiling.isSome 32 + bit f.groupTag.isSome 64),
        byte (bit (gone f.validFrom) 4 + bit (gone f.validUntil) 8 + bit (gone f.balance) 16
          + bit (gone f.ceiling) 32 + bit (gone f.groupTag) 64)]
    ++ be 1 (f.cls.getD 0) ++ be 1 (f.holdsLimit.getD 0) ++ be 4 ((f.validFrom.getD none).getD 0)
    ++ be 4 ((f.validUntil.getD none).getD 0) ++ be 3 ((f.balance.getD none).getD 0)
    ++ be 2 ((f.ceiling.getD none).getD 0) ++ be 2 ((f.groupTag.getD none).getD 0)

/-! ### The arbiter (R180) -/

/-- How many candidates the arbiter considers before `c` when the pointer names `from_`. -/
def Candidate.distance (from_ c : Candidate) : Nat := (candidatesFrom from_).idxOf c

/-! ### Invariants -/

/-- Every numbered store is in its canonical form, and the clear-due list is in ascending slot order with each slot once. -/
def State.canonical (s : State) : Prop :=
  Table.wf emptySlot s.engine.slots = true ∧ Table.wf 0 s.engine.spillCounts = true
    ∧ Table.wf freshPlace s.holds = true ∧ Table.wf emptyDurable s.store.slots = true
    ∧ Table.wf factoryClass s.store.classes = true ∧ rising s.engine.clearDue = true

/-- A port's queues hold no more than their places (R178, R181). -/
def PortState.withinPlaces (x : PortState) : Prop :=
  x.requests.length ≤ Config.portPlaces ∧ x.filled.length + x.reserved.length ≤ Config.portPlaces

/-- The use count and the revision of an image are in their ranges (Table 1-1). -/
def Entry.countsInRange (e : Entry) : Prop := e.useCount ≤ 65535 ∧ e.revision ≤ 255

/-- The images the machine holds: working, durable and staged ones, those of the work in progress, of queued Inserts and of the
batch's INSERT items. -/
def State.holdsImage (s : State) (e : Entry) : Prop :=
  (∃ n, s.entryAt n = some e ∨ (s.store.slot n).image = some e ∨ (s.store.slot n).staged = some e)
    ∨ (∃ n, s.commits.work = some (.writeImage n e) ∨ s.commits.work = some (.writeStaged n e))
    ∨ (∃ a b, s.commits.work = some (.moveImage a b e))
    ∨ (∃ n, ∃ c ∈ s.commits.queue, c.change = .insertEntry n e) ∨ .insert e ∈ s.batch.items

/-- The bounds that hold of themselves: the queues and the batch buffer (R101, R139, R178, R181), the cursor (R157), the clocks
(R42 to R44, R50), the start counter (R115), the generations of the hold places (R73), and the use count and the revision of every
image (Table 1-1). -/
def State.withinBounds (s : State) : Prop :=
  s.mp.withinPlaces ∧ s.tp0.withinPlaces ∧ s.tp1.withinPlaces
    ∧ s.commits.queue.length ≤ Config.commitPlaces ∧ s.batch.items.length ≤ Config.batchItems
    ∧ s.scan.cursor ≤ Config.slots ∧ s.time.divider < Config.dividerPeriods ∧ s.time.holdClock ≤ maxSeconds
    ∧ (∀ v, s.time.deviceTime = some v → v ≤ maxSeconds) ∧ s.store.startCounter < 65536
    ∧ (∀ n, (s.place n).generation ≤ 255 ∧ ∀ g o, (s.place n).closing = some (g, o) → g ≤ 255)
    ∧ ∀ e, s.holdsImage e → e.countsInRange

/-- The bounds that rest on the books and on the table: each spill count from 0 to 256 (R17), and the commits in flight and the four
counts of the scan within Table 9-1. -/
def State.countsWithin (s : State) : Prop :=
  (∀ b, s.spillCount b ≤ 256) ∧ s.scan.inFlight ≤ 16 ∧ s.scan.retired ≤ 4352 ∧ s.scan.marked ≤ 4352 ∧ s.scan.rehomed ≤ 256
    ∧ s.scan.skipped ≤ 4352

/-- Move-target marks (R112, R117): none while restore has settled the store or intake is open, none while a commit is in
progress, and never two. -/
def State.marksSettled (s : State) : Prop :=
  ((s.phase = .settled ∨ s.phase = .running) → ∀ n, (s.store.slot n).moveTarget = false)
    ∧ (s.commits.work ≠ none → ∀ n, (s.store.slot n).moveTarget = false)
    ∧ ∀ m n, (s.store.slot m).moveTarget = true → (s.store.slot n).moveTarget = true → m = n

/-- The work in progress is one that the commit kind can decide on (R108, R111). -/
def Work.fits (w : Work) (c : Change) : Bool :=
  match c, w with
  | .insertEntry n _, .writeImage m _ => m == n
  | .modifyEntry n _, .writeImage m _ => m == n
  | .topUpEntry n _, .writeImage m _ => m == n
  | .setEntryState n _, .writeImage m _ => m == n
  | .settleHold n _ _, .writeImage m _ => m == n
  | .retireEntry n, .writeImage m _ => m == n
  | .retireEntry n, .clear m => m == n
  | .retireEntry n, .mark m => m == n
  | .clearEntry n, .clear m => m == n
  | .moveEntry a b, .moveImage x y _ => x == a && y == b
  | .writeClass c _, .writeClass d _ => c == d
  | .stageItem _ n, .writeStaged m _ => m == n
  | .promoteBatch, .promote _ => true
  | _, _ => false

/-- Which origins a kind of commit can have (Table 6-1). -/
def Commit.originFits (c : Commit) : Prop :=
  match c.change with
  | .insertEntry _ _ => ∃ p k t, c.origin = .port p k t
  | .modifyEntry _ _ => ∃ p k t, c.origin = .port p k t
  | .topUpEntry _ _ => ∃ p k t, c.origin = .port p k t
  | .setEntryState _ _ => ∃ p k t, c.origin = .port p k t
  | .settleHold _ _ _ => ∃ p k t, c.origin = .port p k t
  | .retireEntry _ => c.origin = .scan ∨ ∃ p k t, c.origin = .port p k t
  | .moveEntry _ _ => c.origin = .scan ∨ ∃ p k t, c.origin = .port p k t
  | .clearEntry _ => c.origin = .clearDue
  | .writeClass _ _ => ∃ p k t, c.origin = .port p k t
  | .stageItem _ _ => c.origin = .batch
  | .promoteBatch => c.origin = .batch

/-- Every queued commit has an origin of its kind, a port's kind code is not a notice's, and the commit in progress is the
head of the queue with a work that fits it (R99, R101, R102). -/
def State.commitsFormed (s : State) : Prop :=
  (∀ c ∈ s.commits.queue, c.originFits ∧ ∀ p k t, c.origin = .port p k t → k ≠ applyNotice ∧ k ≠ scanNotice)
    ∧ ∀ w, s.commits.work = some w → ∃ c, s.commits.queue.head? = some c ∧ w.fits c.change = true

/-- A commit is a rehoming MOVE of a scan (R163). -/
def Commit.rehomes (c : Commit) : Bool :=
  match c.origin, c.change with
  | .scan, .moveEntry _ _ => true
  | _, _ => false

/-- The scan's commits in flight are the queued commits of scan origin; an IDLE scan has none and a DRAINING one has some
(R157, R158, R167). The commits in flight take no more than the queue's 16 places, each slot the cursor has passed is counted at
most once, and a spill slot at most once as rehomed (R161 to R166, Table 9-1). -/
def State.scanCounted (s : State) : Prop :=
  (s.phase = .running →
    s.scan.inFlight = (s.commits.queue.filter fun c => decide (c.origin = .scan)).length
      ∧ (s.scan.state = .idle → s.scan.inFlight = 0) ∧ (s.scan.state = .draining → 0 < s.scan.inFlight))
    ∧ s.commits.queue.length ≤ Config.commitPlaces ∧ s.scan.inFlight ≤ Config.commitPlaces ∧ s.scan.cursor ≤ Config.slots
    ∧ s.scan.retired + s.scan.marked + s.scan.rehomed + s.scan.skipped + s.scan.inFlight ≤ s.scan.cursor
    ∧ s.scan.rehomed + (s.commits.queue.filter Commit.rehomes).length ≤ s.scan.cursor - Config.homeSlots

/-- The PROMOTE is queued at most once, only while the batch is WRITING or PROMOTING, and after it has been fed (R151). -/
def State.promoteOnce (s : State) : Prop :=
  (s.commits.queue.filter fun c => decide (c.change = .promoteBatch)).length ≤ 1
    ∧ ∀ c ∈ s.commits.queue, c.change = .promoteBatch →
        s.phase = .running → s.batch.isLocked = true ∧ s.batch.promoteFed = true

/-- The kind and tag of each response or notice that port `p` still waits for: one for each queued commit of its requests,
and on MP one for a locked batch and one for a scan that is not IDLE (R181). -/
def State.awaited (s : State) (p : Port) : List (Byte × Byte) :=
  (s.commits.queue.filterMap fun c => match c.origin with
    | .port q k t => if q = p then some (k, t) else none
    | .scan => none
    | .clearDue => none
    | .batch => none)
    ++ (if p = .mp ∧ s.batch.isLocked = true then [(applyNotice, s.batch.applyTag)] else [])
    ++ (if p = .mp ∧ s.scan.state ≠ .idle then [(scanNotice, s.scan.startTag)] else [])

/-- While intake is open the reserved places of a port are exactly those it waits for; while it is not, its queues are
empty (R181, R188). -/
def State.placesAccounted (s : State) : Prop :=
  ∀ p, (s.phase = .running → ((s.port p).reserved).Perm (s.awaited p))
    ∧ (s.phase ≠ .running → (s.port p).requests = [] ∧ (s.port p).filled = [] ∧ (s.port p).reserved = [])

/-- The book-keeping invariant: commits well formed, scan counted, PROMOTE once, places accounted. -/
def State.accounted (s : State) : Prop := s.commitsFormed ∧ s.scanCounted ∧ s.promoteOnce ∧ s.placesAccounted

/-! ### The table is sound (R1, R17, R18, R67, R76) -/

/-- An entry of this ID may lie in the slot: a way of its home bucket, or a spill slot (R20, R21). -/
def liesRight (n : Nat) (id : List Byte) : Prop := n ∈ waysOf (homeBucket id) ∨ inSpill n = true

/-- What the durable store keeps in every phase: each image lies where its ID may, two slots hold one ID only during a MOVE,
one of them marked (R18, R112), and a slot without an image has no retire mark (R9, R100). -/
structure Store.sound (st : Store) : Prop where
  placed : ∀ n e, (st.slot n).image = some e → liesRight n e.id
  alone : ∀ m n x y, (st.slot m).image = some x → (st.slot n).image = some y → x.id = y.id →
    m = n ∨ (st.slot m).moveTarget = true ∨ (st.slot n).moveTarget = true
  unmarked : ∀ n, (st.slot n).image = none → (st.slot n).retireMark = false

/-- The reservation that a queued commit holds: of a single Insert, or of a MOVE for the ID of the entry it moves (R14). -/
def State.claimOf (s : State) : Change → Option (Nat × List Byte × Holder)
  | .insertEntry n e => some (n, e.id, .singleInsert)
  | .moveEntry a b => (s.entryAt a).map fun e => (b, e.id, .move)
  | .modifyEntry _ _ => none
  | .topUpEntry _ _ => none
  | .setEntryState _ _ => none
  | .settleHold _ _ _ => none
  | .retireEntry _ => none
  | .clearEntry _ => none
  | .writeClass _ _ => none
  | .stageItem _ _ => none
  | .promoteBatch => none

/-- Every reservation that the commit queue and a validated batch hold: slot, token ID, holder (R14). -/
def State.claims (s : State) : List (Nat × List Byte × Holder) :=
  s.commits.queue.filterMap (fun c => s.claimOf c.change)
    ++ if s.batch.isLocked = true then
        (s.batch.recorded.filter fun x => x.1.isInsert).map fun x => (x.2.slot, x.1.id, Holder.batchInsert)
      else []

/-- The slot of the entry that a single commit is for (R23). -/
def Change.subject : Change → Option Nat
  | .modifyEntry n _ => some n
  | .topUpEntry n _ => some n
  | .setEntryState n _ => some n
  | .settleHold n _ _ => some n
  | .retireEntry n => some n
  | .clearEntry n => some n
  | .moveEntry n _ => some n
  | .insertEntry _ _ => none
  | .writeClass _ _ => none
  | .stageItem _ _ => none
  | .promoteBatch => none

/-- The slots of the entries that a queued single commit is for, and of those a batch locks (R23, R24). -/
def State.subjects (s : State) : List Nat :=
  s.commits.queue.filterMap (fun c => c.change.subject)
    ++ if s.batch.isLocked = true then s.batch.lockedSlots else []

/-- The slot whose entry must not be RETIRING while this commit is queued (Table 7-1 check 5, R160). -/
def Change.needsLiving : Change → Option Nat
  | .modifyEntry n _ => some n
  | .topUpEntry n _ => some n
  | .setEntryState n _ => some n
  | .retireEntry n => some n
  | .settleHold _ _ _ => none
  | .clearEntry _ => none
  | .moveEntry _ _ => none
  | .insertEntry _ _ => none
  | .writeClass _ _ => none
  | .stageItem _ _ => none
  | .promoteBatch => none

/-- The balance that the image of a commit carries, from the balance of the entry (R91, R129, R131). -/
def Change.balanceAfter (old : Option Nat) : Change → Option Nat
  | .modifyEntry _ f => f.balance.getD old
  | .topUpEntry _ amount => old.map (· + amount)
  | .settleHold _ _ u => old.map (· - u)
  | .setEntryState _ _ => old
  | .retireEntry _ => old
  | .clearEntry _ => old
  | .moveEntry _ _ => old
  | .insertEntry _ _ => old
  | .writeClass _ _ => old
  | .stageItem _ _ => old
  | .promoteBatch => old

/-- The work in progress agrees with its commit and with the entry it was formed from, which no other commit writes meanwhile
(R23, R108, R111, R114). -/
structure State.workAgrees (s : State) (c : Change) (w : Work) : Prop where
  inserts : ∀ n e m x, c = .insertEntry n e → w = .writeImage m x → x = e
  writes : ∀ n x, c.subject = some n → w = .writeImage n x → ∃ e, s.entryAt n = some e ∧ x.id = e.id ∧
    x.balance = c.balanceAfter e.balance ∧ (c = .retireEntry n → x.state = .retiring) ∧
    (c.needsLiving = some n → c ≠ .retireEntry n → x.state ≠ .retiring)
  clears : ∀ n, w = .clear n → s.openHolds n = 0
  moves : ∀ a b x, w = .moveImage a b x → ∃ e, s.entryAt a = some e ∧ x.id = e.id ∧ x.balance = e.balance ∧
    (s.isRetiring a e = true ↔ x.state = .retiring)
  stages : ∀ i n x, c = .stageItem i n → w = .writeStaged n x → ∃ y, s.batch.items[i]? = some y ∧ s.stagedImage n y = some x
  promotes : ∀ ups, w = .promote ups → ups.length = s.batch.records.length ∧
    ∀ (i : Nat) (y : Item) (r : ItemRecord) (u : Nat × Promotion), s.batch.items[i]? = some y →
      s.batch.records[i]? = some r → ups[i]? = some u →
      u.1 = r.slot ∧ (u.2 = .makeCurrent → r.needsStage = true) ∧ (u.2 = .clear → s.openHolds r.slot = 0) ∧
        (y.isRetire = false → u.2 = .makeCurrent)

/-- The working directory and images while intake is open: those of the store, one slot for each ID, and the reservations that
commits and the batch hold. -/
structure State.directorySound (s : State) : Prop where
  /-- The working image and the durable image of a slot hold the same values, and so do its marks (R1, R10). -/
  images : ∀ n, s.entryAt n = (s.store.slot n).image ∧ (s.slot n).worn = (s.store.slot n).worn ∧
    (s.slot n).retireMark = (s.store.slot n).retireMark
  /-- No two OCCUPIED slots hold entries with the same token ID (R18). -/
  alone : ∀ m n x y, s.entryAt m = some x → s.entryAt n = some y → x.id = y.id → m = n
  /-- Each bucket's spill count is the number of OCCUPIED spill slots whose entry has that bucket as home (R17). -/
  spill : ∀ b, s.spillCount b = (spillArea.filter fun n => match s.entryAt n with
    | some e => decide (homeBucket e.id = b)
    | none => false).length
  /-- The RESERVED slots are the slots of the reservations (R14). -/
  reserved : ∀ n id x, (s.slot n).content = .reserved id x ↔ (n, id, x) ∈ s.claims
  /-- No slot and no token ID is in two reservations (R19). -/
  claimsApart : (s.claims.map (·.1)).Nodup ∧ (s.claims.map (·.2.1)).Nodup
  claimsPlaced : ∀ n id x, (n, id, x) ∈ s.claims → liesRight n id
  /-- The ID of a reservation for a new entry is not the ID of an entry (R19). -/
  newIds : ∀ n id x, (n, id, x) ∈ s.claims → x ≠ .move → ∀ m e, s.entryAt m = some e → e.id ≠ id

/-- The holds while intake is open, against the entries and the commits. -/
structure State.holdsSound (s : State) : Prop where
  /-- Every live hold refers to an OCCUPIED slot (R73, R76). -/
  lie : ∀ n h, (s.place n).live = some h → n < Config.holdPlaces ∧ ∃ e, s.entryAt h.slot = some e
  /-- The held units of a metered entry are within its balance (R67). -/
  within : ∀ n e b, s.entryAt n = some e → e.balance = some b → s.heldUnits n ≤ b
  /-- A queued settlement has its SETTLING hold, which holds at least what is charged (R88, R89). -/
  settling : ∀ c ∈ s.commits.queue, ∀ n place u, c.change = .settleHold n place u →
    ∃ h, (s.place place).live = some h ∧ h.slot = n ∧ h.state = .settling u ∧ u ≤ h.units
  /-- A queued Modify leaves a balance that the held units are within (R129, R24). -/
  modifying : ∀ c ∈ s.commits.queue, ∀ n f b, c.change = .modifyEntry n f → f.balance = some (some b) → s.heldUnits n ≤ b
  /-- An entry is clear due while it is RETIRING with no open hold; it leaves the list when its SLOT_CLEAR is admitted (R25). -/
  clearing : ∀ n, (n ∈ s.engine.clearDue ∨ s.clearQueued n = true) ↔ (s.slotRetiring n = true ∧ s.openHolds n = 0)
  cleared : ∀ n ∈ s.engine.clearDue, s.clearQueued n = false

/-- The commits of entries and the work in progress while intake is open (R23). -/
structure State.subjectsSound (s : State) : Prop where
  apart : s.subjects.Nodup
  lie : ∀ n ∈ s.subjects, ∃ e, s.entryAt n = some e
  /-- Each entry has at most one commit queued or in progress, of a single change, of a scan, of the clear-due producer or of the
  batch (R23, R101). -/
  single : ∀ n e, s.entryAt n = some e →
    (s.commits.queue.filter fun c => c.change.isFor s.batch.lockedSlots n).length ≤ 1
  /-- A queued Insert, Bar or Unbar makes an entry ACTIVE or BARRED (R2, R132). -/
  fresh : ∀ c ∈ s.commits.queue, (∀ n e, c.change = .insertEntry n e → e.state ≠ .retiring) ∧
    (∀ n x, c.change = .setEntryState n x → x ≠ .retiring)
  living : ∀ c ∈ s.commits.queue, ∀ n, c.change.needsLiving = some n → s.slotRetiring n = false
  work : ∀ c w, s.commits.queue.head? = some c → s.commits.work = some w → s.workAgrees c.change w

/-- The batch while intake is open (08). -/
structure State.batchSound (s : State) : Prop where
  /-- No two items name one token ID (R141). -/
  apart : (s.batch.items.map Item.id).Nodup
  /-- A new image of the batch is ACTIVE or BARRED (R2). -/
  fresh : ∀ e, .insert e ∈ s.batch.items → e.state ≠ .retiring
  /-- No scan is RUNNING while the batch is WRITING or PROMOTING (R149). -/
  noScan : s.batch.isLocked = true → s.scan.state ≠ .running
  recorded : s.batch.isLocked = true → s.batch.records.length = s.batch.items.length
  /-- Each item of a validated batch that names an entry names the one in its slot, which is not RETIRING; the held units are
  within the balance its Modify sets (R145, R149). -/
  named : s.batch.isLocked = true → ∀ (i : Nat) (x : Item) (r : ItemRecord), s.batch.items[i]? = some x →
    s.batch.records[i]? = some r →
    (x.isInsert = false → (∃ e, s.entryAt r.slot = some e ∧ e.id = x.id) ∧ s.slotRetiring r.slot = false) ∧
      (∀ id y f b, x = .modify id y f → f.balance = some (some b) → s.heldUnits r.slot ≤ b)
  /-- An item without a STAGE_WRITE is a RETIRE of an entry with no open hold or in a WORN slot (R151); one whose STAGE_WRITE
  has completed has its staged version in the staging position (R114, R152). -/
  stagedItems : s.batch.isLocked = true → ∀ (i : Nat) (x : Item) (r : ItemRecord), s.batch.items[i]? = some x →
    s.batch.records[i]? = some r →
    (r.needsStage = false → x.isRetire = true ∧ (s.openHolds r.slot = 0 ∨ (s.slot r.slot).worn = true)) ∧
      (r.needsStage = true → i < s.batch.fed → (∀ c ∈ s.commits.queue, c.change ≠ .stageItem i r.slot) →
        (s.store.slot r.slot).staged = s.stagedImage r.slot x)
  fedWhole : s.batch.promoteFed = true → s.batch.records.length ≤ s.batch.fed
  /-- A queued STAGE_WRITE is one that the batch has fed (R151). -/
  stageWrites : ∀ c ∈ s.commits.queue, ∀ i n, c.change = .stageItem i n → s.batch.isLocked = true ∧ i < s.batch.fed ∧
    s.batch.records[i]? = some ⟨n, true⟩
  /-- The PROMOTE is behind every STAGE_WRITE of the batch (R151). -/
  order : ∀ front c back, s.commits.queue = front ++ c :: back → c.change = .promoteBatch →
    ∀ d ∈ back, ∀ i n, d.change ≠ .stageItem i n

/-- The table, its store, its holds and the commits agree: in every phase the store is sound and stays so when the work in
progress ends or is cut off; while intake is open the working state agrees with it. -/
structure State.tableSound (s : State) : Prop where
  store : s.store.sound
  works : ∀ w, s.commits.work = some w → ∀ k, (w.updates k s.store).sound
  /-- A spill count is from 0 to 256 (R17), in every phase. -/
  spillFits : ∀ b, s.spillCount b ≤ Config.spillSlots
  directory : s.phase = .running → s.directorySound
  holds : s.phase = .running → s.holdsSound
  subjects : s.phase = .running → s.subjectsSound
  batch : s.phase = .running → s.batchSound

/-! ### Devices to start from -/

/-- A device that has never been started, without supply: nothing stored, start counter 0 (R28, R115). -/
def State.factory : State :=
  { State.reset with store := ⟨[], [], 0⟩, phase := .off }

end Sys2Proof.Machine
end

