-- ==== Sys2Proof/Certificates/Slice0/Obligations.lean ====
section
/-! DEFINITION. The statements for the provers. Each docstring names the rules it formalises; OBLIGATIONS.json lists them. -/

open Sys2Proof Sys2Proof.Machine

/-! ### The queue of commands -/

/-- One step executes the command at the front of the queue on the state with the queue's rest; an empty queue idles
(the model's own queue, log 2). -/
def Obligations.StepRunsFrontCommand : Prop :=
  (∀ (c : Instr) (rest : List Instr) (s : State), s.pending = c :: rest → step s = exec c { s with pending := rest }) ∧
  (∀ s : State, s.pending = [] → step s = .next s)

/-- Every command answers a next state in every state, and leaves the queue of commands alone. The spec has no device-wide error
state (R102); that a command sent out of turn answers next too is the model's choice (log 1), and so is the queue of commands
(log 2). -/
def Obligations.EveryCommandGoesOnAndLeavesTheQueue : Prop :=
  ∀ (c : Instr) (s : State), ∃ t : State, exec c s = .next t ∧ t.pending = s.pending

/-- A take that the arbiter does not grant now, and an event that cannot occur now, change nothing (the model's choice for a
command sent out of turn, log 1; R85, R102, R105, R107, R116, R178). -/
def Obligations.OutOfTurnCommandsChangeNothing : Prop :=
  (∀ (c : Instr) (p : Port) (k : Kind) (s : State), takenBy c = some (p, k) → s.takeable p k = none → exec c s = .next s) ∧
  (∀ s : State, s.granted ≠ some .scan → exec .scanStep s = .next s) ∧
  (∀ s : State, s.phase ≠ .running ∨ s.time.secondsDue = 0 → exec .secondEvent s = .next s) ∧
  (∀ (s : State) (n : Nat), s.phase ≠ .running ∨ (∀ h, (s.place n).live = some h → h.due = false) →
    exec (.holdExpiry n) s = .next s) ∧
  (∀ s : State, s.phase ≠ .running ∨ s.commits.work ≠ none ∨ s.commits.queue = [] → exec .commitBegin s = .next s) ∧
  (∀ s : State, s.phase ≠ .running ∨ s.freeCommits ≤ 4 →
    exec .clearDueAdmission s = .next s ∧ exec .batchCommitAdmission s = .next s) ∧
  (∀ (s : State) (v : Verify), s.commits.work = none →
    exec (.settlementCompletion v) s = .next s ∧ exec (.insertCompletion v) s = .next s
      ∧ exec (.modifyCompletion v) s = .next s ∧ exec (.topUpCompletion v) s = .next s
      ∧ exec (.barCompletion v) s = .next s ∧ exec (.retireCompletion v) s = .next s
      ∧ exec .slotClearCompletion s = .next s ∧ exec (.moveCompletion v) s = .next s
      ∧ exec (.classWriteCompletion v) s = .next s ∧ exec (.stageWriteCompletion v) s = .next s
      ∧ exec .promoteCompletion s = .next s) ∧
  (∀ s : State, s.phase ≠ .off → exec .powerOn s = .next s) ∧
  (∀ (s : State) (cut : PowerCut), s.phase = .off → exec (.powerLoss cut) s = .next s) ∧
  (∀ s : State, s.phase ≠ .starting ∨ s.resetLow = true ∨ s.commits.work ≠ none → exec .startUpRestore s = .next s) ∧
  (∀ s : State, s.phase ≠ .settled ∨ s.resetLow = true → exec .restoreComplete s = .next s) ∧
  (∀ (s : State) (raised : Bool), s.resetLow = true → exec (.resetNFall raised) s = .next s)

/-! ### The table: hash, lookup, placement (01) -/

/-- The home bucket is the CRC-16 of the ID's bytes, fed bit by bit, most significant bit first, from FFFFh, modulo 512; the
check value of Table 1-3 (R11). -/
def Obligations.HomeBucketIsTheCrc : Prop :=
  (∀ id : List Byte,
    crc16 id = (id.flatMap bitsOf).foldl crcBit 0xFFFF#16
      ∧ homeBucket id = (crc16 id).toNat % 512 ∧ homeBucket id < 512) ∧
  crc16 [0x31#8, 0x32#8, 0x33#8, 0x34#8, 0x35#8, 0x36#8, 0x37#8, 0x38#8, 0x39#8] = 0x29B1#16 ∧
  homeBucket [0x31#8, 0x32#8, 0x33#8, 0x34#8, 0x35#8, 0x36#8, 0x37#8, 0x38#8, 0x39#8] = 433 ∧
  waysOf 433 = [3464, 3465, 3466, 3467, 3468, 3469, 3470, 3471]

/-- Lookup answers an OCCUPIED slot with the ID, in the home bucket or, where the spill count is above 0, in spill; where it
answers none, no way of the bucket and (with a spill count above 0) no spill slot holds the ID (R18). Placement answers the
lowest FREE, sound way of the home bucket, else the lowest FREE, sound spill slot, else none (R20). -/
def Obligations.LookupAndPlacement : Prop :=
  ∀ (s : State) (id : List Byte),
    (∀ n, s.lookup id = some n → (∃ e, s.entryAt n = some e ∧ e.id = id) ∧
      (n ∈ waysOf (homeBucket id) ∨ (0 < s.spillCount (homeBucket id) ∧ 4096 ≤ n ∧ n < 4352))) ∧
    (s.lookup id = none →
      (∀ n ∈ waysOf (homeBucket id), ∀ e, s.entryAt n = some e → e.id ≠ id) ∧
      (0 < s.spillCount (homeBucket id) → ∀ n, 4096 ≤ n → n < 4352 → ∀ e, s.entryAt n = some e → e.id ≠ id)) ∧
    (∀ n, s.placement id = some n →
      ((s.slot n).content = .free ∧ (s.slot n).worn = false) ∧
      ((n ∈ waysOf (homeBucket id) ∧ ∀ m ∈ waysOf (homeBucket id), m < n → s.placeable m = false) ∨
        ((∀ m ∈ waysOf (homeBucket id), s.placeable m = false) ∧ 4096 ≤ n ∧ n < 4352 ∧
          ∀ m, 4096 ≤ m → m < n → s.placeable m = false))) ∧
    (s.placement id = none →
      (∀ m ∈ waysOf (homeBucket id), s.placeable m = false) ∧ ∀ m, 4096 ≤ m → m < 4352 → s.placeable m = false)

/-! ### Verdicts (04) -/

/-- The deny reason is the first check of Table 4-1 that applies and fails; a request that passes every check that applies has
a positive verdict; no entry found is UNKNOWN_TOKEN (R55, R56). -/
def Obligations.VerdictIsTheFirstFailingCheck : Prop :=
  ∀ (s : State) (q : Query) (id : List Byte),
    (s.lookup id = none → s.verdict q id = .unknown) ∧
    ∀ slot e, s.lookup id = some slot → s.entryAt slot = some e →
      (∀ d, s.verdict q id = .denied d slot e ↔
        s.fails q slot e d ∧ ∀ d' : DenyReason, d'.number < d.number → ¬ s.fails q slot e d') ∧
      (s.verdict q id = .positive slot e ↔ ∀ d, ¬ s.fails q slot e d)

/-- A Present is answered at its take with the fields of Table 4-2 and changes nothing but the asking port's queues (R53, R69,
R70); the presence bytes are the model's reading of R189 (log 16). A Draw that is malformed or denied is answered at its take and
changes nothing else; OVER_CEILING carries the ceiling and INSUFFICIENT the available units (R54, R68, R70); that a denied Draw
carries them as value bytes without a presence byte, and nothing for another reason, is the model's reading too (log 15). The deny
reasons are the numbers of Table 4-1 (R55). -/
def Obligations.PresentAndDrawAnswerAtOnce : Prop :=
  (∀ (p : Port) (r : Request) (s : State), s.takeable p .present = some r →
    (readPresent r.payload = none → exec (.present p) s = .next (s.answered p ⟨0x10#8, r.tag, .badField, []⟩)) ∧
    ∀ id units, readPresent r.payload = some (id, units) →
      (s.verdict ⟨p, false, units, false⟩ id = .unknown →
        exec (.present p) s = .next (s.answered p ⟨0x10#8, r.tag, .denied,
          [1#8, 1#8, 0#8, 0#8, 0#8, 0#8, 0#8, 0#8, 0#8, 0#8, 0#8, 0#8, 0#8, 0#8, 0#8, 0#8]⟩)) ∧
      (∀ d slot e, s.verdict ⟨p, false, units, false⟩ id = .denied d slot e →
        exec (.present p) s = .next (s.answered p ⟨0x10#8, r.tag, .denied,
          [1#8, byte d.number, 1#8, byte e.cls, 1#8] ++ figure (e.balance.map (· - s.heldUnits slot))
            ++ optional 4 e.validUntil ++ [1#8, byte e.revision]⟩)) ∧
      (∀ slot e, s.verdict ⟨p, false, units, false⟩ id = .positive slot e →
        exec (.present p) s = .next (s.answered p ⟨0x10#8, r.tag, .ok,
          [0#8, 0#8, 1#8, byte e.cls, 1#8] ++ figure (e.balance.map (· - s.heldUnits slot))
            ++ optional 4 e.validUntil ++ [1#8, byte e.revision]⟩))) ∧
  (∀ (p : Port) (r : Request) (s : State), s.takeable p .draw = some r →
    (readDraw r.payload = none → exec (.draw p) s = .next (s.answered p ⟨0x11#8, r.tag, .badField, []⟩)) ∧
    ∀ id units part, readDraw r.payload = some (id, units, part) →
      (s.verdict ⟨p, true, some units, part⟩ id = .unknown →
        exec (.draw p) s = .next (s.answered p ⟨0x11#8, r.tag, .denied, [1#8]⟩)) ∧
      (∀ d slot e, s.verdict ⟨p, true, some units, part⟩ id = .denied d slot e →
        exec (.draw p) s = .next (s.answered p ⟨0x11#8, r.tag, .denied,
          byte d.number ::
            (if d = .overCeiling then be 2 (e.ceiling.getD 0)
             else if d = .insufficient then be 3 (e.balance.getD 0 - s.heldUnits slot) else [])⟩))) ∧
  (∀ d : DenyReason, (d, d.number) ∈ [(DenyReason.unknownToken, 1), (.classDisabled, 2), (.portNotAllowed, 3), (.barred, 4),
    (.retiring, 5), (.timeUnknown, 6), (.notYetValid, 7), (.expired, 8), (.entryChanging, 9), (.overCeiling, 10),
    (.insufficient, 11), (.holdLimit, 12), (.holdsExhausted, 13)])

/-- A Draw with a positive verdict opens a hold in the lowest FREE place in the same take: generation raised by 1 with 255
followed by 0, epoch, owner, slot, units, deadline and limit as R75 and R67 say, the closing record left as it was; the handle,
units and lifetime are answered and nothing else changes (R67, R68, R75). -/
def Obligations.DrawGrantOpensTheHold : Prop :=
  ∀ (p : Port) (r : Request) (s : State) (id : List Byte) (units : Nat) (part : Bool) (slot : Nat) (e : Entry),
    s.takeable p .draw = some r → readDraw r.payload = some (id, units, part) →
    s.verdict ⟨p, true, some units, part⟩ id = .positive slot e →
    ∃ (n g u : Nat) (h : Hold), n < 32 ∧ (s.place n).live = none ∧ (∀ m, m < n → (s.place m).live ≠ none) ∧
      g = ((s.place n).generation + 1) % 256 ∧
      u = (match e.balance with
        | some b => min (b - s.heldUnits slot) units
        | none => units) ∧
      h = ({ epoch := s.store.startCounter, owner := p, slot := slot, units := u
             deadline := min (s.time.holdClock + (s.classOf e.cls).lifetime) 4294967295
             limit := min (s.time.holdClock + (s.classOf e.cls).lifetimeLimit) 4294967295
             state := .opened, due := false } : Hold) ∧
      exec (.draw p) s = .next
        ({ s with holds := Table.set freshPlace s.holds n ⟨g, some h, (s.place n).closing⟩ }.answered p
          ⟨0x11#8, r.tag, .ok, [byte n, byte g] ++ be 2 h.epoch ++ be 2 h.units
            ++ be 4 (h.deadline - s.time.holdClock)⟩)

/-- A granted Draw never raises the held units of a metered entry above its balance, nor its open holds above its holds limit,
and touches the figures of no other slot (R65, R67). -/
def Obligations.GrantKeepsUnitsWithinBalance : Prop :=
  ∀ (p : Port) (r : Request) (s : State) (id : List Byte) (units : Nat) (part : Bool) (slot : Nat) (e : Entry) (b : Nat),
    s.takeable p .draw = some r → readDraw r.payload = some (id, units, part) →
    s.verdict ⟨p, true, some units, part⟩ id = .positive slot e → e.balance = some b → s.heldUnits slot ≤ b →
    ∃ t : State, exec (.draw p) s = .next t ∧ t.heldUnits slot ≤ b ∧ t.openHolds slot = s.openHolds slot + 1 ∧
      t.openHolds slot ≤ e.holdsLimit ∧ t.entryAt slot = some e ∧
      ∀ m, m ≠ slot → t.heldUnits m = s.heldUnits m ∧ t.openHolds m = s.openHolds m

/-! ### Holds (05) -/

/-- The handle check of Extend, Settle, Release and Query Hold, in its five steps, each with the response it gives; a hold that
passes it is found (R77). An Extend's e of 0 is answered before the handle is checked (R79), so it is left to the statement
on Extend. -/
def Obligations.HandleIsCheckedInOrder : Prop :=
  ∀ (c : Instr) (p : Port) (k : Kind) (r : Request) (s : State),
    takenBy c = some (p, k) → (k = .extend ∨ k = .settle ∨ k = .release ∨ k = .queryHold) →
    s.takeable p k = some r → (k = .extend → field r.payload 4 2 ≠ 0) →
    ∀ n g e, readHandle r.payload = ⟨n, g, e⟩ →
    (31 < n → exec c s = .next (s.answered p ⟨k.code, r.tag, .badField, []⟩)) ∧
    (n ≤ 31 → e ≠ s.store.startCounter → exec c s = .next (s.answered p ⟨k.code, r.tag, .restarted, []⟩)) ∧
    (n ≤ 31 → e = s.store.startCounter → (s.place n).generation = g → ∀ h, (s.place n).live = some h →
      (p ≠ .mp → h.owner ≠ p → exec c s = .next (s.answered p ⟨k.code, r.tag, .notOwner, []⟩)) ∧
      (p = .mp ∨ h.owner = p → s.checkHandle p ⟨n, g, e⟩ = .found h)) ∧
    (n ≤ 31 → e = s.store.startCounter → (s.place n).live = none ∨ (s.place n).generation ≠ g →
      (∀ o, (s.place n).closing = some (g, o) → exec c s = .next (s.answered p
        ⟨k.code, r.tag, if o = .expired then .holdExpired else .holdClosed, if k = .queryHold then [o.code] else []⟩)) ∧
      ((∀ o, (s.place n).closing ≠ some (g, o)) → exec c s = .next (s.answered p ⟨k.code, r.tag, .noSuchHold, []⟩)))

/-- Extend: an e of 0 is BAD_FIELD; a SETTLING hold is HOLD_SETTLING; an OPEN hold's deadline becomes the smaller of the old
deadline plus e and the limit, and the remaining seconds and the limit flag are answered (R79). -/
def Obligations.ExtendMovesTheDeadline : Prop :=
  ∀ (p : Port) (r : Request) (s : State), s.takeable p .extend = some r →
    (field r.payload 4 2 = 0 → exec (.extend p) s = .next (s.answered p ⟨0x12#8, r.tag, .badField, []⟩)) ∧
    ∀ h d, field r.payload 4 2 ≠ 0 → s.checkHandle p (readHandle r.payload) = .found h →
      d = min (h.deadline + field r.payload 4 2) h.limit →
      ((∃ u, h.state = .settling u) → exec (.extend p) s = .next (s.answered p ⟨0x12#8, r.tag, .holdSettling, []⟩)) ∧
      (h.state = .opened → exec (.extend p) s = .next
        ((s.setPlace (field r.payload 0 1)
            { s.place (field r.payload 0 1) with live := some { h with deadline := d } }).answered p
          ⟨0x12#8, r.tag, .ok, be 4 (d - s.time.holdClock) ++ [if d = h.limit then 1#8 else 0#8]⟩))

/-- Release of a hold that is found, and Force Release by number and generation: HOLD_SETTLING for a SETTLING hold; an OPEN
hold ends RELEASED or FORCED, its closure is handed over, and the answer carries what the rules say (R80, R81, R95). -/
def Obligations.ReleaseAndForceRelease : Prop :=
  (∀ (p : Port) (r : Request) (s : State) (h : Hold), s.takeable p .release = some r →
    s.checkHandle p (readHandle r.payload) = .found h →
    ((∃ u, h.state = .settling u) → exec (.release p) s = .next (s.answered p ⟨0x14#8, r.tag, .holdSettling, []⟩)) ∧
    (h.state = .opened → exec (.release p) s = .next
      ((s.closedHold (field r.payload 0 1) h .released).answered p ⟨0x14#8, r.tag, .ok, be 2 h.units⟩))) ∧
  (∀ (r : Request) (s : State) (n g : Nat), s.takeable .mp .forceRelease = some r →
    field r.payload 0 1 = n → field r.payload 1 1 = g →
    (31 < n → exec .forceRelease s = .next (s.answered .mp ⟨0x2D#8, r.tag, .badField, []⟩)) ∧
    (n ≤ 31 → (s.place n).generation = g → ∀ h, (s.place n).live = some h →
      ((∃ u, h.state = .settling u) →
        exec .forceRelease s = .next (s.answered .mp ⟨0x2D#8, r.tag, .holdSettling, []⟩)) ∧
      (h.state = .opened → exec .forceRelease s = .next
        ((s.closedHold n h .forced).answered .mp
          ⟨0x2D#8, r.tag, .ok, portCode h.owner :: (be 2 h.slot ++ be 2 h.units)⟩))) ∧
    (n ≤ 31 → (s.place n).live = none ∨ (s.place n).generation ≠ g →
      (∀ o, (s.place n).closing = some (g, o) → exec .forceRelease s = .next
        (s.answered .mp ⟨0x2D#8, r.tag, if o = .expired then .holdExpired else .holdClosed, []⟩)) ∧
      ((∀ o, (s.place n).closing ≠ some (g, o)) →
        exec .forceRelease s = .next (s.answered .mp ⟨0x2D#8, r.tag, .noSuchHold, []⟩))))

/-- Query Hold of a hold that is found, and List Holds, report as Tables of R82 and R83 say and change nothing else. The one byte of
the count of holds listed is the model's reading (log 17). -/
def Obligations.HoldReports : Prop :=
  (∀ (p : Port) (r : Request) (s : State) (h : Hold), s.takeable p .queryHold = some r →
    s.checkHandle p (readHandle r.payload) = .found h →
    exec (.queryHold p) s = .next (s.answered p ⟨0x15#8, r.tag, .ok,
      (match h.state with
        | .opened => [1#8, portCode h.owner] ++ be 2 h.units
        | .settling u => [2#8, portCode h.owner] ++ be 2 h.units ++ be 2 u)
        ++ be 4 (h.deadline - s.time.holdClock) ++ be 4 (h.limit - s.time.holdClock)⟩)) ∧
  (∀ (r : Request) (s : State) (start : Nat) (live : List (Nat × Hold)), s.takeable .mp .listHolds = some r →
    field r.payload 0 1 = start →
    live = ((List.range 32).filterMap fun n => (s.place n).live.map fun h => (n, h)).filter (fun x => decide (start ≤ x.1)) →
    (31 < start → exec .listHolds s = .next (s.answered .mp ⟨0x2C#8, r.tag, .badField, []⟩)) ∧
    (start ≤ 31 → exec .listHolds s = .next (s.answered .mp ⟨0x2C#8, r.tag, .ok,
      byte (min live.length 4) :: (((live.take 4).flatMap fun x =>
          [byte x.1, byte (s.place x.1).generation] ++ be 2 x.2.epoch ++ [portCode x.2.owner] ++ be 2 x.2.slot
            ++ be 2 x.2.units
            ++ (match x.2.state with
              | .opened => [1#8, 0#8, 0#8, 0#8]
              | .settling u => [2#8, 1#8] ++ be 2 u)
            ++ be 4 (x.2.deadline - s.time.holdClock))
        ++ (match live[3]?, live[4]? with
          | some x, some _ => [1#8, byte (x.1 + 1)]
          | _, _ => [0#8, 0#8]))⟩)))

/-- Settle of a hold that is found: checks 2 to 6 of R88 in their order, each answered at once with nothing changed; one that
passes makes the hold SETTLING, queues one ENTRY_WRITE of origin port and tag, and reserves a response place (R88). -/
def Obligations.SettleChecksInOrder : Prop :=
  ∀ (p : Port) (r : Request) (s : State) (h : Hold) (n u : Nat), s.takeable p .settle = some r →
    s.checkHandle p (readHandle r.payload) = .found h → field r.payload 0 1 = n → field r.payload 4 2 = u →
    exec (.settle p) s = .next
      (if h.state ≠ .opened then s.answered p ⟨0x13#8, r.tag, .holdSettling, []⟩
       else if h.units < u then s.answered p ⟨0x13#8, r.tag, .exceedsHold, []⟩
       else if s.isPending h.slot = true then s.answered p ⟨0x13#8, r.tag, .entryBusy, []⟩
       else if s.locked h.slot = true then s.answered p ⟨0x13#8, r.tag, .entryBusy, []⟩
       else if (s.slot h.slot).worn = true then s.answered p ⟨0x13#8, r.tag, .storeFault, []⟩
       else (s.setPlace n { s.place n with live := some { h with state := .settling u } }).accepted p 0x13#8 r.tag
         (.settleHold h.slot n u))

/-- The completion of a settlement. OK: the working and the durable image are the image written, the hold ends SETTLED, and
the response carries units, balance, use count, revision and state. FAULT: the slot is WORN in both, the image stays, the hold
is OPEN again or, with its deadline reached, ends EXPIRED with its closure handed over, and the response is STORE_FAULT (R91, R93,
R94, R95). -/
def Obligations.SettlementCompletes : Prop :=
  ∀ (s : State) (n place u : Nat) (o : Origin) (rest : List Commit) (e : Entry) (h : Hold),
    s.phase = .running → s.commits = ⟨⟨.settleHold n place u, o⟩ :: rest, some (.writeImage n e)⟩ →
    (s.place place).live = some h →
    exec (.settlementCompletion .ok) s = .next
      (((((s.ended rest (s.store.setSlot n { s.store.slot n with image := some e })).setSlot n
          { s.slot n with content := .occupied e }).closedHold place h .settled)).report o .ok
        (be 2 u ++ figure e.balance ++ be 2 e.useCount ++ [byte e.revision, e.state.code])) ∧
    (s.time.holdClock < h.deadline → exec (.settlementCompletion .fault) s = .next
      ((((s.ended rest (s.store.setSlot n { s.store.slot n with worn := true })).setSlot n
          { s.slot n with worn := true }).setPlace place
          { s.place place with live := some { h with state := .opened } }).report o .storeFault
        (1#8 :: be 4 (h.deadline - s.time.holdClock)))) ∧
    (h.deadline ≤ s.time.holdClock → exec (.settlementCompletion .fault) s = .next
      ((((s.ended rest (s.store.setSlot n { s.store.slot n with worn := true })).setSlot n
          { s.slot n with worn := true }).closedHold place h .expired).report o .storeFault [3#8]))

/-- A due hold that is still OPEN with its deadline reached ends EXPIRED at its expiry; a due hold that has become SETTLING or was
extended past the hold clock stays, and the expiry is over (R84; the due flag is the model's, log 11). The end of a live hold frees
its place, writes its closing record, takes its units and its count from its own entry and from no other, and makes a RETIRING
entry left with no open hold clear due (R22, R74, R95). -/
def Obligations.ExpiryAndTheEndOfAHold : Prop :=
  (∀ (s : State) (n : Nat) (h : Hold), s.phase = .running → (s.place n).live = some h → h.due = true →
    (h.state = .opened → h.deadline ≤ s.time.holdClock → exec (.holdExpiry n) s = .next (s.closedHold n h .expired)) ∧
    (h.state ≠ .opened ∨ s.time.holdClock < h.deadline →
      exec (.holdExpiry n) s = .next (s.setPlace n { s.place n with live := some { h with due := false } }))) ∧
  (∀ (s : State) (n : Nat) (h : Hold) (o : HoldOutcome), n < 32 → (s.place n).live = some h →
    (s.closedHold n h o).place n = ⟨(s.place n).generation, none, some ((s.place n).generation, o)⟩ ∧
    (∀ m, m ≠ n → (s.closedHold n h o).place m = s.place m) ∧
    (s.closedHold n h o).openHolds h.slot + 1 = s.openHolds h.slot ∧
    (s.closedHold n h o).heldUnits h.slot + h.units = s.heldUnits h.slot ∧
    (∀ m, m ≠ h.slot → (s.closedHold n h o).openHolds m = s.openHolds m ∧
      (s.closedHold n h o).heldUnits m = s.heldUnits m) ∧
    (∀ m, m ∈ (s.closedHold n h o).engine.clearDue ↔
      m ∈ s.engine.clearDue ∨ (m = h.slot ∧ s.openHolds h.slot = 1 ∧ s.slotRetiring h.slot = true)))

/-! ### Time and the figures of the device (03, 10) -/

/-- Each period of TBCLK raises the divider by 1; the one that would raise it from 32,767 returns it to 0 and produces one second
event; while a start-up is not complete the period changes nothing (R42). A second event raises the hold clock and a set device
time by 1, each stopping at 4,294,967,295, leaves an unset device time unset, and makes due exactly the OPEN holds whose deadline
the advanced hold clock has reached; nothing else changes (R43, R84; that a period only records the event and the event is a
command of its own is the model's reading, log 10). -/
def Obligations.DividerAndSecondEvent : Prop :=
  (∀ s : State,
    (s.phase = .running → s.time.divider < 32767 →
      exec .tbclkPeriod s = .next { s with time := { s.time with divider := s.time.divider + 1 } }) ∧
    (s.phase = .running → s.time.divider = 32767 →
      exec .tbclkPeriod s = .next { s with time := { s.time with divider := 0, secondsDue := s.time.secondsDue + 1 } }) ∧
    (s.phase ≠ .running → exec .tbclkPeriod s = .next s)) ∧
  (∀ s : State, s.phase = .running → 0 < s.time.secondsDue →
    ∃ t : State, exec .secondEvent s = .next t ∧
      t = { s with time := t.time, holds := t.holds } ∧
      t.time.holdClock = min (s.time.holdClock + 1) 4294967295 ∧
      t.time.deviceTime = s.time.deviceTime.map (fun v => min (v + 1) 4294967295) ∧
      t.time.divider = s.time.divider ∧ t.time.secondsDue + 1 = s.time.secondsDue ∧
      ∀ n, t.place n = (match (s.place n).live with
        | none => s.place n
        | some h => { s.place n with live := some { h with
            due := h.due || (decide (n < 32) && decide (h.state = .opened) && decide (h.deadline ≤ t.time.holdClock)) } }))

/-- The outcomes of Set Time by the rows of Table 3-1, with the device time after and, when OK, before the take; MP only;
nothing else changes, the sub-second divider included (R45). The presence bytes of the two times are the model's reading of R189
(log 15). -/
def Obligations.SetTimeOutcomes : Prop :=
  (∀ p : Port, Kind.acceptedOn .setTime p = decide (p = .mp)) ∧
  ∀ (r : Request) (s : State) (t force : Nat), s.takeable .mp .setTime = some r →
    field r.payload 0 4 = t → field r.payload 4 1 = force →
    (1 < force → exec .setTime s = .next (s.answered .mp ⟨0x21#8, r.tag, .badField, optional 4 s.time.deviceTime⟩)) ∧
    (force ≤ 1 → s.time.deviceTime = none → exec .setTime s = .next
      ({ s with time := { s.time with deviceTime := some t } }.answered .mp
        ⟨0x21#8, r.tag, .ok, 1#8 :: be 4 t ++ [0#8, 0#8, 0#8, 0#8, 0#8]⟩)) ∧
    (∀ now, s.time.deviceTime = some now →
      (force ≤ 1 → now ≤ t ∨ force = 1 → exec .setTime s = .next
        ({ s with time := { s.time with deviceTime := some t } }.answered .mp
          ⟨0x21#8, r.tag, .ok, 1#8 :: be 4 t ++ 1#8 :: be 4 now⟩)) ∧
      (force = 0 → t < now →
        exec .setTime s = .next (s.answered .mp ⟨0x21#8, r.tag, .timeBackward, 1#8 :: be 4 now⟩)))

/-- Read Time (R49), Read Identity (R185) and Status (R186): the ports that accept them, their empty payloads, and the figures each
reports at its take, which changes nothing but the asking port's queues. The four counts of R13 that Status reports are over the
slots 0 to 4,351, for a canonical directory that lists no other slot. The serial number and the silicon revision are free values of
the model (log 13); the widths of the counts in Status are its reading (log 17). -/
def Obligations.TimeIdentityAndStatusReports : Prop :=
  ((∀ p : Port, Kind.acceptedOn .readTime p = true) ∧ Kind.lengths .readTime = (0, 0) ∧
  ∀ (p : Port) (r : Request) (s : State), s.takeable p .readTime = some r →
    exec (.readTime p) s = .next (s.answered p ⟨0x16#8, r.tag, .ok,
      (if s.time.deviceTime.isSome then 1#8 else 0#8) :: (be 4 (s.time.deviceTime.getD 0) ++ be 4 s.time.holdClock)⟩)) ∧
  ((∀ p : Port, Kind.acceptedOn .readIdentity p = true) ∧ Kind.lengths .readIdentity = (0, 0) ∧
  ∀ (p : Port) (r : Request) (s : State), s.takeable p .readIdentity = some r →
    exec (.readIdentity p) s = .next (s.answered p ⟨0x17#8, r.tag, .ok,
      [0x1C#8, 0x4A#8, 0x04#8, 0x36#8, Config.siliconRevision] ++ be 8 Config.serialNumber.toNat
        ++ [0x11#8, 0x00#8, 0x02#8, 0x00#8, 8#8, 0x01#8, 0x00#8, 32#8, 16#8, 24#8, 4#8]
        ++ be 2 s.store.startCounter⟩)) ∧
  ((∀ p : Port, Kind.acceptedOn .status p = decide (p = .mp)) ∧ Kind.lengths .status = (0, 0) ∧
  (∀ (r : Request) (s : State), s.takeable .mp .status = some r →
    exec .status s = .next (s.answered .mp ⟨0x20#8, r.tag, .ok,
      be 2 s.liveEntries ++ be 2 s.spillOccupied ++ be 2 s.wornSlots ++ be 2 s.wornResidents
        ++ be 1 ((List.range 32).filter fun n => (s.place n).live.isSome).length
        ++ be 1 s.commits.queue.length ++ [s.scan.state.code] ++ be 2 s.scan.cursor
        ++ [s.batch.state.code, if s.time.deviceTime.isSome then 1#8 else 0#8, if s.inhibited then 1#8 else 0#8]
        ++ be 2 s.clearDueCount⟩)) ∧
  (∀ s : State, Table.wf emptySlot s.engine.slots = true → (∀ n, 4352 ≤ n → s.slot n = emptySlot) →
    s.liveEntries = ((List.range 4352).filter fun n => (s.entryAt n).isSome).length ∧
    s.spillOccupied = ((List.range 4352).filter fun n => (s.entryAt n).isSome && decide (4096 ≤ n)).length ∧
    s.wornSlots = ((List.range 4352).filter fun n => (s.slot n).worn).length ∧
    s.wornResidents = ((List.range 4352).filter fun n => (s.entryAt n).isSome && (s.slot n).worn).length))

/-! ### Classes (02) -/

/-- Read Class: a class number from 0 to 15 is answered OK with the record in use and the pending flag, any other BAD_FIELD;
nothing else changes (R34, Table 10-6). -/
def Obligations.ReadClassReports : Prop :=
  (∀ (s : State) (c : Nat), s.classPending c = true ↔ ∃ y ∈ s.commits.queue, ∃ z, y.change = .writeClass c z) ∧
  ∀ (r : Request) (s : State) (c : Nat) (x : ClassRecord), s.takeable .mp .readClass = some r →
    field r.payload 0 1 = c → s.classOf c = x →
    (15 < c → exec .readClass s = .next (s.answered .mp ⟨0x23#8, r.tag, .badField, []⟩)) ∧
    (c ≤ 15 → exec .readClass s = .next (s.answered .mp ⟨0x23#8, r.tag, .ok,
      [byte c,
        byte ((if x.enabled then 1 else 0) + (if x.guarded then 2 else 0) + (if x.tp0Allowed then 4 else 0)
          + (if x.tp1Allowed then 8 else 0) + (if x.partialDraws then 16 else 0)
          + (if x.retireOnExhaustion then 32 else 0))]
        ++ be 2 x.lifetime ++ be 2 x.lifetimeLimit
        ++ [if s.classPending c then 1#8 else 0#8]⟩))

/-- Set Class: the checks of R31 in order (BAD_FIELD; then GUARDED when CHG_INH is asserted and the class is under guard), and a
CLASS_WRITE queued with a place reserved for one that passes. A class is under guard by its record in use or by a CLASS_WRITE
queued or in progress that carries guarded (R31, R36, R38). The completion of a CLASS_WRITE: with OK the new record is in use from
that completion, with FAULT the old one stays and no wear mark is set; the response carries the class and the record in use
(R28, R32). -/
def Obligations.SetClassAndItsCompletion : Prop :=
  ((∀ (s : State) (c : Nat), s.underGuard c = true ↔
    (s.classOf c).guarded = true ∨ ∃ y ∈ s.commits.queue, ∃ z, y.change = .writeClass c z ∧ z.guarded = true) ∧
  (∀ (r : Request) (s : State), s.takeable .mp .setClass = some r →
    (readSetClass r.payload = none → exec .setClass s = .next (s.answered .mp ⟨0x22#8, r.tag, .badField, []⟩)) ∧
    ∀ c x, readSetClass r.payload = some (c, x) →
      (c ≤ 15 ∧ 10 ≤ x.lifetime ∧ x.lifetime ≤ x.lifetimeLimit ∧ x.lifetimeLimit ≤ 65535) ∧
      exec .setClass s = .next
        (if s.inhibited = true ∧ s.underGuard c = true then s.answered .mp ⟨0x22#8, r.tag, .guarded, []⟩
         else s.accepted .mp 0x22#8 r.tag (.writeClass c x)))) ∧
  (∀ (s : State) (c : Nat) (x : ClassRecord) (o : Origin) (rest : List Commit), s.phase = .running →
    s.commits = ⟨⟨.writeClass c x, o⟩ :: rest, some (.writeClass c x)⟩ →
    (∃ t : State, exec (.classWriteCompletion .ok) s = .next (t.report o .ok (byte c :: x.bytes)) ∧
      t = { s with commits := ⟨rest, none⟩, store := { s.store with classes := t.store.classes } } ∧
      ∀ d, t.classOf d = if d = c then x else s.classOf d) ∧
    (∃ t : State, exec (.classWriteCompletion .fault) s = .next (t.report o .storeFault (byte c :: (s.classOf c).bytes)) ∧
      t = { s with commits := ⟨rest, none⟩, store := { s.store with classes := t.store.classes } } ∧
      ∀ d, t.classOf d = s.classOf d))

/-! ### Single-entry changes (07) -/

/-- Insert: BAD_FIELD, APPLY_IN_PROGRESS, ALREADY_PRESENT with the slot, GUARDED, TABLE_FULL with the count of worn slots, in
that order; one that passes reserves the placed slot for its ID and queues one ENTRY_WRITE (R121, R126). The width of the count of
worn slots is the model's reading (log 17). -/
def Obligations.InsertChecksInOrder : Prop :=
  ∀ (r : Request) (s : State), s.takeable .mp .insert = some r →
    (readImage r.payload = none → exec .insert s = .next (s.answered .mp ⟨0x24#8, r.tag, .badField, []⟩)) ∧
    ∀ e, readImage r.payload = some e →
      exec .insert s = .next
        (if s.batch.state = .writing ∨ s.batch.state = .promoting then
          s.answered .mp ⟨0x24#8, r.tag, .applyInProgress, []⟩
         else match s.foundOrReserved e.id with
          | some n => s.answered .mp ⟨0x24#8, r.tag, .alreadyPresent, be 2 n⟩
          | none =>
            if s.inhibited = true ∧ s.underGuard e.cls = true then s.answered .mp ⟨0x24#8, r.tag, .guarded, []⟩
            else match s.placement e.id with
              | some n => (s.setSlot n { s.slot n with content := .reserved e.id .singleInsert }).accepted .mp 0x24#8 r.tag
                  (.insertEntry n e)
              | none => s.answered .mp ⟨0x24#8, r.tag, .tableFull, be 2 s.wornSlots⟩)

/-- Modify, Top Up, Bar, Unbar and Retire: checks 1 to 8 of Table 7-1 in their order, the first that fails giving the response
(R121 to R125, R133). -/
def Obligations.ChangeRefusedByFirstFailingCheck : Prop :=
  ∀ (c : Instr) (k : Kind) (r : Request) (s : State),
    takenBy c = some (.mp, k) → (k = .modify ∨ k = .topUp ∨ k = .bar ∨ k = .unbar ∨ k = .retire) →
    s.takeable .mp k = some r →
    (itemOf k r.payload = none → exec c s = .next (s.answered .mp ⟨k.code, r.tag, .badField, []⟩)) ∧
    ∀ x, itemOf k r.payload = some x →
      (s.batch.state = .writing ∨ s.batch.state = .promoting →
        exec c s = .next (s.answered .mp ⟨k.code, r.tag, .applyInProgress, []⟩)) ∧
      (s.batch.state = .empty ∨ s.batch.state = .opened →
        (s.lookup x.id = none → exec c s = .next (s.answered .mp ⟨k.code, r.tag, .notFound, []⟩)) ∧
        ∀ slot e n, s.lookup x.id = some slot → s.entryAt slot = some e →
          s.changeFails x slot e n → (∀ m, m < n → ¬ s.changeFails x slot e m) →
          exec c s = .next (s.answered .mp
            ⟨k.code, r.tag, (s.changeRefusal slot e n).1, (s.changeRefusal slot e n).2⟩))

/-- A change that passes checks 1 to 8 meets check 9 (Modify: window, held units, open holds, on the resulting image; Top Up:
unmetered, range; the others none), and when it passes queues its one commit with a place reserved (R120, R129, R131, R132,
R133). That the two times of a BAD_FIELD and the balance of a RANGE, always present there, are sent without a presence byte is the
model's reading of R189 (log 15). -/
def Obligations.ChangeMeetsCheckNineAndQueues : Prop :=
  ∀ (c : Instr) (k : Kind) (r : Request) (s : State) (x : Item) (slot : Nat) (e : Entry),
    takenBy c = some (.mp, k) → s.takeable .mp k = some r → itemOf k r.payload = some x →
    (s.batch.state = .empty ∨ s.batch.state = .opened) → s.lookup x.id = some slot → s.entryAt slot = some e →
    (∀ n, ¬ s.changeFails x slot e n) →
    (k = .modify → ∀ id expected f a, x = .modify id expected f → a = e.withFields f →
      (∀ v w, a.validFrom = some v → a.validUntil = some w → w ≤ v →
        exec c s = .next (s.answered .mp ⟨0x25#8, r.tag, .badField, be 4 v ++ be 4 w⟩)) ∧
      ((∀ v w, a.validFrom = some v → a.validUntil = some w → v < w) →
        (∀ b, a.balance = some b → b < s.heldUnits slot →
          exec c s = .next (s.answered .mp ⟨0x25#8, r.tag, .held, be 3 (s.heldUnits slot)⟩)) ∧
        ((∀ b, a.balance = some b → s.heldUnits slot ≤ b) → exec c s = .next
          (if a.holdsLimit < s.openHolds slot then s.answered .mp ⟨0x25#8, r.tag, .held, be 1 (s.openHolds slot)⟩
           else s.accepted .mp 0x25#8 r.tag (.modifyEntry slot f))))) ∧
    (k = .topUp → ∀ id amount, x = .topUp id amount →
      exec c s = .next
        (match e.balance with
         | none => s.answered .mp ⟨0x26#8, r.tag, .badField, []⟩
         | some b =>
           if 16777215 < b + amount then s.answered .mp ⟨0x26#8, r.tag, .range, be 3 b⟩
           else s.accepted .mp 0x26#8 r.tag (.topUpEntry slot amount))) ∧
    (k = .bar → exec c s = .next (s.accepted .mp 0x27#8 r.tag (.setEntryState slot .barred))) ∧
    (k = .unbar → exec c s = .next (s.accepted .mp 0x28#8 r.tag (.setEntryState slot .active))) ∧
    (k = .retire → exec c s = .next (s.accepted .mp 0x29#8 r.tag (.retireEntry slot)))

/-- Relocate: BAD_FIELD, APPLY_IN_PROGRESS, NOT_FOUND, ENTRY_BUSY in that order; then a named target must be FREE, sound, and a way
of the home bucket or a spill slot (BAD_SLOT), or one is placed (TABLE_FULL); the target is reserved and one MOVE queued
(R21, R135). The two bytes of a BAD_SLOT for a slot above 4,351 are free values (log 12). -/
def Obligations.RelocateChecksInOrder : Prop :=
  ∀ (r : Request) (s : State), s.takeable .mp .relocate = some r →
    (readRelocate r.payload = none → exec .relocate s = .next (s.answered .mp ⟨0x2A#8, r.tag, .badField, []⟩)) ∧
    ∀ id target, readRelocate r.payload = some (id, target) →
      (s.batch.state = .writing ∨ s.batch.state = .promoting →
        exec .relocate s = .next (s.answered .mp ⟨0x2A#8, r.tag, .applyInProgress, []⟩)) ∧
      (s.batch.state = .empty ∨ s.batch.state = .opened →
        (s.lookup id = none → exec .relocate s = .next (s.answered .mp ⟨0x2A#8, r.tag, .notFound, []⟩)) ∧
        ∀ slot, s.lookup id = some slot →
          (s.isPending slot = true →
            exec .relocate s = .next (s.answered .mp ⟨0x2A#8, r.tag, .entryBusy, [s.pendingCode slot]⟩)) ∧
          (s.isPending slot = false →
            (∀ t, target = some t →
              (t ≤ 4351 → (s.slot t).content = .free → (s.slot t).worn = false →
                t ∈ waysOf (homeBucket id) ∨ 4096 ≤ t →
                exec .relocate s = .next ((s.setSlot t { s.slot t with content := .reserved id .move }).accepted .mp 0x2A#8
                  r.tag (.moveEntry slot t))) ∧
              (t ≤ 4351 → (s.slot t).content ≠ .free ∨ (s.slot t).worn = true ∨ (t ∉ waysOf (homeBucket id) ∧ t < 4096) →
                exec .relocate s = .next (s.answered .mp ⟨0x2A#8, r.tag, .badSlot,
                  [(s.slot t).content.code, if (s.slot t).worn then 1#8 else 0#8]⟩)) ∧
              (4351 < t → ∃ a b, exec .relocate s = .next
                ({ s with freeIndex := s.freeIndex + 2 }.answered .mp ⟨0x2A#8, r.tag, .badSlot, [a, b]⟩))) ∧
            (target = none →
              (∀ t, s.placement id = some t →
                exec .relocate s = .next ((s.setSlot t { s.slot t with content := .reserved id .move }).accepted .mp 0x2A#8
                  r.tag (.moveEntry slot t))) ∧
              (s.placement id = none →
                exec .relocate s = .next (s.answered .mp ⟨0x2A#8, r.tag, .tableFull, []⟩)))))

/-- Read Entry: a malformed payload is BAD_FIELD; by ID NOT_FOUND or the content of Table 10-7; by slot BAD_SLOT above 4,351,
NOT_FOUND with occupancy and wear where no entry lies, or the content; nothing changes (R137, R138, R192). What the conditions it
reports are: pending, its kind and whether it is a settlement, by the commit queued or in progress (R23); locked, by the items of a
validated batch; changing (R24); clear due (R25); held units and open holds, by the live holds (R22). The state reported of an
entry with a retire mark is log 26. -/
def Obligations.ReadEntryReports : Prop :=
  (∀ (r : Request) (s : State), s.takeable .mp .readEntry = some r →
    (readEntryName r.payload = none → exec .readEntry s = .next (s.answered .mp ⟨0x2B#8, r.tag, .badField, []⟩)) ∧
    (∀ id, readEntryName r.payload = some (.byId id) → s.lookup id = none →
      exec .readEntry s = .next (s.answered .mp ⟨0x2B#8, r.tag, .notFound, []⟩)) ∧
    (∀ n, readEntryName r.payload = some (.bySlot n) →
      (4351 < n → exec .readEntry s = .next (s.answered .mp ⟨0x2B#8, r.tag, .badSlot, []⟩)) ∧
      (n ≤ 4351 → s.entryAt n = none → exec .readEntry s = .next (s.answered .mp ⟨0x2B#8, r.tag, .notFound,
        [(s.slot n).content.code, if (s.slot n).worn then 1#8 else 0#8]⟩))) ∧
    (∀ n e, ((∃ id, readEntryName r.payload = some (.byId id) ∧ s.lookup id = some n)
        ∨ (readEntryName r.payload = some (.bySlot n) ∧ n ≤ 4351)) → s.entryAt n = some e →
      exec .readEntry s = .next (s.answered .mp ⟨0x2B#8, r.tag, .ok,
        be 2 n ++ be 2 (homeBucket e.id) ++ [if 4096 ≤ n ∧ n ≤ 4351 then 1#8 else 0#8]
          ++ e.image (if (s.slot n).retireMark then .retiring else e.state)
          ++ [if e.balance.isSome then 0#8 else 1#8] ++ be 3 (s.heldUnits n) ++ be 1 (s.openHolds n)
          ++ be 3 (match e.balance with
            | some b => b - s.heldUnits n
            | none => 0)
          ++ [s.pendingCode n,
            byte ((if s.changing n then 1 else 0) + (if s.locked n then 2 else 0) + (if (s.slot n).worn then 4 else 0)
              + (if (s.slot n).retireMark then 8 else 0) + (if s.isClearDue n then 16 else 0)
              + (if s.pendingSettlement n then 32 else 0))]⟩))) ∧
  (∀ (s : State) (n : Nat),
    (s.isPending n = true ↔ ∃ c ∈ s.commits.queue, s.isCommitFor n c.change) ∧
    (s.isPending n = false → s.pendingCode n = 0#8 ∧ s.pendingSettlement n = false ∧ s.changing n = s.locked n) ∧
    (∀ front c back, s.commits.queue = front ++ c :: back → (∀ d ∈ front, ¬ s.isCommitFor n d.change) →
      s.isCommitFor n c.change →
      s.pendingCode n = (match c.change with
        | .retireEntry _ => 2#8
        | .clearEntry _ => 3#8
        | .moveEntry _ _ => 4#8
        | .stageItem _ _ => 5#8
        | .promoteBatch => 6#8
        | _ => 1#8) ∧
      (s.pendingSettlement n = true ↔ ∃ place u, c.change = .settleHold n place u) ∧
      (s.changing n = true ↔ s.locked n = true ∨ (∃ f, c.change = .modifyEntry n f) ∨ (∃ x, c.change = .setEntryState n x) ∨
        c.change = .retireEntry n)) ∧
    (s.locked n = true ↔ (s.batch.state = .writing ∨ s.batch.state = .promoting) ∧
      ∃ (i : Nat) (x : Item) (y : ItemRecord), s.batch.items[i]? = some x ∧ s.batch.records[i]? = some y ∧ x.isInsert = false ∧
        y.slot = n) ∧
    (s.isClearDue n = true ↔ n ∈ s.engine.clearDue ∨ ∃ c ∈ s.commits.queue, c.change = .clearEntry n) ∧
    (s.phase = .running → s.tableSound → (s.isClearDue n = true ↔
      s.openHolds n = 0 ∧ ∃ e, s.entryAt n = some e ∧ (e.state = .retiring ∨ (s.slot n).retireMark = true))) ∧
    s.openHolds n = ((List.range 32).filter fun i => (s.place i).live.any fun h => h.slot == n).length ∧
    s.heldUnits n = ((List.range 32).map fun i => match (s.place i).live with
      | some h => if h.slot = n then h.units else 0
      | none => 0).sum)

/-! ### The commit unit (06) -/

/-- When intake is open and no commit is in progress the head of the queue begins, and the image or work is formed from the
working state of that moment (R91, R92, R102, R108, R111, R112, R114, R152). -/
def Obligations.CommitBeginFormsTheImage : Prop :=
  ∀ (s : State) (o : Origin) (rest : List Commit), s.phase = .running → s.commits.work = none →
    (∀ n e, s.commits.queue = ⟨.insertEntry n e, o⟩ :: rest →
      exec .commitBegin s = .next { s with commits := { s.commits with work := some (.writeImage n e) } }) ∧
    (∀ n f e, s.commits.queue = ⟨.modifyEntry n f, o⟩ :: rest → s.entryAt n = some e →
      exec .commitBegin s = .next { s with commits := { s.commits with work := some (.writeImage n
        { e.withFields f with revision := (e.revision + 1) % 256 }) } }) ∧
    (∀ n amount e, s.commits.queue = ⟨.topUpEntry n amount, o⟩ :: rest → s.entryAt n = some e →
      exec .commitBegin s = .next { s with commits := { s.commits with work := some (.writeImage n
        { e with balance := e.balance.map (· + amount), revision := (e.revision + 1) % 256 }) } }) ∧
    (∀ n x e, s.commits.queue = ⟨.setEntryState n x, o⟩ :: rest → s.entryAt n = some e →
      exec .commitBegin s = .next { s with commits := { s.commits with work := some (.writeImage n
        { e with state := x, revision := (e.revision + 1) % 256 }) } }) ∧
    (∀ n place u e, s.commits.queue = ⟨.settleHold n place u, o⟩ :: rest → s.entryAt n = some e →
      exec .commitBegin s = .next { s with commits := { s.commits with work := some (.writeImage n
        { e with
          balance := e.balance.map (· - u)
          useCount := min (e.useCount + 1) 65535
          lastUse := s.time.deviceTime
          revision := (e.revision + 1) % 256
          state := if e.state = .retiring ∨ (s.slot n).retireMark = true then .retiring
            else if e.balance.map (· - u) = some 0 ∧ (s.classOf e.cls).retireOnExhaustion = true then .retiring
            else e.state }) } }) ∧
    (∀ n e, s.commits.queue = ⟨.retireEntry n, o⟩ :: rest → s.entryAt n = some e →
      ∃ w : Work, exec .commitBegin s = .next { s with commits := { s.commits with work := some w } } ∧
        w = if s.openHolds n = 0 then .clear n
          else if (s.slot n).worn = true then .mark n
          else .writeImage n { e with state := .retiring, revision := (e.revision + 1) % 256 }) ∧
    (∀ n, s.commits.queue = ⟨.clearEntry n, o⟩ :: rest →
      exec .commitBegin s = .next { s with commits := { s.commits with work := some (.clear n) } }) ∧
    (∀ a b e, s.commits.queue = ⟨.moveEntry a b, o⟩ :: rest → s.entryAt a = some e →
      exec .commitBegin s = .next { s with commits := { s.commits with work := some (.moveImage a b
        { e with state := if (s.slot a).retireMark = true then .retiring else e.state }) } }) ∧
    (∀ c x, s.commits.queue = ⟨.writeClass c x, o⟩ :: rest →
      exec .commitBegin s = .next { s with commits := { s.commits with work := some (.writeClass c x) } }) ∧
    (∀ i n e, s.commits.queue = ⟨.stageItem i n, o⟩ :: rest → s.batch.items[i]? = some (.insert e) →
      exec .commitBegin s = .next { s with commits := { s.commits with work := some (.writeStaged n e) } }) ∧
    (∀ i n e x, s.commits.queue = ⟨.stageItem i n, o⟩ :: rest → s.entryAt n = some e → s.batch.items[i]? = some x →
      x.isInsert = false → ∃ a : Entry, exec .commitBegin s = .next { s with commits := { s.commits with
          work := some (.writeStaged n a) } } ∧
        a.revision = (e.revision + 1) % 256 ∧ a.id = e.id ∧
        (∀ id y f, x = .modify id y f → a = { e.withFields f with revision := a.revision }) ∧
        (∀ id v, x = .topUp id v → a = { e with balance := e.balance.map (· + v), revision := a.revision }) ∧
        (∀ id y, x = .bar id y → a = { e with state := .barred, revision := a.revision }) ∧
        (∀ id y, x = .unbar id y → a = { e with state := .active, revision := a.revision }) ∧
        (∀ id y, x = .retire id y → a = { e with state := .retiring, revision := a.revision })) ∧
    (s.commits.queue = ⟨.promoteBatch, o⟩ :: rest →
      exec .commitBegin s = .next { s with
        batch := { s.batch with state := .promoting }
        commits := { s.commits with work := some (.promote ((s.batch.items.zip s.batch.records).map fun x =>
          (x.2.slot,
            match x.1 with
            | .retire _ _ => if s.openHolds x.2.slot = 0 then .clear
                else if (s.slot x.2.slot).worn = true then .mark else .makeCurrent
            | _ => .makeCurrent))) } })

/-- A completion of a work with FAULT leaves every image as it was and marks the slot it wrote WORN; a loss of power during the
one write of a slot leaves its old image or its new one, and every other slot as it was; a promotion is wholly made or not at
all; a CLASS_WRITE leaves the old record in use until the update that makes the new one current, and a STAGE_WRITE touches no image
and leaves nothing that restore keeps (R28, R108, R109, R110, R114, R117). That a work of directory updates alone completes with OK
whatever the operand says is the model's choice (log 28), and so are the points at which the operand cuts a work (log 8). -/
def Obligations.FaultAndPowerLossKeepImagesWhole : Prop :=
  (∀ (w : Work) (st : Store), w.canFault = true →
    (∀ n, ((w.complete .fault st).slot n).image = (st.slot n).image) ∧
    (∀ n e, w = .writeImage n e ∨ w = .writeStaged n e ∨ (∃ a, w = .moveImage a n e) →
      ((w.complete .fault st).slot n).worn = true) ∧
    (∀ c x, w = .writeClass c x → (w.complete .fault st).slots = st.slots) ∧
    (∀ c, (Table.get factoryClass (w.complete .fault st).classes c).inUse = (Table.get factoryClass st.classes c).inUse)) ∧
  (∀ (w : Work) (st : Store), w.canFault = false → w.complete .fault st = w.complete .ok st) ∧
  (∀ (s : State) (n : Nat) (e : Entry) (cut : PowerCut), s.phase ≠ .off → s.commits.work = some (.writeImage n e) →
    ∃ t : State, exec (.powerLoss cut) s = .next t ∧ t.phase = .off ∧ t.commits = ⟨[], none⟩ ∧
      ((t.store.slot n).image = (s.store.slot n).image ∨ (t.store.slot n).image = some e) ∧
      ∀ m, m ≠ n → t.store.slot m = s.store.slot m) ∧
  (∀ (s : State) (ups : List (Nat × Promotion)) (cut : PowerCut), s.phase ≠ .off →
    s.commits.work = some (.promote ups) →
    ∃ t : State, exec (.powerLoss cut) s = .next t ∧ t.phase = .off ∧
      (t.store = s.store ∨ t.store = (Work.promote ups).complete .ok s.store)) ∧
  (∀ (s : State) (c : Nat) (x : ClassRecord) (cut : PowerCut), s.phase ≠ .off → s.commits.work = some (.writeClass c x) →
    ∃ t : State, exec (.powerLoss cut) s = .next t ∧ t.phase = .off ∧ t.commits = ⟨[], none⟩ ∧
      t.store = { s.store with classes := t.store.classes } ∧ (∀ d, d ≠ c → t.store.classAt d = s.store.classAt d) ∧
      (cut = .beforeUpdates → t.store = s.store) ∧
      (cut = .duringWrite ∨ cut = .afterFault → (t.store.classAt c).inUse = (s.store.classAt c).inUse ∧
        (t.store.classAt c).current = (s.store.classAt c).current) ∧
      (cut = .afterWrite → t.store.classAt c = { s.store.classAt c with other := x }) ∧
      (∀ k, k ≠ 0 → cut = .afterUpdates k → t.store.classAt c =
        ⟨!(s.store.classAt c).current, x, (s.store.classAt c).inUse, (s.store.classAt c).failures⟩)) ∧
  (∀ (s : State) (n : Nat) (e : Entry) (cut : PowerCut), s.phase ≠ .off → s.commits.work = some (.writeStaged n e) →
    ∃ t : State, exec (.powerLoss cut) s = .next t ∧ t.phase = .off ∧ t.commits = ⟨[], none⟩ ∧ t.batch = emptyBatch ∧
      (∀ m, (t.store.slot m).image = (s.store.slot m).image ∧ (t.store.settle.slot m).staged = none) ∧
      (cut = .beforeUpdates ∨ cut = .duringWrite ∨ cut = .afterWrite → t.store = s.store) ∧
      (∀ k, k ≠ 0 → cut = .afterUpdates k → t.store = s.store.setSlot n { s.store.slot n with staged := some e }) ∧
      (cut = .afterFault → ∀ m, t.store.slot m =
        { s.store.slot m with staged := none, worn := (s.store.slot m).worn || decide (m = n) }))

/-- The response of a completion fills the place reserved for its kind and tag, last in fill order; a commit of another origin
answers no port (R99, R181). A completion of a scan commit lowers the commits in flight by 1 and raises its count; the one that
empties a DRAINING scan makes it IDLE and fills its notice, SCAN_DONE after the last slot and SCAN_ABORTED before it (R164, R165,
R167, R170, R171; the final cursor tells the two apart, log 22; the presence bytes and the widths of the notice's fields are the
model's reading, logs 15 and 17). -/
def Obligations.CompletionsReportToTheirOrigin : Prop :=
  (∀ (s : State) (status : Status) (payload : List Byte),
    (∀ p k t, (k, t) ∈ (s.port p).reserved → s.report (.port p k t) status payload =
      s.setPort p { s.port p with
        filled := (s.port p).filled ++ [⟨k, t, status, payload⟩], reserved := (s.port p).reserved.erase (k, t) }) ∧
    s.report .scan status payload = s ∧ s.report .clearDue status payload = s ∧ s.report .batch status payload = s) ∧
  (∀ (s : State) (count : Scan → Scan) (x : Scan),
    (count = Scan.countRetired ∨ count = Scan.countMarked ∨ count = Scan.countRehomed ∨ count = Scan.countSkipped) →
    x = count { s.scan with inFlight := s.scan.inFlight - 1 } →
    (s.scan.state ≠ .draining ∨ 1 < s.scan.inFlight → s.tellScan .scan count = { s with scan := x }) ∧
    (s.scan.state = .draining → s.scan.inFlight = 1 → s.tellScan .scan count =
      ({ s with scan := { x with state := .idle } }.fillReserved .mp 0xB8#8 s.scan.startTag
        (if s.scan.cursor = 4352 then .scanDone else .scanAborted)
        ((match s.scan.kind with
          | some k => [k.code]
          | none => [0#8]) ++ optional 2 s.scan.argument ++ optional 4 s.scan.scanTime ++ be 2 s.scan.cursor
          ++ be 2 x.retired ++ be 2 x.marked ++ be 2 x.rehomed ++ be 2 x.skipped))) ∧
    (∀ p k t, s.tellScan (.port p k t) count = s))

/-- The completion of an Insert. OK: the slot OCCUPIED with the entry in the directory and in the store, the spill count of its
home bucket raised for a spill slot, the response the slot and the revision. FAULT: the slot FREE and WORN, no entry,
STORE_FAULT with the slot (R17, R127). -/
def Obligations.InsertCompletes : Prop :=
  ∀ (s : State) (n : Nat) (e : Entry) (o : Origin) (rest : List Commit), s.phase = .running →
    s.commits = ⟨⟨.insertEntry n e, o⟩ :: rest, some (.writeImage n e)⟩ →
    (∃ t : State, exec (.insertCompletion .ok) s = .next (t.report o .ok (be 2 n ++ [byte e.revision])) ∧
      t.slot n = { s.slot n with content := .occupied e } ∧ (∀ m, m ≠ n → t.slot m = s.slot m) ∧
      t.spillCount (homeBucket e.id) = s.spillCount (homeBucket e.id) + (if 4096 ≤ n ∧ n < 4352 then 1 else 0) ∧
      (∀ b, b ≠ homeBucket e.id → t.spillCount b = s.spillCount b) ∧
      t.store = s.store.setSlot n { s.store.slot n with image := some e } ∧ t.commits = ⟨rest, none⟩ ∧
      t = { s with commits := t.commits, store := t.store,
                   engine := { s.engine with slots := t.engine.slots, spillCounts := t.engine.spillCounts } }) ∧
    exec (.insertCompletion .fault) s = .next
      (((s.ended rest (s.store.setSlot n { s.store.slot n with worn := true })).setSlot n ⟨.free, true, false⟩).report o
        .storeFault (be 2 n))

/-- The completions of Modify, Top Up and Bar or Unbar. OK: the working and the durable image are the image written, the response
as R130, R131, R132. FAULT: the slot WORN in both, the image kept, STORE_FAULT with the slot. That the balance and the available
units of a Top Up, always present there, are sent without presence or unmetered bytes is the model's reading of R189 (log 15). -/
def Obligations.ImageWritesComplete : Prop :=
  ∀ (s : State) (n : Nat) (e old : Entry) (o : Origin) (rest : List Commit) (good bad : State),
    s.phase = .running → s.entryAt n = some old →
    good = (s.ended rest (s.store.setSlot n { s.store.slot n with image := some e })).setSlot n
      { s.slot n with content := .occupied e } →
    bad = (s.ended rest (s.store.setSlot n { s.store.slot n with worn := true })).setSlot n { s.slot n with worn := true } →
    (∀ f, s.commits = ⟨⟨.modifyEntry n f, o⟩ :: rest, some (.writeImage n e)⟩ →
      exec (.modifyCompletion .ok) s = .next (good.report o .ok
        ([byte e.revision, e.state.code] ++ figure (e.balance.map (· - s.heldUnits n)))) ∧
      exec (.modifyCompletion .fault) s = .next (bad.report o .storeFault (be 2 n ++ [byte old.revision]))) ∧
    (∀ v b, s.commits = ⟨⟨.topUpEntry n v, o⟩ :: rest, some (.writeImage n e)⟩ → e.balance = some b →
      exec (.topUpCompletion .ok) s = .next (good.report o .ok
        (be 3 b ++ be 3 (b - s.heldUnits n) ++ [byte e.revision])) ∧
      exec (.topUpCompletion .fault) s = .next (bad.report o .storeFault (be 2 n))) ∧
    (∀ x, s.commits = ⟨⟨.setEntryState n x, o⟩ :: rest, some (.writeImage n e)⟩ →
      exec (.barCompletion .ok) s = .next (good.report o .ok [e.state.code, byte e.revision]) ∧
      exec (.barCompletion .fault) s = .next (bad.report o .storeFault (be 2 n)))

/-- The completion of a RETIRE by the four rows of R134: a clear frees the slot and adjusts the spill count; a RETIRING image or
a retire mark leaves the entry RETIRING and, with no hold left, clear due; a FAULT leaves it worn-resident. The outcome goes to
the port's response, or to the scan's counts (R111, R134, R164). That a clear and a retire mark complete so whatever the operand
says is the model's choice (log 28). -/
def Obligations.RetireCompletes : Prop :=
  ∀ (s : State) (n : Nat) (e old : Entry) (o : Origin) (rest : List Commit) (v : Verify),
    s.phase = .running → s.entryAt n = some old →
    (s.commits = ⟨⟨.retireEntry n, o⟩ :: rest, some (.clear n)⟩ →
      ∃ t : State, exec (.retireCompletion v) s =
          .next ((t.report o .ok (1#8 :: be 2 n)).tellScan o fun x => { x with retired := x.retired + 1 }) ∧
        t.slot n = ⟨.free, (s.slot n).worn, false⟩ ∧ (∀ m, m ≠ n → t.slot m = s.slot m) ∧
        t.spillCount (homeBucket old.id) = s.spillCount (homeBucket old.id) - (if 4096 ≤ n ∧ n < 4352 then 1 else 0) ∧
        (∀ b, b ≠ homeBucket old.id → t.spillCount b = s.spillCount b) ∧ t.store = s.store.clear n ∧
        t = { s with commits := ⟨rest, none⟩, store := t.store,
                     engine := { s.engine with slots := t.engine.slots, spillCounts := t.engine.spillCounts } }) ∧
    (s.commits = ⟨⟨.retireEntry n, o⟩ :: rest, some (.mark n)⟩ →
      ∃ t : State, exec (.retireCompletion v) s =
          .next ((t.report o .ok (2#8 :: (be 1 (s.openHolds n) ++ [byte old.revision]))).tellScan o
            fun x => { x with marked := x.marked + 1 }) ∧
        t.slot n = { s.slot n with retireMark := true } ∧ (∀ m, m ≠ n → t.slot m = s.slot m) ∧
        t.engine.clearDue = (if s.openHolds n = 0 then insertRising n s.engine.clearDue else s.engine.clearDue) ∧
        t.store = s.store.setSlot n { s.store.slot n with retireMark := true } ∧
        t = { s with commits := ⟨rest, none⟩, store := t.store,
                     engine := { s.engine with slots := t.engine.slots, clearDue := t.engine.clearDue } }) ∧
    (s.commits = ⟨⟨.retireEntry n, o⟩ :: rest, some (.writeImage n e)⟩ →
      (∃ t : State, exec (.retireCompletion .ok) s =
          .next ((t.report o .ok (2#8 :: (be 1 (s.openHolds n) ++ [byte e.revision]))).tellScan o
            fun x => { x with marked := x.marked + 1 }) ∧
        t.slot n = { s.slot n with content := .occupied e } ∧ (∀ m, m ≠ n → t.slot m = s.slot m) ∧
        t.engine.clearDue = (if s.openHolds n = 0 then insertRising n s.engine.clearDue else s.engine.clearDue) ∧
        t.store = s.store.setSlot n { s.store.slot n with image := some e } ∧
        t = { s with commits := ⟨rest, none⟩, store := t.store,
                     engine := { s.engine with slots := t.engine.slots, clearDue := t.engine.clearDue } }) ∧
      exec (.retireCompletion .fault) s = .next
        (((((s.ended rest (s.store.setSlot n { s.store.slot n with worn := true })).setSlot n
            { s.slot n with worn := true }).report o .storeFault (be 2 n))).tellScan o
          fun x => { x with skipped := x.skipped + 1 }))

/-- Clear due: the SLOT_CLEAR of the lowest slot on the list that is not pending is admitted while more than four places are
free, and the slot leaves the list; its completion frees the slot with its retire mark, keeps its wear mark and adjusts the
spill count (R25, R105, R106). -/
def Obligations.ClearDueEntriesAreCleared : Prop :=
  (∀ (s : State) (n : Nat), s.phase = .running → s.commits.queue.length < 12 → rising s.engine.clearDue = true →
    n ∈ s.engine.clearDue → s.isPending n = false → (∀ m ∈ s.engine.clearDue, m < n → s.isPending m = true) →
    exec .clearDueAdmission s = .next { s with
      engine := { s.engine with clearDue := s.engine.clearDue.filter fun m => !(m == n) }
      commits := { s.commits with queue := s.commits.queue ++ [⟨.clearEntry n, .clearDue⟩] } }) ∧
  (∀ (s : State) (n : Nat) (e : Entry) (o : Origin) (rest : List Commit), s.phase = .running → s.entryAt n = some e →
    s.commits = ⟨⟨.clearEntry n, o⟩ :: rest, some (.clear n)⟩ →
    ∃ t : State, exec .slotClearCompletion s = .next t ∧
      t.slot n = ⟨.free, (s.slot n).worn, false⟩ ∧ (∀ m, m ≠ n → t.slot m = s.slot m) ∧
      t.spillCount (homeBucket e.id) = s.spillCount (homeBucket e.id) - (if 4096 ≤ n ∧ n < 4352 then 1 else 0) ∧
      (∀ b, b ≠ homeBucket e.id → t.spillCount b = s.spillCount b) ∧
      t.store = s.store.setSlot n { s.store.slot n with image := none, moveTarget := false, retireMark := false } ∧
      t = { s with commits := ⟨rest, none⟩, store := t.store,
                   engine := { s.engine with slots := t.engine.slots, spillCounts := t.engine.spillCounts } })

/-- The completion of a MOVE. OK, whole: the target OCCUPIED with the entry, the source FREE without its retire mark, spill counts
adjusted, every live hold of the source on the target, a clear-due place moved, the store with the image in the target only and
no mark. FAULT: the target FREE and WORN, source and holds as they were (R17, R76, R112, R113, R136, R165). -/
def Obligations.MoveCompletes : Prop :=
  ∀ (s : State) (a b : Nat) (e old : Entry) (o : Origin) (rest : List Commit),
    s.phase = .running → a ≠ b → s.entryAt a = some old → old.id = e.id → s.entryAt b = none →
    (4096 ≤ a → a < 4352 → 0 < s.spillCount (homeBucket e.id)) →
    s.commits = ⟨⟨.moveEntry a b, o⟩ :: rest, some (.moveImage a b e)⟩ →
    (∃ t : State, exec (.moveCompletion .ok) s =
        .next ((t.report o .ok (be 2 a ++ be 2 b ++ [byte e.revision])).tellScan o
          fun x => { x with rehomed := x.rehomed + 1 }) ∧
      t.slot b = { s.slot b with content := .occupied e } ∧ t.slot a = ⟨.free, (s.slot a).worn, false⟩ ∧
      (∀ m, m ≠ a → m ≠ b → t.slot m = s.slot m) ∧
      t.spillCount (homeBucket e.id) + (if 4096 ≤ a ∧ a < 4352 then 1 else 0)
        = s.spillCount (homeBucket e.id) + (if 4096 ≤ b ∧ b < 4352 then 1 else 0) ∧
      (∀ x, x ≠ homeBucket e.id → t.spillCount x = s.spillCount x) ∧
      (∀ n, n < 32 → t.place n = (match (s.place n).live with
        | some h => if h.slot = a then { s.place n with live := some { h with slot := b } } else s.place n
        | none => s.place n)) ∧
      (∀ m, m ∈ t.engine.clearDue ↔ if a ∈ s.engine.clearDue then (m ∈ s.engine.clearDue ∧ m ≠ a) ∨ m = b
        else m ∈ s.engine.clearDue) ∧
      (t.store.slot b).image = some e ∧ (t.store.slot b).moveTarget = false ∧ (t.store.slot a).image = none ∧
      (t.store.slot a).retireMark = false ∧ (∀ m, m ≠ a → m ≠ b → t.store.slot m = s.store.slot m) ∧
      t = { s with commits := ⟨rest, none⟩, store := { s.store with slots := t.store.slots }, holds := t.holds,
                   engine := { t.engine with pointer := s.engine.pointer } }) ∧
    exec (.moveCompletion .fault) s = .next
      ((((s.ended rest (s.store.setSlot b { s.store.slot b with worn := true })).setSlot b ⟨.free, true, false⟩).report o
        .storeFault (be 2 b)).tellScan o fun x => { x with skipped := x.skipped + 1 })

/-- A MOVE cut short by a loss of power at any point of Table 6-2, followed by restore: the entry is in its source (before the
source clear) or in its target (after it), in one slot only, and no mark is left; the store at each point is that of the table's
row; a loss of power, power-on and restore in a device that runs a MOVE come to that store (R112, R116, R117). The points are the
operand of the command POWER_LOSS (log 8). -/
def Obligations.MoveSurvivesPowerLoss : Prop :=
  ∀ (st : Store) (a b : Nat) (e old : Entry) (cut : PowerCut),
    a ≠ b → (st.slot a).image = some old → old.id = e.id → (st.slot b).image = none →
    (∀ n, (st.slot n).moveTarget = false) →
    (∀ n x, n ≠ a → (st.slot n).image = some x → x.id ≠ e.id) →
    (∀ n, ((((Work.moveImage a b e).cut cut st).settle).slot n).moveTarget = false) ∧
    (∀ n, n ≠ a → n ≠ b → ((((Work.moveImage a b e).cut cut st).settle).slot n).image = (st.slot n).image) ∧
    (((((Work.moveImage a b e).cut cut st).settle.slot a).image = some old
        ∧ ((((Work.moveImage a b e).cut cut st).settle).slot b).image = none) ∨
      ((((Work.moveImage a b e).cut cut st).settle.slot a).image = none
        ∧ ((((Work.moveImage a b e).cut cut st).settle).slot b).image = some e)) ∧
    (cut = .beforeUpdates ∨ cut = .duringWrite ∨ cut = .afterWrite ∨ cut = .afterUpdates 0 ∨ cut = .afterUpdates 1
        ∨ cut = .afterFault →
      (((Work.moveImage a b e).cut cut st).settle.slot a).image = some old) ∧
    (cut = .afterUpdates 2 ∨ cut = .afterUpdates 3 →
      (((Work.moveImage a b e).cut cut st).settle.slot b).image = some e) ∧
    (∀ k, 3 ≤ k → cut = .afterUpdates k →
      (((Work.moveImage a b e).cut cut st).settle.slot b).image = some e) ∧
    (cut = .afterUpdates 1 → (((Work.moveImage a b e).cut cut st).slot a) = st.slot a ∧
      (((Work.moveImage a b e).cut cut st).slot b) = { st.slot b with image := some e, moveTarget := true }) ∧
    (cut = .afterUpdates 2 →
      (((Work.moveImage a b e).cut cut st).slot a) = { st.slot a with image := none, moveTarget := false, retireMark := false } ∧
      (((Work.moveImage a b e).cut cut st).slot b) = { st.slot b with image := some e, moveTarget := true }) ∧
    (cut = .afterUpdates 3 →
      (((Work.moveImage a b e).cut cut st).slot a) = { st.slot a with image := none, moveTarget := false, retireMark := false } ∧
      (((Work.moveImage a b e).cut cut st).slot b) = { st.slot b with image := some e, moveTarget := false }) ∧
    (∀ s : State, s.phase ≠ .off → s.resetLow = false → s.store = st → s.commits.work = some (.moveImage a b e) →
      ∃ t u v : State, exec (.powerLoss cut) s = .next t ∧ t.phase = .off ∧ t.commits = ⟨[], none⟩ ∧
        t.store = (Work.moveImage a b e).cut cut st ∧ exec .powerOn t = .next u ∧
        exec .startUpRestore u = .next v ∧ v.phase = .settled ∧ v.store = ((Work.moveImage a b e).cut cut st).settle)

/-! ### Change batches (08) -/

/-- Stage: BATCH_BUSY, BAD_FIELD, BATCH_FULL, DUPLICATE_IN_BATCH with the index, in that order, each leaving the batch as it was;
one that passes appends its item and answers its index and the new count (R139, R141). -/
def Obligations.StageChecksInOrder : Prop :=
  ∀ (r : Request) (s : State), s.takeable .mp .stage = some r →
    (s.batch.state = .writing ∨ s.batch.state = .promoting →
      exec .stage s = .next (s.answered .mp ⟨0x30#8, r.tag, .batchBusy, []⟩)) ∧
    (s.batch.state = .empty ∨ s.batch.state = .opened →
      (readStage r.payload = none → exec .stage s = .next (s.answered .mp ⟨0x30#8, r.tag, .badField, []⟩)) ∧
      ∀ x, readStage r.payload = some x →
        (24 ≤ s.batch.items.length → exec .stage s = .next (s.answered .mp ⟨0x30#8, r.tag, .batchFull, []⟩)) ∧
        (s.batch.items.length < 24 →
          (∀ (i : Nat) (y : Item), s.batch.items[i]? = some y → y.id = x.id → (∀ (j : Nat) (z : Item), j < i → s.batch.items[j]? = some z → z.id ≠ x.id) →
            exec .stage s = .next (s.answered .mp ⟨0x30#8, r.tag, .duplicateInBatch, [byte i]⟩)) ∧
          ((∀ y ∈ s.batch.items, y.id ≠ x.id) → exec .stage s = .next
            ({ s with batch := { s.batch with state := .opened, items := s.batch.items ++ [x] } }.answered .mp
              ⟨0x30#8, r.tag, .ok, [byte s.batch.items.length, byte (s.batch.items.length + 1)]⟩))))

/-- Discard: in OPEN the buffer is emptied, the last result cleared, the batch EMPTY, and the count of items answered; in EMPTY
BATCH_EMPTY; in WRITING or PROMOTING BATCH_BUSY; no commit is queued and nothing else changes (R142). Read Batch reports the
batch state, the item count, the last result and, in WRITING and PROMOTING, the stage writes needed and completed; it changes
nothing (R143). The presence byte of the last result and the one-byte counts are the model's reading of R189 (logs 15 and 17). -/
def Obligations.DiscardAndReadBatch : Prop :=
  (∀ (r : Request) (s : State), s.takeable .mp .discard = some r →
    (s.batch.state = .opened → exec .discard s = .next
      ({ s with batch := { s.batch with state := .empty, items := [], lastResult := none } }.answered .mp
        ⟨0x32#8, r.tag, .ok, [byte s.batch.items.length]⟩)) ∧
    (s.batch.state = .empty → exec .discard s = .next (s.answered .mp ⟨0x32#8, r.tag, .batchEmpty, []⟩)) ∧
    (s.batch.state = .writing ∨ s.batch.state = .promoting →
      exec .discard s = .next (s.answered .mp ⟨0x32#8, r.tag, .batchBusy, []⟩))) ∧
  (∀ (r : Request) (s : State), s.takeable .mp .readBatch = some r →
    exec .readBatch s = .next (s.answered .mp ⟨0x33#8, r.tag, .ok,
      [match s.batch.state with
        | .empty => 0#8
        | .opened => 1#8
        | .writing => 2#8
        | .promoting => 3#8,
       byte s.batch.items.length]
      ++ (match s.batch.lastResult with
        | none => [0#8, 0#8, 0#8, 0#8]
        | some x => [1#8, if x.origin = .validation then 1#8 else 2#8, byte x.index, x.status.code])
      ++ (if s.batch.state = .writing ∨ s.batch.state = .promoting then
          [byte (s.batch.records.filter (·.needsStage)).length, byte s.batch.staged] else [])⟩))

/-- Apply: BATCH_EMPTY, BATCH_BUSY, SCAN_ACTIVE in that order; then each item is judged by the checks of Table 8-2 under one
sample of CHG_INH, after the reservations of the items before it. The first item that fails gives REJECTED with its index and its
status, which changes only the last result; when every item passes the Apply is ACCEPTED: WRITING, one record for each item with
the slot of its entry or the slot RESERVED for it and whether it needs a STAGE_WRITE, the notice place reserved, nothing else
changed and no commit admitted; one of the two always comes (R144 to R148, R151). The counts of items and of stage writes are one
byte each (log 17). -/
def Obligations.ApplyOutcomes : Prop :=
  (∀ (r : Request) (s : State), s.takeable .mp .apply = some r →
    (s.batch.state = .empty → exec .apply s = .next (s.answered .mp ⟨0x31#8, r.tag, .batchEmpty, []⟩)) ∧
    (s.batch.state = .writing ∨ s.batch.state = .promoting →
      exec .apply s = .next (s.answered .mp ⟨0x31#8, r.tag, .batchBusy, []⟩)) ∧
    (s.batch.state = .opened → s.scan.state = .running ∨ s.scan.state = .draining →
      exec .apply s = .next (s.answered .mp ⟨0x31#8, r.tag, .scanActive, []⟩)) ∧
    (s.batch.state = .opened → s.scan.state = .idle ∨ s.scan.state = .suspended →
      (∀ (slots : List Nat) (x : Item) (status : Status), s.passWith slots → s.batch.items[slots.length]? = some x →
        (s.afterReservations (s.batch.items.zip slots)).judged x = .error status →
        exec .apply s = .next
          ({ s with batch := { s.batch with lastResult := some ⟨.validation, slots.length, status⟩ } }.answered .mp
            ⟨0x31#8, r.tag, .rejected, [byte slots.length, status.code]⟩)) ∧
      (∀ (slots : List Nat) (records : List ItemRecord), s.passWith slots → slots.length = s.batch.items.length →
        records = (s.batch.items.zip slots).map (fun x =>
          (⟨x.2, !(x.1.isRetire && (decide (s.openHolds x.2 = 0) || (s.slot x.2).worn))⟩ : ItemRecord)) →
        exec .apply s = .next
          ({ s.afterReservations (s.batch.items.zip slots) with batch := { s.batch with
              state := .writing, records := records, lastResult := none, fed := 0, promoteFed := false, staged := 0
              applyTag := r.tag } }.answeredWithNotice
            ⟨0x31#8, r.tag, .accepted, [byte s.batch.items.length, byte (records.filter fun y : ItemRecord => y.needsStage).length]⟩
            0xB1#8 r.tag)) ∧
      (∃ slots : List Nat, s.passWith slots ∧ (slots.length = s.batch.items.length ∨ ∃ x status,
        s.batch.items[slots.length]? = some x ∧ (s.afterReservations (s.batch.items.zip slots)).judged x = .error status)))) ∧
  (∀ (s : State) (e : Entry), s.judged (.insert e) =
    if (s.foundOrReserved e.id).isSome = true then .error .alreadyPresent
    else if s.inhibited = true ∧ s.underGuard e.cls = true then .error .guarded
    else match s.placement e.id with
      | some n => .ok n
      | none => .error .tableFull) ∧
  (∀ (s : State) (x : Item), x.isInsert = false →
    (s.lookup x.id = none → s.judged x = .error .notFound) ∧
    ∀ slot e, s.lookup x.id = some slot → s.entryAt slot = some e →
      (∀ n, s.changeFails x slot e n → (∀ m, m < n → ¬ s.changeFails x slot e m) →
        s.judged x = .error (s.changeRefusal slot e n).1) ∧
      ((∀ n, ¬ s.changeFails x slot e n) → s.judged x =
        (match x with
         | .modify _ _ f =>
           if windowOk (e.withFields f).validFrom (e.withFields f).validUntil = false then .error .badField
           else if ((e.withFields f).balance.any fun b => decide (b < s.heldUnits slot)) = true then .error .held
           else if (e.withFields f).holdsLimit < s.openHolds slot then .error .held
           else .ok slot
         | .topUp _ amount =>
           if e.balance = none then .error .badField
           else if (e.balance.any fun b => decide (16777215 < b + amount)) = true then .error .range
           else .ok slot
         | _ => .ok slot)))

/-- The batch unit feeds, one admission at a time, the STAGE_WRITE of the next item that needs one, in index order, and after the
last the PROMOTE; only while more than four places are free, and behind every clear-due entry that can be offered (R105, R106,
R151). It admits neither while a locked entry that the commit is for is pending, so that at most one of them is queued for an entry
at each moment (R23): the PROMOTE waits for the STAGE_WRITEs of locked entries, and not for those of INSERT items, which is the
model's reading of R23 beside R151 and R153 (log 31). -/
def Obligations.BatchFeedsInOrder : Prop :=
  ∀ s : State, s.phase = .running → s.commits.queue.length < 12 → s.batch.state = .writing →
    ((∃ n ∈ s.engine.clearDue, s.isPending n = false) → exec .batchCommitAdmission s = .next s) ∧
    ((∀ n ∈ s.engine.clearDue, s.isPending n = true) →
      (∀ (i : Nat) (x : ItemRecord), s.batch.fed ≤ i → s.batch.records[i]? = some x → x.needsStage = true →
        (∀ (j : Nat) (y : ItemRecord), s.batch.fed ≤ j → j < i → s.batch.records[j]? = some y → y.needsStage = false) →
        (s.locked x.slot = false ∨ s.isPending x.slot = false → exec .batchCommitAdmission s = .next { s with
          batch := { s.batch with fed := i + 1 }
          commits := { s.commits with queue := s.commits.queue ++ [⟨.stageItem i x.slot, .batch⟩] } }) ∧
        (s.locked x.slot = true → s.isPending x.slot = true → exec .batchCommitAdmission s = .next s)) ∧
      ((∀ (i : Nat) (x : ItemRecord), s.batch.fed ≤ i → s.batch.records[i]? = some x → x.needsStage = false) →
        (s.batch.promoteFed = false →
          ((∀ n, s.locked n = true → s.isPending n = false) → exec .batchCommitAdmission s = .next { s with
            batch := { s.batch with fed := s.batch.records.length, promoteFed := true }
            commits := { s.commits with queue := s.commits.queue ++ [⟨.promoteBatch, .batch⟩] } }) ∧
          ((∃ n, s.locked n = true ∧ s.isPending n = true) → exec .batchCommitAdmission s = .next s)) ∧
        (s.batch.promoteFed = true → exec .batchCommitAdmission s = .next s)))

/-- A STAGE_WRITE that completes with OK is counted and its version kept in the staging position. One that completes with FAULT
abandons the batch: its queued commits gone, every slot reserved for it FREE, the faulted slot WORN, the batch OPEN with its
items, the last result STORE, the notice BATCH_STORE_FAULT, no staged version left (R103, R152, R153). -/
def Obligations.StageWriteCompletes : Prop :=
  ∀ (s : State) (i n : Nat) (e : Entry) (o : Origin) (rest : List Commit), s.phase = .running →
    s.commits = ⟨⟨.stageItem i n, o⟩ :: rest, some (.writeStaged n e)⟩ →
    exec (.stageWriteCompletion .ok) s = .next { s with
      commits := ⟨rest, none⟩
      store := s.store.setSlot n { s.store.slot n with staged := some e }
      batch := { s.batch with staged := s.batch.staged + 1 } } ∧
    ∃ t : State, exec (.stageWriteCompletion .fault) s = .next
        (t.fillReserved .mp 0xB1#8 s.batch.applyTag .batchStoreFault (byte i :: be 2 n)) ∧
      t.commits = ⟨rest.filter fun c => !(decide (c.origin = .batch)), none⟩ ∧
      t.batch = { s.batch with
        state := .opened, records := [], lastResult := some ⟨.store, i, .batchStoreFault⟩
        fed := 0, promoteFed := false, staged := 0 } ∧
      (∀ m, t.slot m = { s.slot m with
        content := if m ∈ s.batch.reservedSlots then .free else (s.slot m).content
        worn := (s.slot m).worn || decide (m = n) }) ∧
      (∀ m, t.store.slot m = { s.store.slot m with
        staged := none, worn := (s.store.slot m).worn || decide (m = n) }) ∧
      t = { s with commits := t.commits, batch := t.batch, store := { s.store with slots := t.store.slots },
                   engine := { s.engine with slots := t.engine.slots } }

/-- The completion of the PROMOTE applies every item to the working state in one change, whatever its kind: images and slots,
the spill counts, the clear-due list; and to the store slot by slot: the staged version made current, the slot cleared, or its
retire mark set, no other slot, class or counter touched. It empties the batch and fills the APPLIED notice with the four counts;
for a batch whose items name different slots (R17, R25, R114, R154, R155). The widths of the notice's counts are log 17. -/
def Obligations.PromoteAppliesTheWholeBatch : Prop :=
  ∀ (s : State) (o : Origin) (rest : List Commit) (ups : List (Nat × Promotion)) (z : List (Item × Nat × Promotion)),
    s.phase = .running → s.commits = ⟨⟨.promoteBatch, o⟩ :: rest, some (.promote ups)⟩ →
    ups.length = s.batch.items.length → (ups.map (·.1)).Nodup → z = s.batch.items.zip ups →
    ∃ t : State, exec .promoteCompletion s = .next (t.fillReserved .mp 0xB1#8 s.batch.applyTag .applied
        (byte s.batch.items.length :: (be 2 (z.filter (·.1.isInsert)).length
          ++ be 2 (z.filter fun x => x.1.isRetire && decide (x.2.2 = .clear)).length
          ++ be 2 (z.filter fun x => x.1.isRetire && !(decide (x.2.2 = .clear))).length))) ∧
      t.batch = emptyBatch ∧ t.commits = ⟨rest, none⟩ ∧
      (∀ m, m ∉ ups.map (·.1) → t.slot m = s.slot m) ∧
      (∀ x n u, (x, n, u) ∈ z →
        (∀ e, x = .insert e → t.slot n = { s.slot n with content := .occupied e }) ∧
        (∀ old, s.entryAt n = some old →
          (∀ id y f, x = .modify id y f → t.slot n =
            ⟨.occupied { old.withFields f with revision := (old.revision + 1) % 256 }, (s.slot n).worn, (s.slot n).retireMark⟩) ∧
          (∀ id v, x = .topUp id v → t.slot n =
            ⟨.occupied { old with balance := old.balance.map (· + v), revision := (old.revision + 1) % 256 }, (s.slot n).worn, (s.slot n).retireMark⟩) ∧
          (∀ id y, x = .bar id y → t.slot n =
            ⟨.occupied { old with state := .barred, revision := (old.revision + 1) % 256 }, (s.slot n).worn, (s.slot n).retireMark⟩) ∧
          (∀ id y, x = .unbar id y → t.slot n =
            ⟨.occupied { old with state := .active, revision := (old.revision + 1) % 256 }, (s.slot n).worn, (s.slot n).retireMark⟩) ∧
          (∀ id y, x = .retire id y →
            (u = .clear → t.slot n = ⟨.free, (s.slot n).worn, false⟩) ∧
            (u = .mark → t.slot n = { s.slot n with retireMark := true }) ∧
            (u = .makeCurrent → t.slot n =
            ⟨.occupied { old with state := .retiring, revision := (old.revision + 1) % 256 }, (s.slot n).worn, (s.slot n).retireMark⟩)))) ∧
      (∀ b, (z.filter fun x => x.1.isRetire && decide (x.2.2 = .clear) && inSpill x.2.1
            && ((s.entryAt x.2.1).any fun e => decide (homeBucket e.id = b))).length ≤ s.spillCount b →
        t.spillCount b + (z.filter fun x => x.1.isRetire && decide (x.2.2 = .clear) && inSpill x.2.1
            && ((s.entryAt x.2.1).any fun e => decide (homeBucket e.id = b))).length
          = s.spillCount b + (z.filter fun x => x.1.isInsert && inSpill x.2.1 && decide (homeBucket x.1.id = b)).length) ∧
      (∀ m, m ∈ t.engine.clearDue ↔ m ∈ s.engine.clearDue ∨
        ∃ x u, (x, m, u) ∈ z ∧ x.isRetire = true ∧ u ≠ .clear ∧ s.openHolds m = 0) ∧
      (∀ m, m ∉ ups.map (·.1) → t.store.slot m = s.store.slot m) ∧
      (∀ n u, (n, u) ∈ ups → t.store.slot n = (match u with
        | .makeCurrent => { s.store.slot n with image := (s.store.slot n).staged, staged := none }
        | .clear => { s.store.slot n with image := none, staged := none, moveTarget := false, retireMark := false }
        | .mark => { s.store.slot n with staged := none, retireMark := true })) ∧
      t.store = { s.store with slots := t.store.slots } ∧
      t = { s with commits := t.commits, batch := t.batch, store := t.store,
                   engine := { t.engine with pointer := s.engine.pointer } }

/-! ### Scans (09) -/

/-- Start Scan: BAD_FIELD, SCAN_ACTIVE, APPLY_IN_PROGRESS, TIME_UNKNOWN (EXPIRY only) in that order; one that passes sets every
field of the scan record, reserves the notice place and answers kind, argument and scan time (R159, R172). The presence bytes of
argument and scan time and the two bytes of the argument are the model's reading (logs 15 and 17). -/
def Obligations.StartScanChecksInOrder : Prop :=
  ∀ (r : Request) (s : State), s.takeable .mp .startScan = some r →
    (readStartScan r.payload = none → exec .startScan s = .next (s.answered .mp ⟨0x38#8, r.tag, .badField, []⟩)) ∧
    ∀ k a now, readStartScan r.payload = some (k, a) → now = (if k = .expiry then s.time.deviceTime else none) →
      exec .startScan s = .next
        (if s.scan.state ≠ .idle then s.answered .mp ⟨0x38#8, r.tag, .scanActive, []⟩
         else if s.batch.state = .writing ∨ s.batch.state = .promoting then
           s.answered .mp ⟨0x38#8, r.tag, .applyInProgress, []⟩
         else if k = .expiry ∧ s.time.deviceTime = none then s.answered .mp ⟨0x38#8, r.tag, .timeUnknown, []⟩
         else { s with scan := ⟨some k, a, .running, 0, now, 0, 0, 0, 0, 0, r.tag⟩ }.answeredWithNotice
           ⟨0x38#8, r.tag, .accepted, k.code :: (optional 2 a ++ optional 4 now)⟩ 0xB8#8 r.tag)

/-- Suspend, Resume and Abort Scan in each state of the scan (R168, R169, R170). An Abort with commits in flight leaves the scan
DRAINING; with none the scan is IDLE and its notice is filled after the response of the take (log 27). -/
def Obligations.ScanControlRequests : Prop :=
  ∀ (r : Request) (s : State),
    (s.takeable .mp .suspendScan = some r → exec .suspendScan s = .next
      (match s.scan.state with
       | .running => { s with scan := { s.scan with state := .suspended } }.answered .mp
           ⟨0x39#8, r.tag, .ok, be 2 s.scan.cursor⟩
       | .idle => s.answered .mp ⟨0x39#8, r.tag, .scanIdle, []⟩
       | .suspended => s.answered .mp ⟨0x39#8, r.tag, .scanActive, []⟩
       | .draining => s.answered .mp ⟨0x39#8, r.tag, .scanActive, []⟩)) ∧
    (s.takeable .mp .resumeScan = some r → exec .resumeScan s = .next
      (match s.scan.state with
       | .idle => s.answered .mp ⟨0x3A#8, r.tag, .scanIdle, []⟩
       | .running => s.answered .mp ⟨0x3A#8, r.tag, .scanActive, []⟩
       | .draining => s.answered .mp ⟨0x3A#8, r.tag, .scanActive, []⟩
       | .suspended =>
         if s.batch.state = .writing ∨ s.batch.state = .promoting then
           s.answered .mp ⟨0x3A#8, r.tag, .applyInProgress, []⟩
         else { s with scan := { s.scan with state := .running } }.answered .mp
           ⟨0x3A#8, r.tag, .ok, be 2 s.scan.cursor⟩)) ∧
    (s.takeable .mp .abortScan = some r →
      (s.scan.state = .idle → exec .abortScan s = .next (s.answered .mp ⟨0x3B#8, r.tag, .scanIdle, []⟩)) ∧
      (s.scan.state = .draining → exec .abortScan s = .next (s.answered .mp ⟨0x3B#8, r.tag, .scanActive, []⟩)) ∧
      (s.scan.state = .running ∨ s.scan.state = .suspended →
        (s.scan.inFlight ≠ 0 → exec .abortScan s = .next
          ({ s with scan := { s.scan with state := .draining } }.answered .mp
            ⟨0x3B#8, r.tag, .ok, be 2 s.scan.cursor⟩)) ∧
        (s.scan.inFlight = 0 → s.scan.cursor < 4352 → exec .abortScan s = .next
          (({ s with scan := { s.scan with state := .idle } }.answered .mp
            ⟨0x3B#8, r.tag, .ok, be 2 s.scan.cursor⟩).fillReserved .mp 0xB8#8 s.scan.startTag .scanAborted
              s.scan.notice))))

/-- What a step decides for a slot, by the rows of R162 in their order, and the rehoming of R163; and the step itself. A step
granted to SCAN examines the slots from the cursor one at a time, at most eight, each by that decision under the one sample of
CHG_INH; it stops after slot 4,351, or before a slot that needs a commit while the queue is full; it leaves the queue within 16.
After the last slot the walk ends in the same take: DRAINING with commits in flight, else IDLE with the notice SCAN_DONE (R160 to
R163, R167; the widths and presence bytes of the notice are logs 15 and 17). -/
def Obligations.SlotIsDecidedByTheRows : Prop :=
  (∀ (s : State) (sample : Bool) (n : Nat),
    (s.entryAt n = none → s.slotDecision sample n = .pass) ∧
    (∀ e, s.entryAt n = some e →
      (s.qualifies n e = true ↔
        e.state ≠ .retiring ∧ (s.slot n).retireMark = false ∧
          ((s.scan.kind = some .expiry ∧ ∃ v t, e.validUntil = some v ∧ s.scan.scanTime = some t ∧ v ≤ t) ∨
            (s.scan.kind = some .cls ∧ s.scan.argument = some e.cls) ∨
            (s.scan.kind = some .group ∧ ∃ g, e.groupTag = some g ∧ s.scan.argument = some g) ∨
            s.scan.kind = some .clear)) ∧
      (s.qualifies n e = true → s.slotDecision sample n =
        (if s.isPending n = true ∨ s.locked n = true then .skip
         else if sample = true ∧ s.underGuard e.cls = true then .skip else .retire)) ∧
      (s.qualifies n e = false → s.slotDecision sample n =
        (if s.scan.kind = some .expiry ∧ 4096 ≤ n ∧ n ≤ 4351 then
          (match (waysOf (homeBucket e.id)).find? s.placeable with
           | some way => if s.isPending n = true then .skip else .rehome e.id way
           | none => .pass)
         else .pass)))) ∧
  (∀ s : State, s.granted = some .scan → s.scan.cursor ≤ 4352 →
    ∃ (k : Nat) (u t : State), k ≤ 8 ∧ u = s.setPointer (.port .mp) ∧ t = u.walked k ∧
      (∀ i, i < k → (u.walked i).scan.cursor < 4352 ∧
        ((u.walked i).cursorDecision.needsCommit = true → (u.walked i).commits.queue.length < 16)) ∧
      (k = 8 ∨ t.scan.cursor = 4352 ∨ (t.cursorDecision.needsCommit = true ∧ 16 ≤ t.commits.queue.length)) ∧
      (s.commits.queue.length ≤ 16 → t.commits.queue.length ≤ 16) ∧
      (t.scan.cursor < 4352 → exec .scanStep s = .next t) ∧
      (t.scan.cursor = 4352 → exec .scanStep s = .next
        (if t.scan.inFlight = 0 then
          { t with scan := { t.scan with state := .idle } }.fillReserved .mp 0xB8#8 t.scan.startTag .scanDone t.scan.notice
         else { t with scan := { t.scan with state := .draining } })))


/-! ### Ports (10) -/

/-- A whole Request transaction with L up to 48: the summary, FFh while the frame is received, then the verdict of Table 10-1, the
first check that fails; the request joins the tail of the queue when the verdict is TAKEN and its byte was clocked out, and
in no other case. With L above 48 the verdict follows the length byte (R176, R177). A transaction given in several stretches is the
one given whole, and its verdict is judged in the state in which the verdict byte is clocked; one that a start-up abandoned gets
FFh and changes no queue; bits form bytes, most significant first, and the bits of an incomplete byte are none (R174). The kinds have
the codes and ports of Table 10-2 and the lengths of Table 10-4 (R179, R190). That a
stretch of a transaction is one command of any of the three port rows, and the record of the bytes driven, are the model's choice
(log 6); that verdict and joining are one moment is its reading (log 7). -/
def Obligations.RequestIntakeFollowsTheTable : Prop :=
  (∀ (s : State) (p : Port) (kind tag : Byte) (payload : List Byte) (crc : BitVec 16) (last : List Byte) (spare : Nat)
      (verdict : Byte) (frame : List Byte),
    s.phase ≠ .off → payload.length ≤ 48 →
    frame = [0xC1#8, kind, tag, byte payload.length] ++ payload ++ be 2 crc.toNat →
    verdict = (if s.phase ≠ .running then 0xA6#8
      else if crc ≠ crc16 ([kind, tag, byte payload.length] ++ payload) then 0xA2#8
      else match kindOfCode kind with
        | none => 0xA3#8
        | some k =>
          if k.acceptedOn p = false then 0xA4#8
          else if payload.length < k.lengths.1 ∨ k.lengths.2 < payload.length then 0xA5#8
          else if 4 ≤ (s.port p).requests.length then 0xA1#8 else 0xA0#8) →
    (∀ b, exec (.request p ⟨true, frame ++ b :: last, spare, true⟩) s = .next (s.setPort p { s.port p with
      requests := if verdict = 0xA0#8 then
          (s.port p).requests ++ ((kindOfCode kind).map fun k => (⟨k, tag, payload⟩ : Request)).toList
        else (s.port p).requests
      transaction := none
      sdo := s.summary p :: (List.replicate (payload.length + 5) 0xFF#8
        ++ verdict :: List.replicate last.length 0xFF#8) })) ∧
    (∀ cut, cut <+: frame → ∃ out, exec (.request p ⟨true, cut, spare, true⟩) s =
      .next (s.setPort p { s.port p with transaction := none, sdo := out }))) ∧
  (∀ (s : State) (p : Port) (kind tag len b : Byte) (last : List Byte) (spare : Nat), s.phase ≠ .off → 48 < len.toNat →
    exec (.request p ⟨true, [0xC1#8, kind, tag, len, b] ++ last, spare, true⟩) s = .next (s.setPort p { s.port p with
      transaction := none
      sdo := [s.summary p, 0xFF#8, 0xFF#8, 0xFF#8, if s.phase = .running then 0xA5#8 else 0xA6#8]
        ++ List.replicate last.length 0xFF#8 })) ∧
  (∀ (s : State) (p : Port) (x : Exchange), exec (.fetch p x) s = exec (.request p x) s ∧
    exec (.portStatus p x) s = exec (.request p x) s) ∧
  (∀ (s : State) (p : Port) (falls rises : Bool) (front back : List Byte) (i j : Nat), s.phase ≠ .off →
    ∃ t : State, exec (.request p ⟨falls, front, i, false⟩) s = .next t ∧
      exec (.request p ⟨false, back, j, rises⟩) t = exec (.request p ⟨falls, front ++ back, j, rises⟩) s) ∧
  (∀ (s : State) (p : Port) (tr : Transaction) (kind tag : Byte) (payload : List Byte) (crc : BitVec 16) (b : Byte)
      (last : List Byte) (spare : Nat),
    s.phase ≠ .off → payload.length ≤ 48 → (s.port p).transaction = some tr → tr.abandoned = false →
    tr.fetching = false → tr.received = [0xC1#8, kind, tag, byte payload.length] ++ payload ++ be 2 crc.toNat →
    ∃ t u : State, exec (.request p ⟨true, tr.received ++ b :: last, spare, true⟩) s = .next t ∧
      exec (.request p ⟨false, b :: last, spare, true⟩) s = .next u ∧ (u.port p).requests = (t.port p).requests ∧
      u = s.setPort p { s.port p with
        requests := (u.port p).requests, transaction := none
        sdo := (s.port p).sdo ++ (t.port p).sdo.drop (payload.length + 6) }) ∧
  (∀ (s : State) (p : Port) (tr : Transaction) (ds : List Byte) (spare : Nat), s.phase ≠ .off →
    (s.port p).transaction = some tr → tr.abandoned = true →
    exec (.request p ⟨false, ds, spare, true⟩) s = .next (s.setPort p { s.port p with
      transaction := none, sdo := (s.port p).sdo ++ List.replicate ds.length 0xFF#8 }) ∧
    ∃ tr' : Transaction, tr'.abandoned = true ∧ exec (.request p ⟨false, ds, spare, false⟩) s =
      .next (s.setPort p { s.port p with
        transaction := some tr', sdo := (s.port p).sdo ++ List.replicate ds.length 0xFF#8 })) ∧
  (∀ (bytes : List Byte) (cut : List Bool), cut.length < 8 → bytesOfBits (bytes.flatMap bitsOf ++ cut) = bytes) ∧
  (∀ (b : Byte) (k : Kind), kindOfCode b = some k ↔ k.code = b) ∧
  (∀ k : Kind, (k, k.code, k.lengths) ∈ [(Kind.present, 0x10#8, (5, 15)), (.draw, 0x11#8, (8, 16)), (.extend, 0x12#8, (6, 6)),
    (.settle, 0x13#8, (6, 6)), (.release, 0x14#8, (4, 4)), (.queryHold, 0x15#8, (4, 4)), (.readTime, 0x16#8, (0, 0)),
    (.readIdentity, 0x17#8, (0, 0)), (.status, 0x20#8, (0, 0)), (.setTime, 0x21#8, (5, 5)), (.setClass, 0x22#8, (6, 6)),
    (.readClass, 0x23#8, (1, 1)), (.insert, 0x24#8, (31, 39)), (.modify, 0x25#8, (26, 34)), (.topUp, 0x26#8, (8, 16)),
    (.bar, 0x27#8, (7, 15)), (.unbar, 0x28#8, (7, 15)), (.retire, 0x29#8, (7, 15)), (.relocate, 0x2A#8, (8, 16)),
    (.readEntry, 0x2B#8, (3, 14)), (.listHolds, 0x2C#8, (1, 1)), (.forceRelease, 0x2D#8, (2, 2)), (.stage, 0x30#8, (8, 40)),
    (.apply, 0x31#8, (0, 0)), (.discard, 0x32#8, (0, 0)), (.readBatch, 0x33#8, (0, 0)), (.startScan, 0x38#8, (3, 3)),
    (.suspendScan, 0x39#8, (0, 0)), (.resumeScan, 0x3A#8, (0, 0)), (.abortScan, 0x3B#8, (0, 0)), (.reset, 0x3F#8, (0, 0))]) ∧
  (∀ (k : Kind) (p : Port), k.acceptedOn p =
    (if k ∈ [.present, .queryHold, .readTime, .readIdentity] then true
     else if k ∈ [.draw, .extend, .settle, .release] then decide (p ≠ .mp) else decide (p = .mp)))

/-- A Fetch sends the oldest filled response as its frame and removes it when its last byte has been clocked out; a shorter one
removes nothing; with no filled response it sends the empty response and removes nothing (R182, R189). A Port Status transaction
sends the port summary with its type byte and once for each further byte, and changes nothing; the summary is 00h until intake has
opened, then the ready bit, the filled responses, the free request places and the reserved bit (R175). The attention output is
asserted while a response is filled: a fill raises it, an acceptance leaves it, the Fetch of the only response releases it, and a
start-up releases it (R184, R188). The data output is high-impedance while chip select is high and carries one byte after another
while it is low, the summary first (R174, R193). The statuses have the codes of Table 10-9, and the other coded values those of
Table 10-3, Table 10-4 and R186. The bytes driven are the model's own record, and a port without supply follows its
chip select alone (log 6). -/
def Obligations.FetchAndPortStatus : Prop :=
  (∀ (s : State) (p : Port) (ds : List Byte) (spare : Nat), s.phase ≠ .off →
    (∀ r rest, (s.port p).filled = r :: rest →
      exec (.fetch p ⟨true, 0xC2#8 :: ds, spare, true⟩) s = .next (s.setPort p { s.port p with
        filled := if ds.length < r.payload.length + 6 then r :: rest else rest
        transaction := none
        sdo := s.summary p :: (([r.kind, r.tag, r.status.code, byte r.payload.length] ++ r.payload
            ++ be 2 (crc16 ([r.kind, r.tag, r.status.code, byte r.payload.length] ++ r.payload)).toNat).take ds.length
          ++ List.replicate (ds.length - (r.payload.length + 6)) 0xFF#8) })) ∧
    ((s.port p).filled = [] →
      exec (.fetch p ⟨true, 0xC2#8 :: ds, spare, true⟩) s = .next (s.setPort p { s.port p with
        transaction := none
        sdo := s.summary p :: (([0#8, 0#8, 0#8, 0#8] ++ be 2 (crc16 [0#8, 0#8, 0#8, 0#8]).toNat).take ds.length
          ++ List.replicate (ds.length - 6) 0xFF#8) }))) ∧
  ((∀ (s : State) (p : Port) (ds : List Byte) (spare : Nat), s.phase ≠ .off →
    exec (.portStatus p ⟨true, 0xC3#8 :: ds, spare, true⟩) s = .next (s.setPort p { s.port p with
      transaction := none, sdo := List.replicate (ds.length + 1) (s.summary p) })) ∧
  (∀ (s : State) (p : Port), s.phase ≠ .running → s.summary p = 0#8) ∧
  (∀ (s : State) (p : Port), s.phase = .running → (s.port p).withinPlaces →
    (s.summary p).getLsbD 7 = true ∧ ((s.summary p).extractLsb' 4 3).toNat = (s.port p).filled.length ∧
      ((s.summary p).extractLsb' 1 3).toNat + (s.port p).requests.length = 4 ∧
      (s.summary p).getLsbD 0 = !(s.port p).reserved.isEmpty)) ∧
  (∀ (s : State) (p q : Port), ((s.port p).attention = true ↔ (s.port p).filled ≠ []) ∧
    (∀ x, ((s.answered p x).port q).attention = (decide (q = p) || (s.port q).attention)) ∧
    (∀ k tag c, ((s.accepted p k tag c).port q).attention = (s.port q).attention) ∧
    (s.placesAccounted → s.phase ≠ .running → (s.port p).attention = false) ∧
    (∀ (r : Response) (ds : List Byte) (spare : Nat), s.phase ≠ .off → (s.port p).filled = [r] →
      r.payload.length + 6 ≤ ds.length →
      ∃ t : State, exec (.fetch p ⟨true, 0xC2#8 :: ds, spare, true⟩) s = .next t ∧ (t.port p).attention = false)) ∧
  (∀ (s : State) (p : Port),
    (s.dataOut p = none ↔ s.phase = .off ∨ (s.port p).transaction = none) ∧
    (s.phase = .off → ∀ x : Exchange, ∃ tr : Option Transaction, exec (.portStatus p x) s =
        .next (s.setPort p { s.port p with transaction := tr }) ∧
      tr.isSome = (!x.selectRises && (x.selectFalls || (s.port p).transaction.isSome))) ∧
    (s.phase ≠ .off → ∃ t u : State, exec (.portStatus p ⟨true, [], 0, false⟩) s = .next t ∧
      t.dataOut p = some (s.summary p) ∧ exec (.portStatus p ⟨false, [], 0, true⟩) s = .next u ∧ u.dataOut p = none ∧
      ∀ (b d : Byte), s.dataOut p = some d → ∃ v : State, exec (.portStatus p ⟨false, [b], 0, false⟩) s = .next v ∧
        (v.port p).sdo = (s.port p).sdo ++ [d])) ∧
  (∀ x : Status, (x, x.code) ∈ [(Status.ok, 0x00#8), (.accepted, 0x01#8), (.denied, 0x02#8), (.badField, 0x03#8), (.range, 0x04#8),
    (.notFound, 0x10#8), (.alreadyPresent, 0x11#8), (.tableFull, 0x12#8), (.badSlot, 0x13#8), (.guarded, 0x14#8),
    (.revisionMismatch, 0x15#8), (.held, 0x16#8), (.entryBusy, 0x17#8), (.retiring, 0x18#8), (.storeFault, 0x19#8),
    (.noSuchHold, 0x20#8), (.holdExpired, 0x21#8), (.holdClosed, 0x22#8), (.restarted, 0x23#8), (.notOwner, 0x24#8),
    (.exceedsHold, 0x25#8), (.holdSettling, 0x26#8), (.timeBackward, 0x28#8), (.timeUnknown, 0x29#8),
    (.applyInProgress, 0x30#8), (.batchFull, 0x31#8), (.batchEmpty, 0x32#8), (.batchBusy, 0x33#8),
    (.duplicateInBatch, 0x34#8), (.rejected, 0x35#8), (.applied, 0x36#8), (.batchStoreFault, 0x37#8), (.scanActive, 0x38#8),
    (.scanIdle, 0x39#8), (.scanDone, 0x3A#8), (.scanAborted, 0x3B#8)]) ∧
  (∀ p : Port, (p, portCode p) ∈ [(Port.mp, 0#8), (.tp0, 1#8), (.tp1, 2#8)]) ∧
  (∀ x : EntryState, (x, x.code) ∈ [(EntryState.active, 1#8), (.barred, 2#8), (.retiring, 3#8)]) ∧
  (∀ x : HoldOutcome, (x, x.code) ∈ [(HoldOutcome.settled, 1#8), (.released, 2#8), (.expired, 3#8), (.forced, 4#8)]) ∧
  (SlotContent.free.code = 0#8 ∧ (∀ id h, (SlotContent.reserved id h).code = 1#8) ∧ ∀ e, (SlotContent.occupied e).code = 2#8) ∧
  (∀ x : ScanKind, (x, x.code) ∈ [(ScanKind.expiry, 1#8), (.cls, 2#8), (.group, 3#8), (.clear, 4#8)]) ∧
  (∀ x : ScanState, (x, x.code) ∈ [(ScanState.idle, 0#8), (.running, 1#8), (.suspended, 2#8), (.draining, 3#8)]) ∧
  (∀ x : BatchState, (x, x.code) ∈ [(BatchState.empty, 0#8), (.opened, 1#8), (.writing, 2#8), (.promoting, 3#8)])

/-- Every payload of Table 10-4 with a token ID, an image, a record or a choice of fields, laid out from its fields, reads back as
those fields, with every value each field admits; a value that its flag, mask or kind leaves unused is not read; and a payload
reads as something only where it is so laid out, so that every other one is malformed: a length, flag, selector, item kind or scan
kind outside its values, zero units, a class above 15, a holds limit above 4, a window that is empty, masks that name a field made
absent without naming it (R2, R31, R53, R54, R128, R131, R190, R191, Table 10-5, Table 10-6). -/
def Obligations.PayloadsReadBack : Prop :=
  (∀ (id : List Byte), 4 ≤ id.length → id.length ≤ 12 →
    readPresent (idField id) = some (id, none) ∧
    (∀ u, 1 ≤ u → u ≤ 65535 → readPresent (idField id ++ be 2 u) = some (id, some u) ∧
      (∀ f, readDraw (idField id ++ be 2 u ++ [yesNo f]) = some (id, u, f))) ∧
    (∀ v, 1 ≤ v → v ≤ 16777215 → readTopUp (idField id ++ be 3 v) = some (.topUp id v)) ∧
    (∀ x : Option Nat, (∀ v, x = some v → v ≤ 255) →
      readBarItem (idField id ++ flagged 1 x) = some (.bar id x) ∧
      readUnbarItem (idField id ++ flagged 1 x) = some (.unbar id x) ∧
      readRetireItem (idField id ++ flagged 1 x) = some (.retire id x) ∧
      (∀ f : FieldChanges, f.inRange = true → f ≠ ⟨none, none, none, none, none, none, none⟩ →
        readModify (modifyPayload id x f) = some (.modify id x f))) ∧
    (∀ x : Option Nat, (∀ v, x = some v → v ≤ 65535) → readRelocate (idField id ++ flagged 2 x) = some (id, x)) ∧
    readEntryName (1#8 :: idField id) = some (.byId id) ∧
    (∀ a b : Byte, readIdExpected (idField id ++ [0#8, a]) = some (id, none) ∧
      readRelocate (idField id ++ [0#8, a, b]) = some (id, none))) ∧
  (∀ n, n ≤ 65535 → readEntryName (2#8 :: be 2 n) = some (.bySlot n)) ∧
  (∀ e : Entry, e.newImageOk = true → e.useCount ≤ 65535 → e.revision ≤ 255 →
    readImage (e.image e.state) = some { e with useCount := 0, lastUse := none, revision := 0 }) ∧
  (∀ (c : Nat) (x : ClassRecord), c ≤ 15 → 10 ≤ x.lifetime → x.lifetime ≤ x.lifetimeLimit → x.lifetimeLimit ≤ 65535 →
    readSetClass (byte c :: x.bytes) = some (c, x)) ∧
  (∀ g, 1 ≤ g → g ≤ 65535 → readStartScan (3#8 :: be 2 g) = some (.group, some g)) ∧
  (∀ c, c ≤ 15 → readStartScan (2#8 :: be 2 c) = some (.cls, some c)) ∧
  (∀ a, a ≤ 65535 → readStartScan (1#8 :: be 2 a) = some (.expiry, none) ∧
    readStartScan (4#8 :: be 2 a) = some (.clear, none)) ∧
  (∀ n g e, n ≤ 255 → g ≤ 255 → e ≤ 65535 → readHandle ([byte n, byte g] ++ be 2 e) = ⟨n, g, e⟩) ∧
  (readStage [] = none ∧ ∀ (c : Byte) (rest : List Byte),
    (c = 1#8 → readStage (c :: rest) = (readImage rest).map .insert) ∧ (c = 2#8 → readStage (c :: rest) = readModify rest) ∧
    (c = 3#8 → readStage (c :: rest) = readTopUp rest) ∧ (c = 4#8 → readStage (c :: rest) = readBarItem rest) ∧
    (c = 5#8 → readStage (c :: rest) = readUnbarItem rest) ∧ (c = 6#8 → readStage (c :: rest) = readRetireItem rest) ∧
    (c = 0#8 ∨ 6 < c.toNat → readStage (c :: rest) = none)) ∧
  (∀ q : List Byte,
    ((readPresent q).isSome = true ↔ ∃ id, 4 ≤ id.length ∧ id.length ≤ 12 ∧
      (q = idField id ∨ ∃ u, 1 ≤ u ∧ u ≤ 65535 ∧ q = idField id ++ be 2 u)) ∧
    ((readDraw q).isSome = true ↔ ∃ id u f, 4 ≤ id.length ∧ id.length ≤ 12 ∧ 1 ≤ u ∧ u ≤ 65535 ∧
      q = idField id ++ be 2 u ++ [yesNo f]) ∧
    ((readTopUp q).isSome = true ↔ ∃ id v, 4 ≤ id.length ∧ id.length ≤ 12 ∧ 1 ≤ v ∧ v ≤ 16777215 ∧ q = idField id ++ be 3 v) ∧
    ((readBarItem q).isSome = (readIdExpected q).isSome ∧ (readUnbarItem q).isSome = (readIdExpected q).isSome ∧
      (readRetireItem q).isSome = (readIdExpected q).isSome) ∧
    ((readIdExpected q).isSome = true ↔ ∃ (id : List Byte) (f : Bool) (a : Byte), 4 ≤ id.length ∧ id.length ≤ 12 ∧
      q = idField id ++ [yesNo f, a]) ∧
    ((readRelocate q).isSome = true ↔ ∃ (id : List Byte) (f : Bool) (a b : Byte), 4 ≤ id.length ∧ id.length ≤ 12 ∧
      q = idField id ++ [yesNo f, a, b]) ∧
    ((readEntryName q).isSome = true ↔ (∃ id, 4 ≤ id.length ∧ id.length ≤ 12 ∧ q = 1#8 :: idField id) ∨
      ∃ n, n ≤ 65535 ∧ q = 2#8 :: be 2 n) ∧
    ((readSetClass q).isSome = true ↔ ∃ c flags life limit, c ≤ 15 ∧ flags < 64 ∧ 10 ≤ life ∧ life ≤ limit ∧ limit ≤ 65535 ∧
      q = byte c :: byte flags :: (be 2 life ++ be 2 limit)) ∧
    (q.length = 3 → ((readStartScan q).isSome = true ↔ field q 0 1 = 1 ∨ field q 0 1 = 4 ∨
      (field q 0 1 = 2 ∧ field q 1 2 ≤ 15) ∨ (field q 0 1 = 3 ∧ field q 1 2 ≠ 0))) ∧
    ((readImage q).isSome = true ↔ ∃ (id : List Byte) (flags : Byte) (rest : List Byte), 4 ≤ id.length ∧ id.length ≤ 12 ∧
      rest.length = 25 ∧ q = idField id ++ flags :: rest ∧ flags.getLsbD 6 = false ∧ flags.getLsbD 7 = false ∧
      field rest 0 1 ≤ 15 ∧ (field rest 1 1 = 1 ∨ field rest 1 1 = 2) ∧ field rest 2 1 ≤ 4 ∧
      (flags.getLsbD 0 = true → flags.getLsbD 1 = true → field rest 3 4 < field rest 7 4) ∧
      (flags.getLsbD 3 = true → field rest 14 2 ≠ 0) ∧ (flags.getLsbD 4 = true → field rest 16 2 ≠ 0)) ∧
    ((readModify q).isSome = true ↔ ∃ (id : List Byte) (f : Bool) (a mask gone : Byte) (vs : List Byte), 4 ≤ id.length ∧
      id.length ≤ 12 ∧ vs.length = 17 ∧ q = idField id ++ yesNo f :: a :: mask :: gone :: vs ∧ mask ≠ 0#8 ∧
      mask.getLsbD 7 = false ∧ gone.getLsbD 0 = false ∧ gone.getLsbD 1 = false ∧
      (∀ i, gone.getLsbD i = true → mask.getLsbD i = true) ∧
      (mask.getLsbD 0 = true → field vs 0 1 ≤ 15) ∧ (mask.getLsbD 1 = true → 1 ≤ field vs 1 1 ∧ field vs 1 1 ≤ 4) ∧
      (mask.getLsbD 5 = true → gone.getLsbD 5 = false → field vs 13 2 ≠ 0) ∧
      (mask.getLsbD 6 = true → gone.getLsbD 6 = false → field vs 15 2 ≠ 0)))

/-- The arbiter grants the first candidate from the pointer on, in the order MP, TP0, TP1, SCAN, and none only where there is no
candidate; with the pointer then set past the one granted, a candidate that stays one comes nearer at every grant, so it is
passed over at most three times in a row (R179, R180). A port is a candidate by the response and commit places that the kind of its
head request needs in Table 10-2. -/
def Obligations.ArbiterIsRoundRobin : Prop :=
  (∀ s : State, s.phase = .running →
    (s.granted = none ↔ ∀ c, s.isCandidate c = false) ∧
    (∀ g, s.granted = some g → s.isCandidate g = true ∧
      (∀ c, s.isCandidate c = true →
        Candidate.distance s.engine.pointer g ≤ Candidate.distance s.engine.pointer c) ∧
      (∀ c, s.isCandidate c = true → c ≠ g →
        Candidate.distance g.after c < Candidate.distance s.engine.pointer c)) ∧
    (∀ p, s.isCandidate (.port p) = true ↔ ∃ r rest, (s.port p).requests = r :: rest ∧
      (s.port p).filled.length + (s.port p).reserved.length + r.kind.responsePlaces ≤ max 4
        ((s.port p).filled.length + (s.port p).reserved.length) ∧
      (r.kind.needsCommit = true → s.commits.queue.length < 16)) ∧
    (s.isCandidate .scan = true ↔ s.scan.state = .running)) ∧
  (∀ k : Kind,
    k.responsePlaces = (match k with
      | .apply => 2
      | .startScan => 2
      | .reset => 0
      | _ => 1) ∧
    (k.needsCommit = true ↔ k ∈ [.settle, .setClass, .insert, .modify, .topUp, .bar, .unbar, .retire, .relocate]))

/-! ### Start-up (06) -/

/-- The take of a Reset request and, with RESET_N high before, the falling edge of RESET_N: every port queue is emptied and
transaction abandoned, every commit that has not begun is discarded while the one in progress stays, the timebase is at its
start-up values, and intake is closed (R52, R116, R174, R187, R188). Each of Reset, RESET_N, CHG_INH and the supply answers a next
state where it can occur: the release raises the pin, CHG_INH changes its level alone, power-on begins a start-up, and a loss of
power with no commit in progress keeps the store (R35, R116, R187). What a fall of RESET_N leaves of a restore is the model's
operand (log 20), the fields of a part without supply are its choice (log 18), and a working table kept until restore ends is its
reading (log 24). -/
def Obligations.StartUpBeginsAtResetAndPins : Prop :=
  (∀ (s t : State), s.phase = .running →
    ((∃ r, s.takeable .mp .reset = some r) ∧ exec .reset s = .next t ∧ t.resetLow = s.resetLow
      ∨ s.resetLow = false ∧ (∃ b, exec (.resetNFall b) s = .next t) ∧ t.resetLow = true) →
    t.phase = .starting ∧
    (∀ p, t.port p = ⟨[], [], [], (s.port p).transaction.map fun x => { x with abandoned := true }, (s.port p).sdo⟩) ∧
    t.commits = (match s.commits.work with
      | some w => ⟨s.commits.queue.take 1, some w⟩
      | none => ⟨[], none⟩) ∧
    t.time = ⟨0, none, 0, 0⟩ ∧ t.engine = { s.engine with pointer := .port .mp } ∧ t.store = s.store ∧
    t.inhibited = s.inhibited) ∧
  ((∀ (s : State) (r : Request), s.takeable .mp .reset = some r →
    ∃ t : State, exec .reset s = .next t ∧ t.phase = .starting) ∧
  (∀ (s : State) (b : Bool), s.resetLow = false → ∃ t : State, exec (.resetNFall b) s = .next t ∧ t.resetLow = true ∧
    (s.phase = .off → t = { s with resetLow := true }) ∧ (s.phase ≠ .off → t.phase = .starting) ∧
    (s.phase = .starting → t.commits = s.commits.atStartUp ∧ t.store = s.store) ∧
    (s.phase = .settled → b = false → t.store = s.store) ∧
    (s.phase = .settled → b = true →
      t.store = { s.store with startCounter := (s.store.startCounter + 1) % 65536 })) ∧
  (∀ s : State, exec .resetNRelease s = .next { s with resetLow := false }) ∧
  (∀ (s : State) (b : Bool), exec (.chgInhChange b) s = .next { s with inhibited := b }) ∧
  (∀ s : State, s.phase = .off → exec .powerOn s = .next { s with phase := .starting }) ∧
  (∀ (s : State) (cut : PowerCut), s.phase ≠ .off → s.commits.work = none → s.phase ≠ .settled →
    ∃ t : State, exec (.powerLoss cut) s = .next t ∧ t.phase = .off ∧ t.store = s.store ∧ t.commits = ⟨[], none⟩ ∧
      (∀ p, (t.port p).requests = [] ∧ (t.port p).filled = [] ∧ (t.port p).reserved = [])))

/-- Restore begins when RESET_N is high and no commit is in progress, and settles the store: every staged version is discarded
and, with at most one slot marked, a marked slot with a twin is cleared, a marked slot without one loses its mark, and every
other slot stays; what it leaves it does not change again (R116, R117). -/
def Obligations.RestoreSettlesTheStore : Prop :=
  (∀ s : State, s.phase = .starting → s.resetLow = false → s.commits.work = none →
    (∀ m n, (s.store.slot m).moveTarget = true → (s.store.slot n).moveTarget = true → m = n) →
    ∃ t : State, exec .startUpRestore s = .next t ∧ t = { s with phase := .settled, store := { s.store with slots := t.store.slots } } ∧
      ∀ n,
        ((s.store.slot n).moveTarget = false → t.store.slot n = { s.store.slot n with staged := none }) ∧
        (∀ e, (s.store.slot n).moveTarget = true → (s.store.slot n).image = some e →
          (∃ m x, m ≠ n ∧ (s.store.slot m).image = some x ∧ x.id = e.id) →
          t.store.slot n = { s.store.slot n with image := none, staged := none, moveTarget := false, retireMark := false }) ∧
        ((s.store.slot n).moveTarget = true →
          (∀ m x e, m ≠ n → (s.store.slot n).image = some e → (s.store.slot m).image = some x → x.id ≠ e.id) →
          t.store.slot n = { s.store.slot n with staged := none, moveTarget := false })) ∧
  (∀ (st : Store) (n : Nat), (st.settle.slot n).moveTarget = false ∧ (st.settle.slot n).staged = none ∧
    st.settle.settle.slot n = st.settle.slot n ∧ (st.settle.slot n).worn = (st.slot n).worn)

/-- The end of restore raises the start counter, builds every block's start-up state and opens intake: the working directory and
images as the store holds them, spill counts counted afresh, the clear-due list every RETIRING entry in ascending order, for a
store in canonical form (R17, R25, R26, R97, R115, R118, R156, R173, R180). -/
def Obligations.RestoreBuildsTheWorkingState : Prop :=
  ∀ s : State, s.phase = .settled → s.resetLow = false → Table.wf emptyDurable s.store.slots = true →
    ∃ t : State, exec .restoreComplete s = .next t ∧ t.phase = .running ∧
      t.store = { s.store with startCounter := (s.store.startCounter + 1) % 65536 } ∧
      t.holds = [] ∧ t.commits = ⟨[], none⟩ ∧ t.batch = emptyBatch ∧ t.scan = idleScan ∧ t.time = ⟨0, none, 0, 0⟩ ∧
      t.engine.pointer = .port .mp ∧
      (∀ n, t.slot n = ⟨(match (s.store.slot n).image with
        | some e => .occupied e
        | none => .free), (s.store.slot n).worn, (s.store.slot n).retireMark⟩) ∧
      (∀ b, t.spillCount b = ((List.range 256).filter fun i => match (s.store.slot (4096 + i)).image with
        | some e => decide (homeBucket e.id = b)
        | none => false).length) ∧
      (∀ n, n ∈ t.engine.clearDue ↔ ∃ e, (s.store.slot n).image = some e ∧
        (e.state = .retiring ∨ (s.store.slot n).retireMark = true)) ∧
      rising t.engine.clearDue = true ∧ t.mp = s.mp ∧ t.tp0 = s.tp0 ∧ t.tp1 = s.tp1 ∧ t.inhibited = s.inhibited

/-- A device that was never used, given power, restored and opened, is the state after reset: start counter 1, every block at its
start-up values, the factory class records (R28, R115, R118). The state after reset is the model's choice of run (log 4). -/
def Obligations.FactoryDeviceStartsAtReset : Prop :=
  exec .powerOn State.factory = .next { State.factory with phase := .starting } ∧
  exec .startUpRestore { State.factory with phase := .starting } = .next { State.factory with phase := .settled } ∧
  exec .restoreComplete { State.factory with phase := .settled } = .next State.reset ∧
  State.reset.store.startCounter = 1 ∧ State.reset.time = ⟨0, none, 0, 0⟩ ∧
  (∀ c, State.reset.classOf c = ⟨true, false, true, true, false, false, 600, 3600⟩) ∧
  (∀ p, State.reset.summary p = 0x88#8)

/-! ### Rules of the whole machine -/

/-- The durable store changes only at completions, at a loss of power, at a fall of RESET_N and in restore; no other command
touches it; and no command whatever takes a wear mark off a slot of it (R15, R99, R109). That the store changes at the completion,
not while a commit is in progress, is the model's reading (log 8); a fall of RESET_N writes it by the operand of log 20. -/
def Obligations.DurableStoreIsGuarded : Prop :=
  (∀ (c : Instr) (s t : State), writesStore c = false → exec c s = .next t → t.store = s.store) ∧
  (∀ (c : Instr) (s t : State) (n : Nat), exec c s = .next t → (s.store.slot n).worn = true →
    (t.store.slot n).worn = true)

/-- The hold clock is never set back and device time is never unset except by a start-up or a loss of power; apart from those only
Set Time and the second event change device time, and only the second event changes the hold clock (R44, R50). -/
def Obligations.TimeMovesOnlyAsTheRulesSay : Prop :=
  ∀ (c : Instr) (s t : State), restarts c = false → exec c s = .next t →
    s.time.holdClock ≤ maxSeconds →
    (s.time.holdClock ≤ t.time.holdClock ∧ (s.time.deviceTime.isSome = true → t.time.deviceTime.isSome = true)) ∧
    (c ≠ .secondEvent → t.time.holdClock = s.time.holdClock) ∧
    (c ≠ .secondEvent → c ≠ .setTime → t.time.deviceTime = s.time.deviceTime)

/-! ### Invariants -/

/-- The state after reset meets every invariant stated here. That state is the model's choice of run and of pin levels (logs 4
and 5), and the canonical form is the model's own (log 30). -/
def Obligations.ResetMeetsTheInvariants : Prop :=
  State.reset.canonical ∧ State.reset.withinBounds ∧ State.reset.marksSettled ∧ State.reset.accounted ∧ State.reset.tableSound

/-- Every step keeps every numbered store in canonical form (the model's own, log 30) and the clear-due list in ascending slot order,
each slot once (R25). -/
def Obligations.StepKeepsCanonicalForm : Prop :=
  ∀ s t : State, s.canonical → step s = .next t → t.canonical

/-- Every step keeps the request queues at 4, the response places at 4, the commit queue at 16, the batch buffer at 24, the
cursor at 4,352, the divider below 32,768, both counts of seconds at 4,294,967,295, the start counter below 65,536, the generations
of the hold places at 255, and the use count at 65,535 and the revision at 255 in every image the machine holds, working, durable,
staged, in progress or queued (R42 to R44, R50, R73, R101, R115, R139, R157, R178, R181, Table 1-1). The books and the sound table,
which every step keeps too (StepKeepsTheBooks, StepKeepsTheTableSound), put each spill count within 256, the scan's commits in
flight within 16, and its counts of retired, marked, skipped and rehomed entries within 4,352, 4,352, 4,352 and 256 (R17, R157). -/
def Obligations.StepKeepsEveryBound : Prop :=
  (∀ s t : State, s.withinBounds → step s = .next t → t.withinBounds) ∧
  (∀ s : State, s.accounted → s.tableSound → s.countsWithin)

/-- Every step keeps move-target marks out of a settled or running device and out of the store while a commit is in progress,
and never leaves two. The spec puts a mark in the store during a MOVE (R112, Table 6-2); the model makes a MOVE's three updates at
its completion, and only a loss of power shows them apart (DEDUCED, log 8), so this invariant is the model's own. -/
def Obligations.StepKeepsMarksSettled : Prop :=
  ∀ s t : State, s.marksSettled → step s = .next t → t.marksSettled

/-- Every step keeps the books: the commit in progress is the head of the queue; the scan's commits in flight are the queued
commits of scan origin, at most 16; no slot that the cursor has passed is counted twice, and none but a spill slot as rehomed; and
the reserved places of every port are exactly the responses and notices it waits for, so that a
reservation always ends in a fill or in a start-up (R99, R101, R102, R157, R163, R166, R167, R181). -/
def Obligations.StepKeepsTheBooks : Prop :=
  ∀ s t : State, s.accounted → step s = .next t → t.accounted

/-- Every step keeps the table sound: while intake is open the working table is the one in the store; no two OCCUPIED slots hold
one token ID; each bucket's spill count is the number of its OCCUPIED spill slots; every live hold refers to an OCCUPIED slot, and
the held units of a metered entry are within its balance; the RESERVED slots are those that queued commits and the batch hold; each
entry has at most one commit queued or in progress, a batch's own included; an entry is clear due exactly while it is RETIRING with
no open hold; and in every phase the store is sound and stays so when the work in progress ends or is cut off (R1, R10, R14, R17 to
R19, R23, R25, R67, R76, R101, R108, R112, R151). That the store changes only when a work ends is the model's reading (log 8), and
so is a PROMOTE that waits for the STAGE_WRITEs of locked entries and may follow those of INSERT items in the queue (log 31). -/
def Obligations.StepKeepsTheTableSound : Prop :=
  ∀ s t : State, s.canonical → s.marksSettled → s.accounted → s.tableSound → step s = .next t → t.tableSound
end

