-- ==== Sys2Proof/Laws/State.lean ====
section
/-! SUPPORT. One lemma per field for each update of the state, true by rfl and simp: no later proof unfolds an update. -/

namespace Sys2Proof.Machine

variable (s : State)


/-! ### setPort -/

@[simp] theorem State.setPort_engine (p : Port) (x : PortState) : (s.setPort p x).engine = s.engine := by cases p <;> rfl
@[simp] theorem State.setPort_holds (p : Port) (x : PortState) : (s.setPort p x).holds = s.holds := by cases p <;> rfl
@[simp] theorem State.setPort_commits (p : Port) (x : PortState) : (s.setPort p x).commits = s.commits := by cases p <;> rfl
@[simp] theorem State.setPort_store (p : Port) (x : PortState) : (s.setPort p x).store = s.store := by cases p <;> rfl
@[simp] theorem State.setPort_batch (p : Port) (x : PortState) : (s.setPort p x).batch = s.batch := by cases p <;> rfl
@[simp] theorem State.setPort_scan (p : Port) (x : PortState) : (s.setPort p x).scan = s.scan := by cases p <;> rfl
@[simp] theorem State.setPort_time (p : Port) (x : PortState) : (s.setPort p x).time = s.time := by cases p <;> rfl
@[simp] theorem State.setPort_phase (p : Port) (x : PortState) : (s.setPort p x).phase = s.phase := by cases p <;> rfl
@[simp] theorem State.setPort_resetLow (p : Port) (x : PortState) : (s.setPort p x).resetLow = s.resetLow := by cases p <;> rfl
@[simp] theorem State.setPort_inhibited (p : Port) (x : PortState) : (s.setPort p x).inhibited = s.inhibited := by cases p <;> rfl
@[simp] theorem State.setPort_freeIndex (p : Port) (x : PortState) : (s.setPort p x).freeIndex = s.freeIndex := by cases p <;> rfl
@[simp] theorem State.setPort_pending (p : Port) (x : PortState) : (s.setPort p x).pending = s.pending := by cases p <;> rfl

/-- What a port reads after a port was written. -/
theorem State.port_setPort (p q : Port) (x : PortState) :
    (s.setPort p x).port q = if q = p then x else s.port q := by
  cases p <;> cases q <;> rfl

@[simp] theorem State.port_setPort_self (p : Port) (x : PortState) : (s.setPort p x).port p = x := by cases p <;> rfl

/-- The later write of a port stands. -/
@[simp] theorem State.setPort_setPort (p : Port) (x y : PortState) : (s.setPort p x).setPort p y = s.setPort p y := by
  cases p <;> rfl

/-! ### setPointer -/

@[simp] theorem State.setPointer_mp (c : Candidate) : (s.setPointer c).mp = s.mp := rfl
@[simp] theorem State.setPointer_tp0 (c : Candidate) : (s.setPointer c).tp0 = s.tp0 := rfl
@[simp] theorem State.setPointer_tp1 (c : Candidate) : (s.setPointer c).tp1 = s.tp1 := rfl
@[simp] theorem State.setPointer_holds (c : Candidate) : (s.setPointer c).holds = s.holds := rfl
@[simp] theorem State.setPointer_commits (c : Candidate) : (s.setPointer c).commits = s.commits := rfl
@[simp] theorem State.setPointer_store (c : Candidate) : (s.setPointer c).store = s.store := rfl
@[simp] theorem State.setPointer_batch (c : Candidate) : (s.setPointer c).batch = s.batch := rfl
@[simp] theorem State.setPointer_scan (c : Candidate) : (s.setPointer c).scan = s.scan := rfl
@[simp] theorem State.setPointer_time (c : Candidate) : (s.setPointer c).time = s.time := rfl
@[simp] theorem State.setPointer_phase (c : Candidate) : (s.setPointer c).phase = s.phase := rfl
@[simp] theorem State.setPointer_resetLow (c : Candidate) : (s.setPointer c).resetLow = s.resetLow := rfl
@[simp] theorem State.setPointer_inhibited (c : Candidate) : (s.setPointer c).inhibited = s.inhibited := rfl
@[simp] theorem State.setPointer_freeIndex (c : Candidate) : (s.setPointer c).freeIndex = s.freeIndex := rfl
@[simp] theorem State.setPointer_pending (c : Candidate) : (s.setPointer c).pending = s.pending := rfl
@[simp] theorem State.setPointer_engine_slots (c : Candidate) : (s.setPointer c).engine.slots = s.engine.slots := rfl
@[simp] theorem State.setPointer_engine_spillCounts (c : Candidate) : (s.setPointer c).engine.spillCounts = s.engine.spillCounts := rfl
@[simp] theorem State.setPointer_engine_clearDue (c : Candidate) : (s.setPointer c).engine.clearDue = s.engine.clearDue := rfl
@[simp] theorem State.port_setPointer (c : Candidate) (q : Port) : (s.setPointer c).port q = s.port q := by cases q <;> rfl

/-! ### setSlot -/

@[simp] theorem State.setSlot_mp (n : Nat) (w : WorkingSlot) : (s.setSlot n w).mp = s.mp := rfl
@[simp] theorem State.setSlot_tp0 (n : Nat) (w : WorkingSlot) : (s.setSlot n w).tp0 = s.tp0 := rfl
@[simp] theorem State.setSlot_tp1 (n : Nat) (w : WorkingSlot) : (s.setSlot n w).tp1 = s.tp1 := rfl
@[simp] theorem State.setSlot_holds (n : Nat) (w : WorkingSlot) : (s.setSlot n w).holds = s.holds := rfl
@[simp] theorem State.setSlot_commits (n : Nat) (w : WorkingSlot) : (s.setSlot n w).commits = s.commits := rfl
@[simp] theorem State.setSlot_store (n : Nat) (w : WorkingSlot) : (s.setSlot n w).store = s.store := rfl
@[simp] theorem State.setSlot_batch (n : Nat) (w : WorkingSlot) : (s.setSlot n w).batch = s.batch := rfl
@[simp] theorem State.setSlot_scan (n : Nat) (w : WorkingSlot) : (s.setSlot n w).scan = s.scan := rfl
@[simp] theorem State.setSlot_time (n : Nat) (w : WorkingSlot) : (s.setSlot n w).time = s.time := rfl
@[simp] theorem State.setSlot_phase (n : Nat) (w : WorkingSlot) : (s.setSlot n w).phase = s.phase := rfl
@[simp] theorem State.setSlot_resetLow (n : Nat) (w : WorkingSlot) : (s.setSlot n w).resetLow = s.resetLow := rfl
@[simp] theorem State.setSlot_inhibited (n : Nat) (w : WorkingSlot) : (s.setSlot n w).inhibited = s.inhibited := rfl
@[simp] theorem State.setSlot_freeIndex (n : Nat) (w : WorkingSlot) : (s.setSlot n w).freeIndex = s.freeIndex := rfl
@[simp] theorem State.setSlot_pending (n : Nat) (w : WorkingSlot) : (s.setSlot n w).pending = s.pending := rfl
@[simp] theorem State.setSlot_engine_spillCounts (n : Nat) (w : WorkingSlot) : (s.setSlot n w).engine.spillCounts = s.engine.spillCounts := rfl
@[simp] theorem State.setSlot_engine_clearDue (n : Nat) (w : WorkingSlot) : (s.setSlot n w).engine.clearDue = s.engine.clearDue := rfl
@[simp] theorem State.setSlot_engine_pointer (n : Nat) (w : WorkingSlot) : (s.setSlot n w).engine.pointer = s.engine.pointer := rfl
@[simp] theorem State.port_setSlot (n : Nat) (w : WorkingSlot) (q : Port) : (s.setSlot n w).port q = s.port q := by cases q <;> rfl

/-! ### setSpillCount -/

@[simp] theorem State.setSpillCount_mp (b v : Nat) : (s.setSpillCount b v).mp = s.mp := rfl
@[simp] theorem State.setSpillCount_tp0 (b v : Nat) : (s.setSpillCount b v).tp0 = s.tp0 := rfl
@[simp] theorem State.setSpillCount_tp1 (b v : Nat) : (s.setSpillCount b v).tp1 = s.tp1 := rfl
@[simp] theorem State.setSpillCount_holds (b v : Nat) : (s.setSpillCount b v).holds = s.holds := rfl
@[simp] theorem State.setSpillCount_commits (b v : Nat) : (s.setSpillCount b v).commits = s.commits := rfl
@[simp] theorem State.setSpillCount_store (b v : Nat) : (s.setSpillCount b v).store = s.store := rfl
@[simp] theorem State.setSpillCount_batch (b v : Nat) : (s.setSpillCount b v).batch = s.batch := rfl
@[simp] theorem State.setSpillCount_scan (b v : Nat) : (s.setSpillCount b v).scan = s.scan := rfl
@[simp] theorem State.setSpillCount_time (b v : Nat) : (s.setSpillCount b v).time = s.time := rfl
@[simp] theorem State.setSpillCount_phase (b v : Nat) : (s.setSpillCount b v).phase = s.phase := rfl
@[simp] theorem State.setSpillCount_resetLow (b v : Nat) : (s.setSpillCount b v).resetLow = s.resetLow := rfl
@[simp] theorem State.setSpillCount_inhibited (b v : Nat) : (s.setSpillCount b v).inhibited = s.inhibited := rfl
@[simp] theorem State.setSpillCount_freeIndex (b v : Nat) : (s.setSpillCount b v).freeIndex = s.freeIndex := rfl
@[simp] theorem State.setSpillCount_pending (b v : Nat) : (s.setSpillCount b v).pending = s.pending := rfl
@[simp] theorem State.setSpillCount_engine_slots (b v : Nat) : (s.setSpillCount b v).engine.slots = s.engine.slots := rfl
@[simp] theorem State.setSpillCount_engine_clearDue (b v : Nat) : (s.setSpillCount b v).engine.clearDue = s.engine.clearDue := rfl
@[simp] theorem State.setSpillCount_engine_pointer (b v : Nat) : (s.setSpillCount b v).engine.pointer = s.engine.pointer := rfl
@[simp] theorem State.port_setSpillCount (b v : Nat) (q : Port) : (s.setSpillCount b v).port q = s.port q := by cases q <;> rfl

/-! ### joinClearDue -/

@[simp] theorem State.joinClearDue_mp (n : Nat) : (s.joinClearDue n).mp = s.mp := rfl
@[simp] theorem State.joinClearDue_tp0 (n : Nat) : (s.joinClearDue n).tp0 = s.tp0 := rfl
@[simp] theorem State.joinClearDue_tp1 (n : Nat) : (s.joinClearDue n).tp1 = s.tp1 := rfl
@[simp] theorem State.joinClearDue_holds (n : Nat) : (s.joinClearDue n).holds = s.holds := rfl
@[simp] theorem State.joinClearDue_commits (n : Nat) : (s.joinClearDue n).commits = s.commits := rfl
@[simp] theorem State.joinClearDue_store (n : Nat) : (s.joinClearDue n).store = s.store := rfl
@[simp] theorem State.joinClearDue_batch (n : Nat) : (s.joinClearDue n).batch = s.batch := rfl
@[simp] theorem State.joinClearDue_scan (n : Nat) : (s.joinClearDue n).scan = s.scan := rfl
@[simp] theorem State.joinClearDue_time (n : Nat) : (s.joinClearDue n).time = s.time := rfl
@[simp] theorem State.joinClearDue_phase (n : Nat) : (s.joinClearDue n).phase = s.phase := rfl
@[simp] theorem State.joinClearDue_resetLow (n : Nat) : (s.joinClearDue n).resetLow = s.resetLow := rfl
@[simp] theorem State.joinClearDue_inhibited (n : Nat) : (s.joinClearDue n).inhibited = s.inhibited := rfl
@[simp] theorem State.joinClearDue_freeIndex (n : Nat) : (s.joinClearDue n).freeIndex = s.freeIndex := rfl
@[simp] theorem State.joinClearDue_pending (n : Nat) : (s.joinClearDue n).pending = s.pending := rfl
@[simp] theorem State.joinClearDue_engine_slots (n : Nat) : (s.joinClearDue n).engine.slots = s.engine.slots := rfl
@[simp] theorem State.joinClearDue_engine_spillCounts (n : Nat) : (s.joinClearDue n).engine.spillCounts = s.engine.spillCounts := rfl
@[simp] theorem State.joinClearDue_engine_pointer (n : Nat) : (s.joinClearDue n).engine.pointer = s.engine.pointer := rfl
@[simp] theorem State.port_joinClearDue (n : Nat) (q : Port) : (s.joinClearDue n).port q = s.port q := by cases q <;> rfl

/-! ### leaveClearDue -/

@[simp] theorem State.leaveClearDue_mp (n : Nat) : (s.leaveClearDue n).mp = s.mp := rfl
@[simp] theorem State.leaveClearDue_tp0 (n : Nat) : (s.leaveClearDue n).tp0 = s.tp0 := rfl
@[simp] theorem State.leaveClearDue_tp1 (n : Nat) : (s.leaveClearDue n).tp1 = s.tp1 := rfl
@[simp] theorem State.leaveClearDue_holds (n : Nat) : (s.leaveClearDue n).holds = s.holds := rfl
@[simp] theorem State.leaveClearDue_commits (n : Nat) : (s.leaveClearDue n).commits = s.commits := rfl
@[simp] theorem State.leaveClearDue_store (n : Nat) : (s.leaveClearDue n).store = s.store := rfl
@[simp] theorem State.leaveClearDue_batch (n : Nat) : (s.leaveClearDue n).batch = s.batch := rfl
@[simp] theorem State.leaveClearDue_scan (n : Nat) : (s.leaveClearDue n).scan = s.scan := rfl
@[simp] theorem State.leaveClearDue_time (n : Nat) : (s.leaveClearDue n).time = s.time := rfl
@[simp] theorem State.leaveClearDue_phase (n : Nat) : (s.leaveClearDue n).phase = s.phase := rfl
@[simp] theorem State.leaveClearDue_resetLow (n : Nat) : (s.leaveClearDue n).resetLow = s.resetLow := rfl
@[simp] theorem State.leaveClearDue_inhibited (n : Nat) : (s.leaveClearDue n).inhibited = s.inhibited := rfl
@[simp] theorem State.leaveClearDue_freeIndex (n : Nat) : (s.leaveClearDue n).freeIndex = s.freeIndex := rfl
@[simp] theorem State.leaveClearDue_pending (n : Nat) : (s.leaveClearDue n).pending = s.pending := rfl
@[simp] theorem State.leaveClearDue_engine_slots (n : Nat) : (s.leaveClearDue n).engine.slots = s.engine.slots := rfl
@[simp] theorem State.leaveClearDue_engine_spillCounts (n : Nat) : (s.leaveClearDue n).engine.spillCounts = s.engine.spillCounts := rfl
@[simp] theorem State.leaveClearDue_engine_pointer (n : Nat) : (s.leaveClearDue n).engine.pointer = s.engine.pointer := rfl
@[simp] theorem State.port_leaveClearDue (n : Nat) (q : Port) : (s.leaveClearDue n).port q = s.port q := by cases q <;> rfl

/-! ### setPlace -/

@[simp] theorem State.setPlace_mp (n : Nat) (x : HoldPlace) : (s.setPlace n x).mp = s.mp := rfl
@[simp] theorem State.setPlace_tp0 (n : Nat) (x : HoldPlace) : (s.setPlace n x).tp0 = s.tp0 := rfl
@[simp] theorem State.setPlace_tp1 (n : Nat) (x : HoldPlace) : (s.setPlace n x).tp1 = s.tp1 := rfl
@[simp] theorem State.setPlace_engine (n : Nat) (x : HoldPlace) : (s.setPlace n x).engine = s.engine := rfl
@[simp] theorem State.setPlace_commits (n : Nat) (x : HoldPlace) : (s.setPlace n x).commits = s.commits := rfl
@[simp] theorem State.setPlace_store (n : Nat) (x : HoldPlace) : (s.setPlace n x).store = s.store := rfl
@[simp] theorem State.setPlace_batch (n : Nat) (x : HoldPlace) : (s.setPlace n x).batch = s.batch := rfl
@[simp] theorem State.setPlace_scan (n : Nat) (x : HoldPlace) : (s.setPlace n x).scan = s.scan := rfl
@[simp] theorem State.setPlace_time (n : Nat) (x : HoldPlace) : (s.setPlace n x).time = s.time := rfl
@[simp] theorem State.setPlace_phase (n : Nat) (x : HoldPlace) : (s.setPlace n x).phase = s.phase := rfl
@[simp] theorem State.setPlace_resetLow (n : Nat) (x : HoldPlace) : (s.setPlace n x).resetLow = s.resetLow := rfl
@[simp] theorem State.setPlace_inhibited (n : Nat) (x : HoldPlace) : (s.setPlace n x).inhibited = s.inhibited := rfl
@[simp] theorem State.setPlace_freeIndex (n : Nat) (x : HoldPlace) : (s.setPlace n x).freeIndex = s.freeIndex := rfl
@[simp] theorem State.setPlace_pending (n : Nat) (x : HoldPlace) : (s.setPlace n x).pending = s.pending := rfl
@[simp] theorem State.port_setPlace (n : Nat) (x : HoldPlace) (q : Port) : (s.setPlace n x).port q = s.port q := by cases q <;> rfl

/-! ### joinQueue -/

@[simp] theorem State.joinQueue_mp (c : Commit) : (s.joinQueue c).mp = s.mp := rfl
@[simp] theorem State.joinQueue_tp0 (c : Commit) : (s.joinQueue c).tp0 = s.tp0 := rfl
@[simp] theorem State.joinQueue_tp1 (c : Commit) : (s.joinQueue c).tp1 = s.tp1 := rfl
@[simp] theorem State.joinQueue_engine (c : Commit) : (s.joinQueue c).engine = s.engine := rfl
@[simp] theorem State.joinQueue_holds (c : Commit) : (s.joinQueue c).holds = s.holds := rfl
@[simp] theorem State.joinQueue_store (c : Commit) : (s.joinQueue c).store = s.store := rfl
@[simp] theorem State.joinQueue_batch (c : Commit) : (s.joinQueue c).batch = s.batch := rfl
@[simp] theorem State.joinQueue_scan (c : Commit) : (s.joinQueue c).scan = s.scan := rfl
@[simp] theorem State.joinQueue_time (c : Commit) : (s.joinQueue c).time = s.time := rfl
@[simp] theorem State.joinQueue_phase (c : Commit) : (s.joinQueue c).phase = s.phase := rfl
@[simp] theorem State.joinQueue_resetLow (c : Commit) : (s.joinQueue c).resetLow = s.resetLow := rfl
@[simp] theorem State.joinQueue_inhibited (c : Commit) : (s.joinQueue c).inhibited = s.inhibited := rfl
@[simp] theorem State.joinQueue_freeIndex (c : Commit) : (s.joinQueue c).freeIndex = s.freeIndex := rfl
@[simp] theorem State.joinQueue_pending (c : Commit) : (s.joinQueue c).pending = s.pending := rfl
@[simp] theorem State.port_joinQueue (c : Commit) (q : Port) : (s.joinQueue c).port q = s.port q := by cases q <;> rfl

/-! ### setBatch -/

@[simp] theorem State.setBatch_mp (b : Batch) : (s.setBatch b).mp = s.mp := rfl
@[simp] theorem State.setBatch_tp0 (b : Batch) : (s.setBatch b).tp0 = s.tp0 := rfl
@[simp] theorem State.setBatch_tp1 (b : Batch) : (s.setBatch b).tp1 = s.tp1 := rfl
@[simp] theorem State.setBatch_engine (b : Batch) : (s.setBatch b).engine = s.engine := rfl
@[simp] theorem State.setBatch_holds (b : Batch) : (s.setBatch b).holds = s.holds := rfl
@[simp] theorem State.setBatch_commits (b : Batch) : (s.setBatch b).commits = s.commits := rfl
@[simp] theorem State.setBatch_store (b : Batch) : (s.setBatch b).store = s.store := rfl
@[simp] theorem State.setBatch_scan (b : Batch) : (s.setBatch b).scan = s.scan := rfl
@[simp] theorem State.setBatch_time (b : Batch) : (s.setBatch b).time = s.time := rfl
@[simp] theorem State.setBatch_phase (b : Batch) : (s.setBatch b).phase = s.phase := rfl
@[simp] theorem State.setBatch_resetLow (b : Batch) : (s.setBatch b).resetLow = s.resetLow := rfl
@[simp] theorem State.setBatch_inhibited (b : Batch) : (s.setBatch b).inhibited = s.inhibited := rfl
@[simp] theorem State.setBatch_freeIndex (b : Batch) : (s.setBatch b).freeIndex = s.freeIndex := rfl
@[simp] theorem State.setBatch_pending (b : Batch) : (s.setBatch b).pending = s.pending := rfl
@[simp] theorem State.port_setBatch (b : Batch) (q : Port) : (s.setBatch b).port q = s.port q := by cases q <;> rfl

/-! ### setScan -/

@[simp] theorem State.setScan_mp (x : Scan) : (s.setScan x).mp = s.mp := rfl
@[simp] theorem State.setScan_tp0 (x : Scan) : (s.setScan x).tp0 = s.tp0 := rfl
@[simp] theorem State.setScan_tp1 (x : Scan) : (s.setScan x).tp1 = s.tp1 := rfl
@[simp] theorem State.setScan_engine (x : Scan) : (s.setScan x).engine = s.engine := rfl
@[simp] theorem State.setScan_holds (x : Scan) : (s.setScan x).holds = s.holds := rfl
@[simp] theorem State.setScan_commits (x : Scan) : (s.setScan x).commits = s.commits := rfl
@[simp] theorem State.setScan_store (x : Scan) : (s.setScan x).store = s.store := rfl
@[simp] theorem State.setScan_batch (x : Scan) : (s.setScan x).batch = s.batch := rfl
@[simp] theorem State.setScan_time (x : Scan) : (s.setScan x).time = s.time := rfl
@[simp] theorem State.setScan_phase (x : Scan) : (s.setScan x).phase = s.phase := rfl
@[simp] theorem State.setScan_resetLow (x : Scan) : (s.setScan x).resetLow = s.resetLow := rfl
@[simp] theorem State.setScan_inhibited (x : Scan) : (s.setScan x).inhibited = s.inhibited := rfl
@[simp] theorem State.setScan_freeIndex (x : Scan) : (s.setScan x).freeIndex = s.freeIndex := rfl
@[simp] theorem State.setScan_pending (x : Scan) : (s.setScan x).pending = s.pending := rfl
@[simp] theorem State.port_setScan (x : Scan) (q : Port) : (s.setScan x).port q = s.port q := by cases q <;> rfl

/-! ### ended -/

@[simp] theorem State.ended_mp (rest : List Commit) (store : Store) : (s.ended rest store).mp = s.mp := rfl
@[simp] theorem State.ended_tp0 (rest : List Commit) (store : Store) : (s.ended rest store).tp0 = s.tp0 := rfl
@[simp] theorem State.ended_tp1 (rest : List Commit) (store : Store) : (s.ended rest store).tp1 = s.tp1 := rfl
@[simp] theorem State.ended_engine (rest : List Commit) (store : Store) : (s.ended rest store).engine = s.engine := rfl
@[simp] theorem State.ended_holds (rest : List Commit) (store : Store) : (s.ended rest store).holds = s.holds := rfl
@[simp] theorem State.ended_batch (rest : List Commit) (store : Store) : (s.ended rest store).batch = s.batch := rfl
@[simp] theorem State.ended_scan (rest : List Commit) (store : Store) : (s.ended rest store).scan = s.scan := rfl
@[simp] theorem State.ended_time (rest : List Commit) (store : Store) : (s.ended rest store).time = s.time := rfl
@[simp] theorem State.ended_phase (rest : List Commit) (store : Store) : (s.ended rest store).phase = s.phase := rfl
@[simp] theorem State.ended_resetLow (rest : List Commit) (store : Store) : (s.ended rest store).resetLow = s.resetLow := rfl
@[simp] theorem State.ended_inhibited (rest : List Commit) (store : Store) : (s.ended rest store).inhibited = s.inhibited := rfl
@[simp] theorem State.ended_freeIndex (rest : List Commit) (store : Store) : (s.ended rest store).freeIndex = s.freeIndex := rfl
@[simp] theorem State.ended_pending (rest : List Commit) (store : Store) : (s.ended rest store).pending = s.pending := rfl
@[simp] theorem State.port_ended (rest : List Commit) (store : Store) (q : Port) : (s.ended rest store).port q = s.port q := by cases q <;> rfl

/-! ### What the written field reads -/

@[simp] theorem State.setPointer_engine_pointer (c : Candidate) : (s.setPointer c).engine.pointer = c := rfl
@[simp] theorem State.setBatch_batch (b : Batch) : (s.setBatch b).batch = b := rfl
@[simp] theorem State.setScan_scan (x : Scan) : (s.setScan x).scan = x := rfl
@[simp] theorem State.joinQueue_commits (c : Commit) : (s.joinQueue c).commits = ⟨s.commits.queue ++ [c], s.commits.work⟩ := rfl
@[simp] theorem State.ended_commits (rest : List Commit) (st : Store) : (s.ended rest st).commits = ⟨rest, none⟩ := rfl
@[simp] theorem State.ended_store (rest : List Commit) (st : Store) : (s.ended rest st).store = st := rfl

end Sys2Proof.Machine
end

