-- ==== Sys2Proof/Laws/Table.lean ====
section
/-! SUPPORT. The laws of the numbered stores: what reads after a write, and that a write keeps the canonical form; and the
rising lists of the clear-due list. -/

namespace Sys2Proof.Machine

variable {α : Type} {d : α} {t : Table α}

/-- An empty store reads the default everywhere. -/
@[simp] theorem Table.get_nil (d : α) (k : Nat) : Table.get d ([] : Table α) k = d := rfl

/-- A number taken off the list reads the default. -/
theorem Table.get_drop_self (d : α) (t : Table α) (k : Nat) : Table.get d (Table.drop k t) k = d := by
  induction t with
  | nil => rfl
  | cons x rest ih =>
    obtain ⟨j, v⟩ := x
    by_cases h : j = k
    · simpa [Table.drop, h] using ih
    · have : Table.drop k ((j, v) :: rest) = (j, v) :: Table.drop k rest := by simp [Table.drop, h]
      rw [this, Table.get, if_neg h, ih]

/-- Taking one number off the list leaves every other number as it was. -/
theorem Table.get_drop_other (d : α) (t : Table α) {k m : Nat} (h : m ≠ k) :
    Table.get d (Table.drop k t) m = Table.get d t m := by
  induction t with
  | nil => rfl
  | cons x rest ih =>
    obtain ⟨j, v⟩ := x
    by_cases hj : j = k
    · have : Table.drop k ((j, v) :: rest) = Table.drop k rest := by simp [Table.drop, hj]
      rw [this, ih, Table.get, if_neg (by omega)]
    · have : Table.drop k ((j, v) :: rest) = (j, v) :: Table.drop k rest := by simp [Table.drop, hj]
      rw [this, Table.get, Table.get, ih]

/-- A record placed for a number that reads the default is read back, and no other number changes. -/
theorem Table.get_place (d : α) (t : Table α) (k m : Nat) (v : α) (h : k ∉ Table.keys t) :
    Table.get d (Table.place k v t) m = if m = k then v else Table.get d t m := by
  induction t with
  | nil =>
    by_cases hm : m = k
    · simp [Table.place, Table.get, hm]
    · simp [Table.place, Table.get, hm, Ne.symm hm]
  | cons x rest ih =>
    obtain ⟨j, w⟩ := x
    simp only [Table.keys, List.map_cons, List.mem_cons, not_or] at h
    unfold Table.place
    split
    · by_cases hm : m = k
      · simp [Table.get, hm]
      · simp [Table.get, hm, Ne.symm hm]
    · by_cases hm : j = m
      · subst hm; simp [Table.get, Ne.symm h.1]
      · simp only [Table.get, if_neg hm]; exact ih h.2

/-- Numbers listed after one is taken off. -/
theorem Table.mem_keys_drop (t : Table α) (k m : Nat) : m ∈ Table.keys (Table.drop k t) ↔ m ∈ Table.keys t ∧ m ≠ k := by
  simp only [Table.keys, Table.drop, List.mem_map, List.mem_filter]
  constructor
  · rintro ⟨x, ⟨hx, hk⟩, rfl⟩
    exact ⟨⟨x, hx, rfl⟩, by simpa using hk⟩
  · rintro ⟨⟨x, hx, rfl⟩, hk⟩
    exact ⟨x, ⟨hx, by simpa using hk⟩, rfl⟩

/-- What a store reads after a write: the record written at its number, every other number as it was. -/
theorem Table.get_set [DecidableEq α] (d : α) (t : Table α) (k m : Nat) (v : α) :
    Table.get d (Table.set d t k v) m = if m = k then v else Table.get d t m := by
  unfold Table.set
  split
  · rename_i hv
    by_cases hm : m = k
    · subst hm; simp [Table.get_drop_self, hv]
    · simp [hm, Table.get_drop_other d t hm]
  · rw [Table.get_place _ _ _ _ _ (by simp [Table.mem_keys_drop])]
    by_cases hm : m = k
    · simp [hm]
    · simp [hm, Table.get_drop_other d t hm]

@[simp] theorem Table.get_set_self [DecidableEq α] (d : α) (t : Table α) (k : Nat) (v : α) :
    Table.get d (Table.set d t k v) k = v := by simp [Table.get_set]

/-- A write leaves every other number as it was. -/
theorem Table.get_set_other [DecidableEq α] (d : α) (t : Table α) {k m : Nat} (v : α) (h : m ≠ k) :
    Table.get d (Table.set d t k v) m = Table.get d t m := by simp [Table.get_set, h]

/-! ### Rising lists -/

/-- A rising list is a strictly sorted one. -/
theorem rising_iff (l : List Nat) : rising l = true ↔ l.Pairwise (· < ·) := by
  induction l with
  | nil => simp [rising]
  | cons a l ih =>
    cases l with
    | nil => simp [rising]
    | cons b rest =>
      simp only [rising, Bool.and_eq_true, decide_eq_true_eq, ih, List.pairwise_cons, List.mem_cons]
      constructor
      · rintro ⟨h, hb, hr⟩
        exact ⟨by rintro x (rfl | hx); exacts [h, h.trans (hb x hx)], hb, hr⟩
      · rintro ⟨h, hb, hr⟩
        exact ⟨h b (.inl rfl), hb, hr⟩

/-- Membership after an insertion. -/
@[simp] theorem mem_insertRising (k m : Nat) (l : List Nat) : m ∈ insertRising k l ↔ m = k ∨ m ∈ l := by
  induction l with
  | nil => simp [insertRising]
  | cons a rest ih =>
    unfold insertRising
    split
    · simp
    · split
      · rename_i h; subst h; simp
      · simp [ih]; tauto

/-- An insertion keeps a list rising. -/
theorem rising_insertRising (k : Nat) (l : List Nat) (h : rising l = true) : rising (insertRising k l) = true := by
  rw [rising_iff] at *
  induction l with
  | nil => simp [insertRising]
  | cons a rest ih =>
    obtain ⟨ha, hr⟩ := List.pairwise_cons.1 h
    unfold insertRising
    split
    · rename_i hk
      exact List.pairwise_cons.2 ⟨by rintro x hx; rcases List.mem_cons.1 hx with rfl | hx; exacts [hk, hk.trans (ha x hx)], h⟩
    · split
      · exact h
      · rename_i h1 h2
        refine List.pairwise_cons.2 ⟨?_, ih hr⟩
        intro x hx
        rcases (mem_insertRising k x rest).1 hx with rfl | hx
        · omega
        · exact ha x hx

/-- A part of a rising list is rising. -/
theorem rising_filter (p : Nat → Bool) (l : List Nat) (h : rising l = true) : rising (l.filter p) = true := by
  rw [rising_iff] at *; exact h.filter p

/-! ### The canonical form -/

theorem Table.keys_drop (t : Table α) (k : Nat) : Table.keys (Table.drop k t) = (Table.keys t).filter fun m => !(m == k) := by
  simp only [Table.keys, Table.drop, List.filter_map]; rfl

theorem Table.keys_place (t : Table α) (k : Nat) (v : α) (h : k ∉ Table.keys t) :
    Table.keys (Table.place k v t) = insertRising k (Table.keys t) := by
  induction t with
  | nil => rfl
  | cons x rest ih =>
    obtain ⟨j, w⟩ := x
    simp only [Table.keys, List.map_cons, List.mem_cons, not_or] at h
    simp only [Table.place, Table.keys, List.map_cons, insertRising]
    split
    · simp
    · rw [if_neg h.1]
      simp only [List.map_cons, List.cons.injEq, true_and]
      exact ih h.2

theorem Table.mem_place (t : Table α) (k : Nat) (v : α) (x : Nat × α) : x ∈ Table.place k v t ↔ x = (k, v) ∨ x ∈ t := by
  induction t with
  | nil => simp [Table.place]
  | cons y rest ih =>
    unfold Table.place
    split
    · simp
    · simp only [List.mem_cons, ih]; tauto

/-- Every write keeps the canonical form. -/
theorem Table.wf_set [DecidableEq α] (d : α) (t : Table α) (k : Nat) (v : α) (h : Table.wf d t = true) :
    Table.wf d (Table.set d t k v) = true := by
  simp only [Table.wf, Bool.and_eq_true, List.all_eq_true, Bool.not_eq_true', decide_eq_false_iff_not] at *
  unfold Table.set
  split
  · exact ⟨by rw [Table.keys_drop]; exact rising_filter _ _ h.1, fun x hx => h.2 x (List.mem_filter.1 hx).1⟩
  · rename_i hv
    refine ⟨?_, fun x hx => ?_⟩
    · rw [Table.keys_place _ _ _ (by simp [Table.mem_keys_drop]), Table.keys_drop]
      exact rising_insertRising _ _ (rising_filter _ _ h.1)
    · rcases (Table.mem_place _ _ _ _).1 hx with rfl | hx
      · exact hv
      · exact h.2 x (List.mem_filter.1 hx).1

@[simp] theorem Table.wf_nil [DecidableEq α] (d : α) : Table.wf d ([] : Table α) = true := rfl

/-- A number reads something else than the default only if it is listed. -/
theorem Table.mem_keys_of_get_ne (d : α) (t : Table α) (k : Nat) (h : Table.get d t k ≠ d) : k ∈ Table.keys t := by
  induction t with
  | nil => exact absurd rfl h
  | cons x rest ih =>
    obtain ⟨j, v⟩ := x
    by_cases hj : j = k
    · simp [Table.keys, hj]
    · rw [Table.get, if_neg hj] at h
      exact List.mem_cons_of_mem _ (ih h)

end Sys2Proof.Machine
end

