-- ==== Sys2Proof/Laws/Ops.lean ====
section
/-! SUPPORT. One lemma per shared operation that says what it does: the take of a request and how it ends, slots, hold
places, the durable store, the completion event. The provers cite these and leave the operations folded. -/

namespace Sys2Proof.Machine

variable (s : State)

/-! ### Ports -/

/-- The later pointer stands. -/
@[simp] theorem State.setPointer_setPointer (c d : Candidate) : (s.setPointer c).setPointer d = s.setPointer d := rfl

/-- A port is written the same way before and after the pointer moves. -/
theorem State.setPort_setPointer (p : Port) (x : PortState) (c : Candidate) :
    (s.setPointer c).setPort p x = (s.setPort p x).setPointer c := by cases p <;> rfl

/-- Writing back what a port holds changes nothing. -/
@[simp] theorem State.setPort_port (p : Port) : s.setPort p (s.port p) = s := by cases p <;> rfl

/-! ### A take -/

/-- A request is takeable when the arbiter grants its port and it is the head of the queue there (R178, R180). -/
theorem State.takeable_eq_some {s : State} {p : Port} {k : Kind} {r : Request} :
    s.takeable p k = some r ↔ s.granted = some (.port p) ∧ (∃ rest, (s.port p).requests = r :: rest) ∧ r.kind = k := by
  unfold State.takeable
  cases h : (s.port p).requests with
  | nil => simp
  | cons a rest =>
    by_cases hg : s.granted = some (.port p)
    · by_cases hk : a.kind = k
      · simp only [hg, hk, if_true, Option.some.injEq, true_and, List.cons.injEq]
        constructor
        · rintro rfl; exact ⟨⟨rest, rfl, rfl⟩, hk⟩
        · rintro ⟨⟨x, rfl, -⟩, -⟩; rfl
      · simp only [hg, hk, if_true, if_false, true_and, List.cons.injEq]
        constructor
        · rintro ⟨⟩
        · rintro ⟨⟨x, rfl, -⟩, h2⟩; exact absurd h2 hk
    · simp [hg]

/-- The kind of the request that a take removes. -/
theorem State.takeable_kind {s : State} {p : Port} {k : Kind} {r : Request} (h : s.takeable p k = some r) : r.kind = k :=
  (State.takeable_eq_some.1 h).2.2

/-- A request is taken only while intake is open (R26, R180). -/
theorem State.takeable_running {s : State} {p : Port} {k : Kind} {r : Request} (h : s.takeable p k = some r) :
    s.phase = .running := by
  by_contra hp
  simpa [State.granted, hp] using (State.takeable_eq_some.1 h).1

/-- What a take does where a request is takeable. -/
theorem State.take_of_takeable {s : State} {p : Port} {k : Kind} {r : Request} (h : s.takeable p k = some r)
    (body : Request → State → State) : s.take p k body = body r (s.dequeue p) := by simp [State.take, h]

/-- What a take does where none is. -/
theorem State.take_of_none {s : State} {p : Port} {k : Kind} (h : s.takeable p k = none)
    (body : Request → State → State) : s.take p k body = s := by simp [State.take, h]

/-- Everything a take can do: nothing, or its body on the head request and the state without it. -/
theorem State.take_cases {s : State} (p : Port) (k : Kind) (body : Request → State → State) :
    s.take p k body = s ∨ ∃ r, s.takeable p k = some r ∧ s.take p k body = body r (s.dequeue p) := by
  cases h : s.takeable p k with
  | none => exact .inl (State.take_of_none h body)
  | some r => exact .inr ⟨r, rfl, State.take_of_takeable h body⟩

/-- A take whose request is answered at once (R181). -/
@[simp] theorem State.dequeue_answer (p : Port) (r : Request) (status : Status) (payload : List Byte) :
    (s.dequeue p).answer p r status payload = s.answered p ⟨r.kind.code, r.tag, status, payload⟩ := by
  cases p <;> rfl

/-- A take whose request is accepted: its commit queued and its place reserved (R120). -/
@[simp] theorem State.dequeue_accept (p : Port) (r : Request) (c : Change) :
    (s.dequeue p).accept p r c = s.accepted p r.kind.code r.tag c := by
  cases p <;> rfl

/-- A take that answers after another change of the state that leaves ports and pointer alone. -/
theorem State.answer_eq_answered {t : State} {p : Port} (r : Request) (status : Status) (payload : List Byte)
    (u : State) (h : t = (u.setPort p { u.port p with requests := (u.port p).requests.tail }).setPointer
      (Candidate.port p).after) :
    t.answer p r status payload = u.answered p ⟨r.kind.code, r.tag, status, payload⟩ := by
  subst h; cases p <;> rfl

/-! What a take reads is what stood before it: the request's removal touches no part that a check looks at. -/

@[simp] theorem State.dequeue_engine_slots (p : Port) : (s.dequeue p).engine.slots = s.engine.slots := by cases p <;> rfl
@[simp] theorem State.dequeue_holds (p : Port) : (s.dequeue p).holds = s.holds := by cases p <;> rfl
@[simp] theorem State.dequeue_commits (p : Port) : (s.dequeue p).commits = s.commits := by cases p <;> rfl
@[simp] theorem State.dequeue_store (p : Port) : (s.dequeue p).store = s.store := by cases p <;> rfl
@[simp] theorem State.dequeue_batch (p : Port) : (s.dequeue p).batch = s.batch := by cases p <;> rfl
@[simp] theorem State.dequeue_scan (p : Port) : (s.dequeue p).scan = s.scan := by cases p <;> rfl
@[simp] theorem State.dequeue_time (p : Port) : (s.dequeue p).time = s.time := by cases p <;> rfl
@[simp] theorem State.dequeue_inhibited (p : Port) : (s.dequeue p).inhibited = s.inhibited := by cases p <;> rfl
@[simp] theorem State.dequeue_pending (p : Port) : (s.dequeue p).pending = s.pending := by cases p <;> rfl
@[simp] theorem State.dequeue_slot (p : Port) (n : Nat): (s.dequeue p).slot n = s.slot n := by cases p <;> rfl
@[simp] theorem State.dequeue_entryAt (p : Port) (n : Nat): (s.dequeue p).entryAt n = s.entryAt n := by cases p <;> rfl
@[simp] theorem State.dequeue_placeable (p : Port) (n : Nat): (s.dequeue p).placeable n = s.placeable n := by cases p <;> rfl
@[simp] theorem State.dequeue_spillCount (p : Port) (b : Nat): (s.dequeue p).spillCount b = s.spillCount b := by cases p <;> rfl
@[simp] theorem State.dequeue_lookup (p : Port) (id : List Byte): (s.dequeue p).lookup id = s.lookup id := by cases p <;> rfl
@[simp] theorem State.dequeue_foundOrReserved (p : Port) (id : List Byte): (s.dequeue p).foundOrReserved id = s.foundOrReserved id := by cases p <;> rfl
@[simp] theorem State.dequeue_placement (p : Port) (id : List Byte): (s.dequeue p).placement id = s.placement id := by cases p <;> rfl
@[simp] theorem State.dequeue_freeWay (p : Port) (id : List Byte): (s.dequeue p).freeWay id = s.freeWay id := by cases p <;> rfl
@[simp] theorem State.dequeue_classOf (p : Port) (c : Nat): (s.dequeue p).classOf c = s.classOf c := by cases p <;> rfl
@[simp] theorem State.dequeue_place (p : Port) (n : Nat): (s.dequeue p).place n = s.place n := by cases p <;> rfl
@[simp] theorem State.dequeue_liveHolds (p : Port) : (s.dequeue p).liveHolds = s.liveHolds := by cases p <;> rfl
@[simp] theorem State.dequeue_holdsOn (p : Port) (n : Nat): (s.dequeue p).holdsOn n = s.holdsOn n := by cases p <;> rfl
@[simp] theorem State.dequeue_openHolds (p : Port) (n : Nat): (s.dequeue p).openHolds n = s.openHolds n := by cases p <;> rfl
@[simp] theorem State.dequeue_heldUnits (p : Port) (n : Nat): (s.dequeue p).heldUnits n = s.heldUnits n := by cases p <;> rfl
@[simp] theorem State.dequeue_available (p : Port) (n : Nat) (e : Entry): (s.dequeue p).available n e = s.available n e := by cases p <;> rfl
@[simp] theorem State.dequeue_freePlace (p : Port) : (s.dequeue p).freePlace = s.freePlace := by cases p <;> rfl
@[simp] theorem State.dequeue_freeCommits (p : Port) : (s.dequeue p).freeCommits = s.freeCommits := by cases p <;> rfl
@[simp] theorem State.dequeue_isPending (p : Port) (n : Nat): (s.dequeue p).isPending n = s.isPending n := by cases p <;> rfl
@[simp] theorem State.dequeue_pendingCode (p : Port) (n : Nat): (s.dequeue p).pendingCode n = s.pendingCode n := by cases p <;> rfl
@[simp] theorem State.dequeue_pendingSettlement (p : Port) (n : Nat): (s.dequeue p).pendingSettlement n = s.pendingSettlement n := by cases p <;> rfl
@[simp] theorem State.dequeue_locked (p : Port) (n : Nat): (s.dequeue p).locked n = s.locked n := by cases p <;> rfl
@[simp] theorem State.dequeue_changing (p : Port) (n : Nat): (s.dequeue p).changing n = s.changing n := by cases p <;> rfl
@[simp] theorem State.dequeue_isRetiring (p : Port) (n : Nat) (e : Entry): (s.dequeue p).isRetiring n e = s.isRetiring n e := by cases p <;> rfl
@[simp] theorem State.dequeue_entryState (p : Port) (n : Nat) (e : Entry): (s.dequeue p).entryState n e = s.entryState n e := by cases p <;> rfl
@[simp] theorem State.dequeue_slotRetiring (p : Port) (n : Nat): (s.dequeue p).slotRetiring n = s.slotRetiring n := by cases p <;> rfl
@[simp] theorem State.dequeue_wornResident (p : Port) (n : Nat): (s.dequeue p).wornResident n = s.wornResident n := by cases p <;> rfl
@[simp] theorem State.dequeue_isClearDue (p : Port) (n : Nat): (s.dequeue p).isClearDue n = s.isClearDue n := by cases p <;> rfl
@[simp] theorem State.dequeue_underGuard (p : Port) (c : Nat): (s.dequeue p).underGuard c = s.underGuard c := by cases p <;> rfl
@[simp] theorem State.dequeue_classPending (p : Port) (c : Nat): (s.dequeue p).classPending c = s.classPending c := by cases p <;> rfl
@[simp] theorem State.dequeue_liveEntries (p : Port) : (s.dequeue p).liveEntries = s.liveEntries := by cases p <;> rfl
@[simp] theorem State.dequeue_spillOccupied (p : Port) : (s.dequeue p).spillOccupied = s.spillOccupied := by cases p <;> rfl
@[simp] theorem State.dequeue_wornSlots (p : Port) : (s.dequeue p).wornSlots = s.wornSlots := by cases p <;> rfl
@[simp] theorem State.dequeue_wornResidents (p : Port) : (s.dequeue p).wornResidents = s.wornResidents := by cases p <;> rfl
@[simp] theorem State.dequeue_clearDueCount (p : Port) : (s.dequeue p).clearDueCount = s.clearDueCount := by cases p <;> rfl
@[simp] theorem State.dequeue_denial (p : Port) (q : Query) (n : Nat) (e : Entry): (s.dequeue p).denial q n e = s.denial q n e := by cases p <;> rfl
@[simp] theorem State.dequeue_verdict (p : Port) (q : Query) (id : List Byte): (s.dequeue p).verdict q id = s.verdict q id := by cases p <;> rfl
@[simp] theorem State.dequeue_checkHandle (p : Port) (q : Port) (h : Handle): (s.dequeue p).checkHandle q h = s.checkHandle q h := by cases p <;> rfl
@[simp] theorem State.dequeue_secondsTo (p : Port) (v : Nat): (s.dequeue p).secondsTo v = s.secondsTo v := by cases p <;> rfl
@[simp] theorem State.dequeue_validate (p : Port) (b : Bool) (x : Item): (s.dequeue p).validate b x = s.validate b x := by cases p <;> rfl
@[simp] theorem State.dequeue_settleRefusal (p : Port) (h : Hold) (u : Nat): (s.dequeue p).settleRefusal h u = s.settleRefusal h u := by cases p <;> rfl

/-- A request that is not at once answered: a place reserved after an answer (Apply, Start Scan). -/
theorem State.answered_reserve (x : Response) (notice tag : Byte) :
    (s.answered .mp x).reserve .mp notice tag = s.answeredWithNotice x notice tag := rfl

/-- Everything a fill of a reserved place can do: nothing, or one place of that kind and tag becomes filled (R181). -/
theorem State.fillReserved_cases {s : State} (p : Port) (kind tag : Byte) (status : Status) (payload : List Byte) :
    s.fillReserved p kind tag status payload = s ∨
      ((kind, tag) ∈ (s.port p).reserved ∧ s.fillReserved p kind tag status payload = s.setPort p { s.port p with
        filled := (s.port p).filled ++ [⟨kind, tag, status, payload⟩]
        reserved := (s.port p).reserved.erase (kind, tag) }) := by
  by_cases h : (kind, tag) ∈ (s.port p).reserved
  · exact .inr ⟨h, by simp [State.fillReserved, h]⟩
  · exact .inl (by simp [State.fillReserved, h])

/-- Everything a report can do: nothing but to one port (R99). -/
theorem State.report_cases {s : State} (o : Origin) (status : Status) (payload : List Byte) :
    s.report o status payload = s ∨ ∃ p x, s.report o status payload = s.setPort p x := by
  cases o with
  | port p k t =>
    rcases State.fillReserved_cases p k t status payload (s := s) with h | ⟨-, h⟩
    · exact .inl h
    · exact .inr ⟨p, _, h⟩
  | scan => exact .inl rfl
  | clearDue => exact .inl rfl
  | batch => exact .inl rfl

/-! ### Slots and hold places -/

/-- What a slot reads after a slot was written. -/
theorem State.slot_setSlot (n m : Nat) (w : WorkingSlot) :
    (s.setSlot n w).slot m = if m = n then w else s.slot m := Table.get_set _ _ _ _ _

@[simp] theorem State.slot_setSlot_self (n : Nat) (w : WorkingSlot) : (s.setSlot n w).slot n = w := by
  simp [State.slot_setSlot]

/-- What a bucket's spill count reads after one was written. -/
theorem State.spillCount_setSpillCount (b c v : Nat) :
    (s.setSpillCount b v).spillCount c = if c = b then v else s.spillCount c := Table.get_set _ _ _ _ _

/-- What a hold place reads after one was written. -/
theorem State.place_setPlace (n m : Nat) (x : HoldPlace) :
    (s.setPlace n x).place m = if m = n then x else s.place m := Table.get_set _ _ _ _ _

@[simp] theorem State.place_setPlace_self (n : Nat) (x : HoldPlace) : (s.setPlace n x).place n = x := by
  simp [State.place_setPlace]

/-- What a slot of the durable store reads after one was written. -/
theorem Store.slot_setSlot (st : Store) (n m : Nat) (d : DurableSlot) :
    (st.setSlot n d).slot m = if m = n then d else st.slot m := Table.get_set _ _ _ _ _

@[simp] theorem Store.slot_setSlot_self (st : Store) (n : Nat) (d : DurableSlot) : (st.setSlot n d).slot n = d := by
  simp [Store.slot_setSlot]

@[simp] theorem Store.classes_setSlot (st : Store) (n : Nat) (d : DurableSlot) : (st.setSlot n d).classes = st.classes := rfl
@[simp] theorem Store.startCounter_setSlot (st : Store) (n : Nat) (d : DurableSlot) :
    (st.setSlot n d).startCounter = st.startCounter := rfl

/-- A slot write leaves ports, holds and classes alone, and the entry it writes is the one read (R12). -/
theorem State.entryAt_setSlot (n m : Nat) (w : WorkingSlot) :
    (s.setSlot n w).entryAt m = if m = n then w.content.entry? else s.entryAt m := by
  unfold State.entryAt; rw [State.slot_setSlot]; split <;> rfl

/-- A slot write keeps the directory in canonical form. -/
theorem State.wf_setSlot (n : Nat) (w : WorkingSlot) (h : Table.wf emptySlot s.engine.slots = true) :
    Table.wf emptySlot (s.setSlot n w).engine.slots = true := Table.wf_set _ _ _ _ h

/-- A write of a spill count keeps the counts in canonical form. -/
theorem State.wf_setSpillCount (b v : Nat) (h : Table.wf 0 s.engine.spillCounts = true) :
    Table.wf 0 (s.setSpillCount b v).engine.spillCounts = true := Table.wf_set _ _ _ _ h

/-- A place write keeps the hold table in canonical form. -/
theorem State.wf_setPlace (n : Nat) (x : HoldPlace) (h : Table.wf freshPlace s.holds = true) :
    Table.wf freshPlace (s.setPlace n x).holds = true := Table.wf_set _ _ _ _ h

/-- A slot write keeps the durable store in canonical form. -/
theorem Store.wf_setSlot (st : Store) (n : Nat) (d : DurableSlot) (h : Table.wf emptyDurable st.slots = true) :
    Table.wf emptyDurable (st.setSlot n d).slots = true := Table.wf_set _ _ _ _ h

/-- A completed class write keeps the class store in canonical form. -/
theorem Store.wf_makeClassCurrent (st : Store) (c : Nat) (r : ClassRecord) (h : Table.wf factoryClass st.classes = true) :
    Table.wf factoryClass (st.makeClassCurrent c r).classes = true := Table.wf_set _ _ _ _ h

/-- A failed class write keeps the class store in canonical form. -/
theorem Store.wf_spoilClass (st : Store) (c : Nat) (h : Table.wf factoryClass st.classes = true) :
    Table.wf factoryClass (st.spoilClass c).classes = true := Table.wf_set _ _ _ _ h

/-- What a class's positions read as after a class write. -/
theorem Store.classAt_setClass (st : Store) (c d : Nat) (x : ClassStore) :
    (st.setClass c x).classAt d = if d = c then x else st.classAt d := Table.get_set _ _ _ _ _

/-- A class write keeps the class store in canonical form. -/
theorem Store.wf_setClass (st : Store) (c : Nat) (x : ClassStore) (h : Table.wf factoryClass st.classes = true) :
    Table.wf factoryClass (st.setClass c x).classes = true := Table.wf_set _ _ _ _ h

/-- The record in use of a class is the one in its current position. -/
theorem State.classOf_eq (c : Nat) : s.classOf c = (s.store.classAt c).inUse := rfl

/-- Where a loss of power cuts a work short, the slots are as before or as after some of its updates, or worn (R108, R110). -/
theorem Work.slots_cut (w : Work) (cut : PowerCut) (st : Store) :
    (w.cut cut st).slots = st.slots ∨ (∃ k, (w.cut cut st).slots = (w.updates k st).slots) ∨
      (w.cut cut st).slots = (w.faulted st).slots := by
  cases cut with
  | beforeUpdates => exact .inl rfl
  | duringWrite => cases w <;> exact .inl rfl
  | afterWrite => cases w <;> exact .inl rfl
  | afterUpdates k =>
    by_cases hk : k = 0
    · exact .inl (by simp [Work.cut, hk])
    · exact .inr (.inl ⟨k, by simp [Work.cut, hk]⟩)
  | afterFault => exact .inr (.inr rfl)

/-- The end of a live hold (R74, R95). -/
theorem State.endHold_of_live {s : State} {n : Nat} {h : Hold} (hl : (s.place n).live = some h) (o : HoldOutcome) :
    s.endHold n o = s.closedHold n h o := by
  unfold State.endHold State.handOver State.closedHold
  rw [hl]
  simp only
  split <;> rfl

/-! ### The completion event -/

/-- A completion of the commit in progress while intake is open (R102). -/
theorem State.complete_running {s : State} {c : Commit} {rest : List Commit} {w : Work} (hp : s.phase = .running)
    (hc : s.commits = ⟨c :: rest, some w⟩) (isKind : Change → Bool) (hk : isKind c.change = true) (v : Verify)
    (effect : Commit → Work → Verify → State → State) :
    s.complete isKind v effect = effect c w (w.result v) (s.ended rest (w.complete v s.store)) := by
  simp [State.complete, hc, hk, hp, State.finishCommit, State.ended]

/-- A completion during a start-up: the durable effect alone (R116). -/
theorem State.complete_starting {s : State} {c : Commit} {rest : List Commit} {w : Work} (hp : s.phase ≠ .running)
    (hc : s.commits = ⟨c :: rest, some w⟩) (isKind : Change → Bool) (hk : isKind c.change = true) (v : Verify)
    (effect : Commit → Work → Verify → State → State) :
    s.complete isKind v effect = s.ended rest (w.complete v s.store) := by
  simp [State.complete, hc, hk, hp, State.finishCommit, State.ended]

/-- A completion while no commit is in progress (log 1). -/
theorem State.complete_of_no_work {s : State} (h : s.commits.work = none) (isKind : Change → Bool) (v : Verify)
    (effect : Commit → Work → Verify → State → State) : s.complete isKind v effect = s := by
  unfold State.complete; rw [h]; split <;> simp_all

/-- Everything a completion can do: nothing, or the commit in progress of this kind leaves with its durable effect, followed
while intake is open by its effect on the working state (R102, R116). -/
theorem State.complete_cases {s : State} (isKind : Change → Bool) (v : Verify)
    (effect : Commit → Work → Verify → State → State) :
    s.complete isKind v effect = s ∨ ∃ c rest w, s.commits = ⟨c :: rest, some w⟩ ∧ isKind c.change = true ∧
      s.complete isKind v effect =
        if s.phase = .running then effect c w (w.result v) (s.ended rest (w.complete v s.store))
        else s.ended rest (w.complete v s.store) := by
  by_cases hw : s.commits.work = none
  · exact .inl (State.complete_of_no_work hw isKind v effect)
  · obtain ⟨w, hw⟩ := Option.ne_none_iff_exists'.1 hw
    cases hq : s.commits.queue with
    | nil => exact .inl (by simp [State.complete, hq])
    | cons c rest =>
      have hc : s.commits = ⟨c :: rest, some w⟩ := by rw [← hq, ← hw]
      cases hk : isKind c.change with
      | false => exact .inl (by simp [State.complete, hc, hk])
      | true =>
        refine .inr ⟨c, rest, w, hc, hk, ?_⟩
        by_cases hp : s.phase = .running
        · rw [if_pos hp]; exact State.complete_running hp hc isKind hk v effect
        · rw [if_neg hp]; exact State.complete_starting hp hc isKind hk v effect

/-! ### The validation of a batch (R145) -/

/-- No items have been judged yet. -/
theorem State.passWith_nil (s : State) : s.passWith [] := fun _ _ _ _ h => nomatch h

/-- One more item passes, judged after the reservations of those before it. -/
theorem State.passWith_concat {s : State} {slots : List Nat} {x : Item} {n : Nat} (h : s.passWith slots)
    (hx : s.batch.items[slots.length]? = some x)
    (hn : (s.afterReservations (s.batch.items.zip slots)).judged x = .ok n) : s.passWith (slots ++ [n]) := by
  have hlen : slots.length < s.batch.items.length := by
    by_contra hc
    rw [List.getElem?_eq_none (by omega)] at hx
    cases hx
  have key : ∀ j, j ≤ slots.length → (s.batch.items.zip (slots ++ [n])).take j = (s.batch.items.zip slots).take j := by
    intro j hj
    simp only [List.zip, List.take_zipWith, List.take_append_of_le_length hj]
  intro j y m hy hm
  rcases Nat.lt_trichotomy j slots.length with hj | rfl | hj
  · rw [List.getElem?_append_left hj] at hm
    rw [key j (Nat.le_of_lt hj)]
    exact h j y m hy hm
  · rw [key _ (Nat.le_refl _), List.take_of_length_le (by simp)]
    rw [List.getElem?_concat_length] at hm
    cases hm
    rw [hx] at hy
    cases hy
    exact hn
  · rw [List.getElem?_eq_none (by simp; omega)] at hm
    cases hm

/-! ### The admission of a batch's commit (R23, R105, R151) -/

/-- A change of the batch has a pending subject where a locked entry that it is for is pending (R23). -/
theorem State.hasPendingSubject_iff {s : State} {c : Change} :
    s.hasPendingSubject c = true ↔ ∃ n ∈ s.batch.lockedSlots, c.isFor s.batch.lockedSlots n = true ∧ s.isPending n = true := by
  simp [State.hasPendingSubject]

/-- What the batch unit may be admitted with is what it has ready, for no pending entry (R23, R151). -/
theorem State.batchOffer_eq_some {s : State} {x : Change × Batch} :
    s.batchOffer = some x ↔ s.batch.offer = some x ∧ s.hasPendingSubject x.1 = false := by
  unfold State.batchOffer
  split
  · rename_i change batch h
    cases hp : s.hasPendingSubject change <;> simp [h]
    all_goals (rintro rfl; exact hp)
  · rename_i h
    simp [h]

/-- Everything an admission of the batch unit can do: nothing, or its commit joins the tail of the queue while intake is open, more
than four places are free and no clear-due entry can be offered (R105, R106). -/
theorem State.admitBatch_cases (s : State) :
    s.admitBatch = s ∨ ∃ change batch, s.admitsInternal = true ∧ s.clearDueOffer = none ∧
      s.batch.offer = some (change, batch) ∧ s.hasPendingSubject change = false ∧
      s.admitBatch = (s.setBatch batch).joinQueue ⟨change, .batch⟩ := by
  unfold State.admitBatch
  split
  · rename_i h
    split
    · rename_i change batch hb
      obtain ⟨ho, hp⟩ := State.batchOffer_eq_some.1 hb
      exact .inr ⟨change, batch, h.1, h.2, ho, hp, rfl⟩
    · exact .inl rfl
  · exact .inl rfl

end Sys2Proof.Machine
end

