-- ==== Sys2Proof/Laws/PerInstr.lean ====
section
/-! SUPPORT. Statements made command by command: a well-formed command that takes a request names a port that accepts the
request's kind (Table 10-2, R177). -/

namespace Sys2Proof.Laws.TakesWhereAccepted

open Sys2Proof.Machine

/-- A well-formed command that takes a request of a kind takes it from a port where Table 10-2 accepts that kind. -/
def Statement (i : Instr) : Prop :=
  i.wellFormed = true → ∀ p k, takenBy i = some (p, k) → k.acceptedOn p = true

/-- A command that takes no request. -/
theorem of_none {i : Instr} (h : takenBy i = none) : Statement i := by
  intro _ p k hk; rw [h] at hk; cases hk

/-- A command that takes a request of one kind from one port. -/
theorem of_some {i : Instr} {p : Port} {k : Kind} (h : takenBy i = some (p, k))
    (ha : i.wellFormed = true → k.acceptedOn p = true) : Statement i := by
  intro hw q l hk; rw [h] at hk; cases hk; exact ha hw

theorem request (p : Port) (x : Exchange) : Statement (.request p x) := of_none rfl
theorem fetch (p : Port) (x : Exchange) : Statement (.fetch p x) := of_none rfl
theorem portStatus (p : Port) (x : Exchange) : Statement (.portStatus p x) := of_none rfl
theorem present (p : Port) : Statement (.present p) := of_some rfl (by cases p <;> decide)
theorem draw (p : Port) : Statement (.draw p) := of_some rfl (by cases p <;> decide)
theorem extend (p : Port) : Statement (.extend p) := of_some rfl (by cases p <;> decide)
theorem settle (p : Port) : Statement (.settle p) := of_some rfl (by cases p <;> decide)
theorem release (p : Port) : Statement (.release p) := of_some rfl (by cases p <;> decide)
theorem forceRelease : Statement .forceRelease := of_some rfl (by decide)
theorem queryHold (p : Port) : Statement (.queryHold p) := of_some rfl (by cases p <;> decide)
theorem listHolds : Statement .listHolds := of_some rfl (by decide)
theorem readTime (p : Port) : Statement (.readTime p) := of_some rfl (by cases p <;> decide)
theorem readIdentity (p : Port) : Statement (.readIdentity p) := of_some rfl (by cases p <;> decide)
theorem status : Statement .status := of_some rfl (by decide)
theorem setTime : Statement .setTime := of_some rfl (by decide)
theorem setClass : Statement .setClass := of_some rfl (by decide)
theorem readClass : Statement .readClass := of_some rfl (by decide)
theorem insert : Statement .insert := of_some rfl (by decide)
theorem modify : Statement .modify := of_some rfl (by decide)
theorem topUp : Statement .topUp := of_some rfl (by decide)
theorem bar : Statement .bar := of_some rfl (by decide)
theorem unbar : Statement .unbar := of_some rfl (by decide)
theorem retire : Statement .retire := of_some rfl (by decide)
theorem relocate : Statement .relocate := of_some rfl (by decide)
theorem readEntry : Statement .readEntry := of_some rfl (by decide)
theorem stage : Statement .stage := of_some rfl (by decide)
theorem discard : Statement .discard := of_some rfl (by decide)
theorem readBatch : Statement .readBatch := of_some rfl (by decide)
theorem apply : Statement .apply := of_some rfl (by decide)
theorem startScan : Statement .startScan := of_some rfl (by decide)
theorem suspendScan : Statement .suspendScan := of_some rfl (by decide)
theorem resumeScan : Statement .resumeScan := of_some rfl (by decide)
theorem abortScan : Statement .abortScan := of_some rfl (by decide)
theorem reset : Statement .reset := of_some rfl (by decide)
theorem scanStep : Statement .scanStep := of_none rfl
theorem secondEvent : Statement .secondEvent := of_none rfl
theorem holdExpiry (place : Nat) : Statement (.holdExpiry place) := of_none rfl
theorem commitBegin : Statement .commitBegin := of_none rfl
theorem clearDueAdmission : Statement .clearDueAdmission := of_none rfl
theorem batchCommitAdmission : Statement .batchCommitAdmission := of_none rfl
theorem settlementCompletion (v : Verify) : Statement (.settlementCompletion v) := of_none rfl
theorem insertCompletion (v : Verify) : Statement (.insertCompletion v) := of_none rfl
theorem modifyCompletion (v : Verify) : Statement (.modifyCompletion v) := of_none rfl
theorem topUpCompletion (v : Verify) : Statement (.topUpCompletion v) := of_none rfl
theorem barCompletion (v : Verify) : Statement (.barCompletion v) := of_none rfl
theorem retireCompletion (v : Verify) : Statement (.retireCompletion v) := of_none rfl
theorem slotClearCompletion : Statement .slotClearCompletion := of_none rfl
theorem moveCompletion (v : Verify) : Statement (.moveCompletion v) := of_none rfl
theorem classWriteCompletion (v : Verify) : Statement (.classWriteCompletion v) := of_none rfl
theorem stageWriteCompletion (v : Verify) : Statement (.stageWriteCompletion v) := of_none rfl
theorem promoteCompletion : Statement .promoteCompletion := of_none rfl
theorem powerOn : Statement .powerOn := of_none rfl
theorem powerLoss (cut : PowerCut) : Statement (.powerLoss cut) := of_none rfl
theorem resetNFall (counterRaised : Bool) : Statement (.resetNFall counterRaised) := of_none rfl
theorem resetNRelease : Statement .resetNRelease := of_none rfl
theorem chgInhChange (asserted : Bool) : Statement (.chgInhChange asserted) := of_none rfl
theorem startUpRestore : Statement .startUpRestore := of_none rfl
theorem restoreComplete : Statement .restoreComplete := of_none rfl
theorem tbclkPeriod : Statement .tbclkPeriod := of_none rfl

end Sys2Proof.Laws.TakesWhereAccepted
end

