-- ==== Sys2Proof/Tests/Slice0.lean ====
section
/-! SUPPORT. Tests of the model: ill-formed commands that WellFormed refuses, the spec's own numbers and worked rows, and for
every statement with hypotheses a witness that meets them, clause by clause. -/

namespace Sys2Proof.Tests

open Sys2Proof Sys2Proof.Machine

-- One theorem at a time: a kernel evaluation in one thread each, all at once, would need many threads.
set_option Elab.async false

/-! ### Small states -/

/-- A token ID. -/
def tok : List Byte := [1#8, 2#8, 3#8, 4#8]
/-- Another one. -/
def tok2 : List Byte := [9#8, 9#8, 9#8, 9#8, 9#8]
/-- The first way of the home bucket of `tok`. -/
def home : Nat := 8 * homeBucket tok
/-- A metered entry of `tok`. -/
def card : Entry :=
  { id := tok, cls := 0, state := .active, validFrom := none, validUntil := none, balance := some 200, ceiling := some 100
    holdsLimit := 1, groupTag := some 1, useCount := 30, lastUse := none, revision := 11 }
/-- An entry of `tok2`. -/
def card2 : Entry := { card with id := tok2 }
/-- The state after reset with one entry in slot `home`. -/
def stocked (e : Entry) : State := State.reset.setSlot home ⟨.occupied e, false, false⟩
/-- A request at the head of a port's queue, with tag 07h. -/
def ask (p : Port) (k : Kind) (payload : List Byte) (s : State) : State :=
  s.setPort p { s.port p with requests := [⟨k, 7#8, payload⟩] }
/-- The request that `ask` queues. -/
def asked (k : Kind) (payload : List Byte) : Request := ⟨k, 7#8, payload⟩
/-- The request of `ask` is takeable. -/
def asks (p : Port) (k : Kind) (payload : List Byte) (s : State) : Bool :=
  decide ((ask p k payload s).takeable p k = some (asked k payload))
/-- An OPEN hold on the entry in slot `home`. -/
def hold (p : Port) (units : Nat) : Hold := ⟨1, p, home, units, 600, 3600, .opened, false⟩
/-- The state with a live hold of generation 1 in a place. -/
def holding (n : Nat) (h : Hold) (s : State) : State := s.setPlace n ⟨1, some h, none⟩
/-- The state with one commit in the queue, in progress with a work. -/
def working (c : Change) (o : Origin) (w : Work) (s : State) : State := { s with commits := ⟨[⟨c, o⟩], some w⟩ }
/-- The state with one commit waiting. -/
def queued (c : Change) (o : Origin) (s : State) : State := { s with commits := ⟨[⟨c, o⟩], none⟩ }
/-- An origin. -/
def byPort : Origin := .port .mp 0x25#8 7#8
/-- The next state of a command. -/
def after (c : Instr) (s : State) : State :=
  match exec c s with
  | .next t => t
  | .fault _ => s
  | .refused _ => s
/-- The response filled last on a port. -/
def answer (p : Port) (s : State) : Option Response := (s.port p).filled.getLast?

/-! ### WellFormed refuses an ill-formed command of each check -/

theorem test_wf_spare_bits_of_a_whole_byte : (Instr.request .mp ⟨true, [0xC1#8], 8, true⟩).wellFormed = false := by decide
theorem test_wf_spare_bits_with_select_low : (Instr.fetch .tp0 ⟨true, [0xC2#8], 3, false⟩).wellFormed = false := by decide
theorem test_wf_request_of_another_type : (Instr.request .mp ⟨true, [0xC2#8], 0, true⟩).wellFormed = false := by decide
theorem test_wf_fetch_of_another_type : (Instr.fetch .mp ⟨true, [0xC3#8], 0, true⟩).wellFormed = false := by decide
theorem test_wf_port_status_of_another_type : (Instr.portStatus .mp ⟨true, [0xC1#8], 0, true⟩).wellFormed = false := by decide
theorem test_wf_terminal_requests_on_mp :
    (Instr.draw .mp).wellFormed = false ∧ (Instr.extend .mp).wellFormed = false ∧ (Instr.settle .mp).wellFormed = false ∧
      (Instr.release .mp).wellFormed = false := by decide
theorem test_wf_expiry_of_place_32 : (Instr.holdExpiry 32).wellFormed = false ∧ (Instr.holdExpiry 31).wellFormed = true := by
  decide
theorem test_wf_power_cut_outside_the_updates :
    (Instr.powerLoss (.afterUpdates 0)).wellFormed = false ∧ (Instr.powerLoss (.afterUpdates 4)).wellFormed = false := by decide

/-! ### The spec's own numbers -/

/-- Table 1-3: the check string "123456789", home bucket 433, ways 3,464 to 3,471. -/
theorem test_crc_check_string :
    crc16 [0x31#8, 0x32#8, 0x33#8, 0x34#8, 0x35#8, 0x36#8, 0x37#8, 0x38#8, 0x39#8] = 0x29B1#16 := by decide +kernel

/-- The factory record of Table 2-1 as Table 10-6 lays it out: 0Dh, 0258h, 0E10h. -/
theorem test_factory_record_bytes : factoryRecord.bytes = [0x0D#8, 0x02#8, 0x58#8, 0x0E#8, 0x10#8] := by decide

/-- R175: after start-up, with nothing queued, the summary reads 88h: ready, 0 filled, 4 free, nothing reserved. -/
theorem test_summary_after_reset : State.reset.summary .tp1 = 0x88#8 := by decide

/-! ### Worked rows of the spec, each one step -/

/-- The response a command fills last on a port: its status and payload. -/
def reply (p : Port) (c : Instr) (s : State) : Option (Status × List Byte) :=
  (answer p (after c s)).map fun r => (r.status, r.payload)

/-- Section 11.1: class 2, start counter 4, device time set; entry C in its home bucket. -/
def post (clock : Nat) (e : Entry) : State :=
  { stocked { e with cls := 2 } with
    store := { (stocked card).store with
      startCounter := 4, classes := [(2, ⟨true, { factoryRecord with retireOnExhaustion := true }, factoryRecord, 0⟩)] }
    time := ⟨0, some 50000, clock, 0⟩ }
/-- Section 11.1, the hold that step 3 opens. -/
def holdC : Hold := ⟨4, .tp0, home, 100, 1600, 4600, .opened, false⟩

/-- Section 11.1 step 1: Present of 100 units, OK, class 2, 200 available, no window, revision 11. -/
theorem test_present_section_11_1 :
    reply .tp0 (.present .tp0) (ask .tp0 .present (idField tok ++ [0#8, 100#8]) (post 990 card))
      = some (.ok, [0#8, 0#8, 1#8, 2#8, 1#8, 0#8, 0#8, 0#8, 200#8, 0#8, 0#8, 0#8, 0#8, 0#8, 1#8, 11#8]) := by decide +kernel

/-- Section 11.1 step 3: handle (0, 1, 4), 100 units, lifetime 600 s. -/
theorem test_draw_section_11_1 :
    reply .tp0 (.draw .tp0) (ask .tp0 .draw (idField tok ++ [0#8, 100#8, 0#8]) (post 1000 card))
      = some (.ok, [0#8, 1#8, 0#8, 4#8, 0#8, 100#8, 0#8, 0#8, 0x02#8, 0x58#8]) := by decide +kernel

/-- Section 11.1 step 3: the hold in place 0. -/
theorem test_draw_opens_section_11_1 :
    (after (.draw .tp0) (ask .tp0 .draw (idField tok ++ [0#8, 100#8, 0#8]) (post 1000 card))).place 0
      = ⟨1, some holdC, none⟩ := by decide +kernel

/-- Section 11.1 step 5: 700 s remaining, limit flag no. -/
theorem test_extend_section_11_1 :
    reply .tp0 (.extend .tp0) (ask .tp0 .extend [0#8, 1#8, 0#8, 4#8, 0x02#8, 0x58#8] (holding 0 holdC (post 1500 card)))
      = some (.ok, [0#8, 0#8, 0x02#8, 0xBC#8, 0#8]) := by decide +kernel

/-- Section 11.1 step 7: the SETTLING hold counts against the holds limit of 1: reason 12. -/
theorem test_draw_hold_limit_section_11_1 :
    reply .tp1 (.draw .tp1) (ask .tp1 .draw (idField tok ++ [0#8, 50#8, 0#8])
      (queued (.settleHold home 0 73) byPort (holding 0 { holdC with state := .settling 73 } (post 2100 card))))
      = some (.denied, [12#8]) := by decide +kernel

/-- Section 11.1 step 8: 73 charged, balance 127, use count 31, revision 12, ACTIVE. -/
theorem test_settlement_section_11_1 :
    let s := holding 0 { holdC with state := .settling 73 } (post 2100 card)
    let s := s.setPort .tp0 { s.tp0 with reserved := [(0x13#8, 7#8)] }
    reply .tp0 (.settlementCompletion .ok) (after .commitBegin (queued (.settleHold home 0 73) (.port .tp0 0x13#8 7#8) s))
      = some (.ok, [0#8, 73#8, 0#8, 0#8, 0#8, 127#8, 0#8, 31#8, 12#8, 1#8]) := by decide +kernel

/-- Section 11.1 step 10: the old handle after the place was opened again: HOLD_CLOSED, SETTLED. -/
theorem test_query_old_handle_section_11_1 :
    reply .tp0 (.queryHold .tp0) (ask .tp0 .queryHold [0#8, 1#8, 0#8, 4#8]
      ((post 2102 card).setPlace 0 ⟨2, some { holdC with owner := .tp1, units := 50 }, some (1, .settled)⟩))
      = some (.holdClosed, [1#8]) := by decide +kernel

/-- Section 11.2 row 4b: a settlement that faults at the deadline: STORE_FAULT, hold state EXPIRED, nothing charged. -/
theorem test_settlement_fault_section_11_2 :
    let h : Hold := ⟨4, .tp1, home, 40, 3000, 3000, .settling 30, true⟩
    let s := (post 3000 { card with balance := some 90 }).setPlace 3 ⟨7, some h, none⟩
    let s := s.setPort .tp1 { s.tp1 with reserved := [(0x13#8, 7#8)] }
    let t := after (.settlementCompletion .fault) (after .commitBegin (queued (.settleHold home 3 30) (.port .tp1 0x13#8 7#8) s))
    (answer .tp1 t).map (·.payload) = some [3#8] ∧ t.place 3 = ⟨7, none, some (7, .expired)⟩ ∧ (t.slot home).worn = true := by
  decide +kernel

/-- Section 11.5, the table: power lost after the target write of the Relocate leaves W in 812; after the source clear, in 814. -/
theorem test_relocate_power_loss_section_11_5 :
    let st := State.reset.store.setSlot 812 { emptyDurable with image := some card, worn := true }
    (∀ k ∈ [0, 1], (((Work.moveImage 812 814 card).cut (.afterUpdates k) st).settle.slot 812)
      = { emptyDurable with image := some card, worn := true }) ∧
    (∀ k ∈ [2, 3], (((Work.moveImage 812 814 card).cut (.afterUpdates k) st).settle.slot 812) = { emptyDurable with worn := true } ∧
      (((Work.moveImage 812 814 card).cut (.afterUpdates k) st).settle.slot 814) = { emptyDurable with image := some card }) := by
  decide +kernel

/-- Chapter 4, two terminals and the last units, step 2: 10 of 20 units granted in part. -/
theorem test_draw_part_of_the_units :
    let s := holding 0 { holdC with units := 20 } (post 0 { card with balance := some 30, holdsLimit := 2, ceiling := none })
    let s : State := { s with store := { s.store with classes := [(2, ⟨true, { factoryRecord with partialDraws := true }, factoryRecord, 0⟩)] } }
    (reply .tp1 (.draw .tp1) (ask .tp1 .draw (idField tok ++ [0#8, 20#8, 1#8]) s)).map (fun x => x.2.drop 4)
      = some [0#8, 10#8, 0#8, 0#8, 0x02#8, 0x58#8] := by decide +kernel

/-- Chapter 4, one token, several faults: BARRED, EXPIRED and over its ceiling, and TP0 not in the mask. -/
theorem test_first_fault_is_reported :
    let s := stocked { card with state := .barred, validUntil := some 8000, ceiling := some 50, balance := some 40 }
    let s : State := { s with
      store := { s.store with classes := [(0, ⟨true, { factoryRecord with tp0Allowed := false }, factoryRecord, 0⟩)] }
      time := ⟨0, some 9000, 0, 0⟩ }
    (s.verdict ⟨.tp0, false, none, false⟩ tok, s.verdict ⟨.mp, false, none, false⟩ tok,
      s.verdict ⟨.tp1, true, some 60, false⟩ tok)
    = (let e : Entry := { card with state := .barred, validUntil := some 8000, ceiling := some 50, balance := some 40 }
       (.denied .portNotAllowed home e, .denied .barred home e, .denied .barred home e)) := by decide +kernel

/-- Chapter 3, a forced correction, step 4: TIME_BACKWARD with device time 50,000,100. -/
theorem test_set_time_backward :
    reply .mp .setTime (ask .mp .setTime (be 4 49996500 ++ [0#8]) { State.reset with time := ⟨0, some 50000100, 7320, 0⟩ })
      = some (.timeBackward, 1#8 :: be 4 50000100) := by decide +kernel

/-- Chapter 3, step 5: forced, OK, after and before. -/
theorem test_set_time_forced :
    reply .mp .setTime (ask .mp .setTime (be 4 49996500 ++ [1#8]) { State.reset with time := ⟨0, some 50000100, 7320, 0⟩ })
      = some (.ok, 1#8 :: be 4 49996500 ++ 1#8 :: be 4 50000100) := by decide +kernel

/-- Chapter 7, lowering a balance, step 1: HELD with the 25 held units. -/
theorem test_modify_below_held_units :
    let s := holding 1 { hold .tp1 10 with slot := home } (holding 0 (hold .tp0 15)
      (stocked { card with balance := some 50, holdsLimit := 2, revision := 4 }))
    reply .mp .modify (ask .mp .modify (modifyPayload tok (some 4) ⟨none, none, none, none, some (some 20), none, none⟩) s)
      = some (.held, [0#8, 0#8, 25#8]) := by decide +kernel

/-- Chapter 7, step 10: REVISION_MISMATCH, revision 6, ACTIVE. -/
theorem test_bar_with_an_old_revision :
    reply .mp .bar (ask .mp .bar (idField tok ++ [1#8, 5#8]) (stocked { card with balance := some 8, revision := 6 }))
      = some (.revisionMismatch, [6#8, 1#8]) := by decide +kernel

/-- Chapter 1, filling bucket 433: with eight ways taken the ninth goes to slot 4,096; with way 2 FREE, to slot 3,466. -/
theorem test_placement_in_bucket_433 :
    let check : List Byte := [0x31#8, 0x32#8, 0x33#8, 0x34#8, 0x35#8, 0x36#8, 0x37#8, 0x38#8, 0x39#8]
    let full := (waysOf 433).foldl (fun s n => s.setSlot n ⟨.occupied card, false, false⟩) State.reset
    full.placement check = some 4096 ∧ (full.setSlot 3466 emptySlot).placement check = some 3466 := by decide +kernel

/-- Chapter 9, a step that runs out of commit places, step 1: cursor 3,471, one commit in flight, skipped 7. -/
theorem test_scan_step_out_of_places :
    let e (n : Nat) (v : Option Nat) : Entry := { card with id := [byte n, 0#8, 0#8, 0#8], validUntil := v }
    let slots : List (Nat × WorkingSlot) :=
      [(3464, ⟨.occupied (e 1 (some 4000)), false, false⟩), (3465, ⟨.occupied (e 2 none), false, false⟩),
       (3467, ⟨.occupied (e 4 (some 4500)), false, false⟩), (3468, ⟨.occupied (e 5 (some 6000)), false, false⟩),
       (3469, ⟨.occupied { e 6 (some 3000) with cls := 6 }, false, false⟩),
       (3470, ⟨.occupied { e 7 (some 2500) with state := .retiring }, false, false⟩),
       (3471, ⟨.occupied (e 8 (some 2000)), false, false⟩)]
    let s : State := { State.reset with
      engine := { State.reset.engine with slots := slots }
      store := { State.reset.store with classes := [(6, ⟨true, { factoryRecord with guarded := true }, factoryRecord, 0⟩)] }
      commits := ⟨⟨.settleHold 3467 0 1, byPort⟩ :: List.replicate 14 ⟨.clearEntry 0, .clearDue⟩, none⟩
      scan := ⟨some .expiry, none, .running, 3464, some 5000, 0, 40, 3, 0, 5, 9#8⟩
      inhibited := true }
    let t := after .scanStep s
    t.scan = ⟨some .expiry, none, .running, 3471, some 5000, 1, 40, 3, 0, 7, 9#8⟩ ∧
      t.commits.queue[15]? = some ⟨.retireEntry 3464, .scan⟩ := by decide +kernel

/-- Section 11.4 step 5: Resume Scan while a batch is WRITING. -/
theorem test_resume_scan_during_apply :
    reply .mp .resumeScan (ask .mp .resumeScan [] { State.reset with
      batch := { emptyBatch with state := .writing }, scan := { idleScan with state := .suspended, cursor := 1200 } })
      = some (.applyInProgress, []) := by decide +kernel

/-- R42: the period that completes the count. -/
theorem test_divider_wraps :
    (after .tbclkPeriod { State.reset with time := ⟨32767, none, 9, 0⟩ }).time = ⟨0, none, 9, 1⟩ := by decide

/-- R43: both counts stop at 4,294,967,295. -/
theorem test_counts_of_seconds_stop :
    (after .secondEvent { State.reset with time := ⟨0, some 4294967295, 4294967295, 1⟩ }).time
      = ⟨0, some 4294967295, 4294967295, 0⟩ := by decide +kernel

/-- R176, R177: a Read Time request on TP0 is TAKEN, its verdict byte last. -/
theorem test_request_is_taken :
    let body : List Byte := [0x16#8, 7#8, 0#8]
    let t := after (.request .tp0 ⟨true, 0xC1#8 :: body ++ be 2 (crc16 body).toNat ++ [0#8], 0, true⟩) State.reset
    t.tp0.requests = [⟨.readTime, 7#8, []⟩] ∧ t.tp0.sdo = [0x88#8, 0xFF#8, 0xFF#8, 0xFF#8, 0xFF#8, 0xFF#8, 0xA0#8] := by
  decide +kernel

/-- R177: the same frame with a bad CRC is CHECK_ERROR and is not queued. -/
theorem test_request_with_bad_crc :
    let t := after (.request .tp0 ⟨true, [0xC1#8, 0x16#8, 7#8, 0#8, 0#8, 0#8, 0#8], 0, true⟩) State.reset
    t.tp0.requests = [] ∧ t.tp0.sdo.getLast? = some 0xA2#8 := by decide +kernel

/-- R182: a Fetch cut within the payload removes nothing; a whole one removes the response. -/
theorem test_fetch_removes_only_when_whole :
    let s := State.reset.setPort .mp { State.reset.mp with filled := [⟨0x23#8, 7#8, .ok, [1#8, 2#8]⟩] }
    (after (.fetch .mp ⟨true, 0xC2#8 :: List.replicate 7 0#8, 0, true⟩) s).mp.filled = s.mp.filled ∧
      (after (.fetch .mp ⟨true, 0xC2#8 :: List.replicate 8 0#8, 0, true⟩) s).mp.filled = [] := by decide +kernel

/-- Section 11.6 steps 2 and 3: the summary with three filled responses and the notice reserved (B9h: 3 filled, 4 free, reserved).
-/
theorem test_summary_section_11_6 :
    (State.reset.setPort .mp { State.reset.mp with
      filled := List.replicate 3 ⟨0x20#8, 7#8, .ok, []⟩, reserved := [(0xB1#8, 21#8)] }).summary .mp = 0xB9#8 := by decide

/-- R115: 65,535 starts are followed by 0. -/
theorem test_start_counter_wraps :
    (after .restoreComplete { State.reset with phase := .settled, store := ⟨[], [], 65535⟩ }).store.startCounter = 0 := by
  decide

/-! ### Witnesses: concrete states and operands that meet the hypotheses of each statement, clause by clause -/

theorem witness_StepRunsFrontCommand :
    ({ State.reset with pending := [.tbclkPeriod, .status] } : State).pending = .tbclkPeriod :: [.status] ∧
      State.reset.pending = [] := by decide

/-- A state in which each clause's event is out of turn. -/
theorem witness_OutOfTurnCommandsChangeNothing :
    (takenBy (.draw .tp0) = some (.tp0, .draw) ∧ State.reset.takeable .tp0 .draw = none) ∧
    State.reset.granted ≠ some .scan ∧ State.reset.time.secondsDue = 0 ∧
    (State.reset.place 0).live = none ∧ State.reset.commits.queue = [] ∧
    ({ State.reset with commits := ⟨List.replicate 12 ⟨.clearEntry 0, .clearDue⟩, none⟩ } : State).freeCommits ≤ 4 ∧
    State.reset.commits.work = none ∧ State.reset.phase ≠ .off ∧ State.factory.phase = .off ∧
    State.reset.phase ≠ .starting ∧ State.reset.phase ≠ .settled ∧
    ({ State.reset with resetLow := true } : State).resetLow = true := by
  decide

/-- Found in a way, found in spill, not found; placed in a way, in spill, nowhere (a bucket and a spill area that are full). -/
theorem witness_LookupAndPlacement :
    (stocked card).lookup tok = some home ∧
    (((State.reset.setSlot 4096 ⟨.occupied card, false, false⟩).setSpillCount (homeBucket tok) 1).lookup tok = some 4096) ∧
    State.reset.lookup tok = none ∧ State.reset.placement tok = some home ∧
    (((waysOf (homeBucket tok)).foldl (fun s n => s.setSlot n ⟨.free, true, false⟩) State.reset).placement tok = some 4096) := by
  decide +kernel

/-- Every way of the bucket and every spill slot WORN. -/
theorem witness_placement_finds_nothing :
    ({ State.reset with engine := { State.reset.engine with
      slots := (waysOf (homeBucket tok) ++ spillArea).map fun n => (n, ⟨.free, true, false⟩) } } : State).placement tok
        = none := by
  decide +kernel

theorem witness_VerdictIsTheFirstFailingCheck :
    State.reset.lookup tok = none ∧ (stocked card).lookup tok = some home ∧ (stocked card).entryAt home = some card ∧
      (stocked card).verdict ⟨.tp0, true, some 100, false⟩ tok = .positive home card ∧
      (stocked card).verdict ⟨.tp0, true, some 101, false⟩ tok = .denied .overCeiling home card := by decide +kernel

theorem witness_PresentAndDrawAnswerAtOnce :
    (asks .mp .present [4#8] (stocked card) ∧ readPresent [4#8] = none) ∧
    (asks .tp0 .present (idField tok) State.reset ∧ readPresent (idField tok) = some (tok, none) ∧
      (ask .tp0 .present (idField tok) State.reset).verdict ⟨.tp0, false, none, false⟩ tok = .unknown) ∧
    (ask .tp0 .present (idField tok ++ [0#8, 101#8]) (stocked card)).verdict ⟨.tp0, false, some 101, false⟩ tok
      = .denied .overCeiling home card ∧
    (ask .tp0 .present (idField tok ++ [0#8, 100#8]) (stocked card)).verdict ⟨.tp0, false, some 100, false⟩ tok
      = .positive home card ∧
    (asks .tp1 .draw (idField tok ++ [0#8, 0#8, 0#8]) (stocked card) ∧ readDraw (idField tok ++ [0#8, 0#8, 0#8]) = none) ∧
    (asks .tp1 .draw (idField tok ++ [0#8, 101#8, 1#8]) (stocked card) ∧
      readDraw (idField tok ++ [0#8, 101#8, 1#8]) = some (tok, 101, true) ∧
      (ask .tp1 .draw (idField tok ++ [0#8, 101#8, 1#8]) (stocked card)).verdict ⟨.tp1, true, some 101, true⟩ tok
        = .denied .overCeiling home card) ∧
    (ask .tp1 .draw (idField tok ++ [0#8, 1#8, 1#8]) State.reset).verdict ⟨.tp1, true, some 1, true⟩ tok = .unknown := by
  decide +kernel

/-- All 200 units of an entry without a ceiling: held units stay at the balance. -/
theorem witness_DrawGrantOpensTheHold :
    asks .tp0 .draw (idField tok ++ [0#8, 200#8, 0#8]) (stocked { card with ceiling := none }) ∧
    readDraw (idField tok ++ [0#8, 200#8, 0#8]) = some (tok, 200, false) ∧
    (ask .tp0 .draw (idField tok ++ [0#8, 200#8, 0#8]) (stocked { card with ceiling := none })).verdict
      ⟨.tp0, true, some 200, false⟩ tok = .positive home { card with ceiling := none } := by decide +kernel

theorem witness_GrantKeepsUnitsWithinBalance :
    asks .tp0 .draw (idField tok ++ [0#8, 100#8, 0#8]) (stocked card) ∧
    readDraw (idField tok ++ [0#8, 100#8, 0#8]) = some (tok, 100, false) ∧
    (ask .tp0 .draw (idField tok ++ [0#8, 100#8, 0#8]) (stocked card)).verdict ⟨.tp0, true, some 100, false⟩ tok
      = .positive home card ∧ card.balance = some 200 ∧
    (ask .tp0 .draw (idField tok ++ [0#8, 100#8, 0#8]) (stocked card)).heldUnits home ≤ 200 := by decide +kernel

/-- Number 32; number 31 with another epoch, with another owner, with the owner, with closing records and without. -/
theorem witness_HandleIsCheckedInOrder :
    takenBy (.release .tp0) = some (.tp0, .release) ∧ takenBy (.extend .tp0) = some (.tp0, .extend) ∧
    (asks .tp0 .extend [32#8, 1#8, 0#8, 1#8, 0#8, 1#8] State.reset ∧ field [32#8, 1#8, 0#8, 1#8, 0#8, 1#8] 4 2 ≠ 0) ∧
    (asks .tp0 .release [32#8, 1#8, 0#8, 1#8] State.reset ∧ readHandle [32#8, 1#8, 0#8, 1#8] = ⟨32, 1, 1⟩) ∧
    (asks .tp0 .release [31#8, 1#8, 0#8, 2#8] State.reset ∧ readHandle [31#8, 1#8, 0#8, 2#8] = ⟨31, 1, 2⟩ ∧
      (2 : Nat) ≠ State.reset.store.startCounter) ∧
    (asks .tp0 .release [31#8, 1#8, 0#8, 1#8] (holding 31 (hold .tp1 5) State.reset) ∧
      ((holding 31 (hold .tp1 5) State.reset).place 31).live = some (hold .tp1 5) ∧ (hold .tp1 5).owner ≠ .tp0) ∧
    (asks .tp1 .release [31#8, 1#8, 0#8, 1#8] (holding 31 (hold .tp1 5) State.reset) ∧ (hold .tp1 5).owner = .tp1) ∧
    (asks .tp1 .release [31#8, 1#8, 0#8, 1#8] (State.reset.setPlace 31 ⟨2, none, some (1, .expired)⟩) ∧
      ((State.reset.setPlace 31 ⟨2, none, some (1, .expired)⟩).place 31).closing = some (1, .expired)) ∧
    (asks .tp1 .release [31#8, 1#8, 0#8, 1#8] State.reset ∧ (State.reset.place 31).live = none ∧
      (State.reset.place 31).closing = none) := by decide +kernel

theorem witness_ExtendMovesTheDeadline :
    (asks .tp0 .extend [0#8, 1#8, 0#8, 1#8, 0#8, 0#8] State.reset ∧ field [0#8, 1#8, 0#8, 1#8, 0#8, 0#8] 4 2 = 0) ∧
    (asks .tp0 .extend [0#8, 1#8, 0#8, 1#8, 0#8, 1#8] (holding 0 (hold .tp0 5) State.reset) ∧
      (holding 0 (hold .tp0 5) State.reset).checkHandle .tp0 (readHandle [0#8, 1#8, 0#8, 1#8, 0#8, 1#8])
        = .found (hold .tp0 5) ∧ (hold .tp0 5).state = .opened) ∧
    (holding 0 { hold .tp0 5 with state := .settling 0 } State.reset).checkHandle .tp0
        (readHandle [0#8, 1#8, 0#8, 1#8, 0#8, 1#8]) = .found { hold .tp0 5 with state := .settling 0 } := by decide +kernel

theorem witness_ReleaseAndForceRelease :
    (asks .tp0 .release [31#8, 1#8, 0#8, 1#8] (holding 31 (hold .tp0 5) State.reset) ∧
      (holding 31 (hold .tp0 5) State.reset).checkHandle .tp0 (readHandle [31#8, 1#8, 0#8, 1#8]) = .found (hold .tp0 5)) ∧
    (holding 31 { hold .tp0 5 with state := .settling 5 } State.reset).checkHandle .tp0 (readHandle [31#8, 1#8, 0#8, 1#8])
      = .found { hold .tp0 5 with state := .settling 5 } ∧
    asks .mp .forceRelease [32#8, 1#8] State.reset ∧
    (asks .mp .forceRelease [31#8, 1#8] (holding 31 (hold .tp0 5) State.reset) ∧
      ((holding 31 (hold .tp0 5) State.reset).place 31).generation = 1) ∧
    (asks .mp .forceRelease [31#8, 2#8] (holding 31 (hold .tp0 5) State.reset) ∧
      ((holding 31 (hold .tp0 5) State.reset).place 31).generation ≠ 2) ∧
    ((State.reset.setPlace 31 ⟨2, none, some (1, .settled)⟩).place 31).closing = some (1, .settled) := by decide +kernel

/-- From place 31, the last one, and from place 32, which does not exist. -/
theorem witness_HoldReports :
    (asks .mp .queryHold [31#8, 1#8, 0#8, 1#8] (holding 31 (hold .tp0 5) State.reset) ∧
      (holding 31 (hold .tp0 5) State.reset).checkHandle .mp (readHandle [31#8, 1#8, 0#8, 1#8]) = .found (hold .tp0 5)) ∧
    (asks .mp .listHolds [31#8] (holding 31 (hold .tp0 5) State.reset) ∧ field [31#8] 0 1 = 31) ∧
    (asks .mp .listHolds [32#8] State.reset ∧ field [32#8] 0 1 = 32) := by decide +kernel

/-- A settlement of all the units held. -/
theorem witness_SettleChecksInOrder :
    asks .tp0 .settle [0#8, 1#8, 0#8, 1#8, 0#8, 5#8] (holding 0 (hold .tp0 5) (stocked card)) ∧
    (holding 0 (hold .tp0 5) (stocked card)).checkHandle .tp0 (readHandle [0#8, 1#8, 0#8, 1#8, 0#8, 5#8])
      = .found (hold .tp0 5) ∧
    field [0#8, 1#8, 0#8, 1#8, 0#8, 5#8] 0 1 = 0 ∧ field [0#8, 1#8, 0#8, 1#8, 0#8, 5#8] 4 2 = 5 := by decide +kernel

/-- One second before the deadline, and at it. -/
theorem witness_SettlementCompletes :
    let s := working (.settleHold home 0 5) byPort (.writeImage home card)
      (holding 0 { hold .tp0 5 with state := .settling 5 } (stocked card))
    let late : State := { s with time := { s.time with holdClock := 600 } }
    s.phase = .running ∧ s.commits = ⟨⟨.settleHold home 0 5, byPort⟩ :: [], some (.writeImage home card)⟩ ∧
      (s.place 0).live = some { hold .tp0 5 with state := .settling 5 } ∧ 599 < (hold .tp0 5).deadline ∧
      (late.place 0).live = some { hold .tp0 5 with state := .settling 5 } ∧
      (hold .tp0 5).deadline ≤ late.time.holdClock := by decide +kernel

theorem witness_ExpiryAndTheEndOfAHold :
    let s := holding 31 { hold .tp0 5 with due := true } (stocked { card with state := .retiring })
    s.phase = .running ∧ (s.place 31).live = some { hold .tp0 5 with due := true } ∧ (31 : Nat) < 32 ∧
      (hold .tp0 5).state = .opened ∧ s.time.holdClock < (hold .tp0 5).deadline ∧
      (hold .tp0 5).deadline ≤ ({ s with time := { s.time with holdClock := 600 } } : State).time.holdClock := by
  decide +kernel

theorem witness_DividerAndSecondEvent :
    let s : State := { State.reset with time := ⟨32766, some 4294967295, 4294967294, 1⟩ }
    s.phase = .running ∧ s.time.divider < 32767 ∧ 0 < s.time.secondsDue ∧
      ({ s with time := ⟨32767, none, 0, 0⟩ } : State).time.divider = 32767 ∧ State.factory.phase ≠ .running := by decide

/-- A force byte of 2; unset device time; the time set again at the same second, one second back with force and without. -/
theorem witness_SetTimeOutcomes :
    let s : State := { State.reset with time := ⟨0, some 5, 0, 0⟩ }
    asks .mp .setTime [0#8, 0#8, 0#8, 5#8, 2#8] s ∧ asks .mp .setTime [0#8, 0#8, 0#8, 5#8, 1#8] State.reset ∧
      State.reset.time.deviceTime = none ∧ asks .mp .setTime [0#8, 0#8, 0#8, 5#8, 0#8] s ∧
      asks .mp .setTime [0#8, 0#8, 0#8, 4#8, 1#8] s ∧ asks .mp .setTime [0#8, 0#8, 0#8, 4#8, 0#8] s ∧
      field [0#8, 0#8, 0#8, 4#8, 1#8] 0 4 = 4 ∧ field [0#8, 0#8, 0#8, 4#8, 1#8] 4 1 = 1 ∧ s.time.deviceTime = some 5 := by
  decide +kernel

theorem witness_TimeIdentityAndStatusReports :
    asks .mp .readTime [] State.reset ∧ asks .tp0 .readIdentity [] State.reset ∧ asks .mp .status [] State.reset ∧
      Table.wf emptySlot (stocked card).engine.slots = true ∧ (∀ n, 4352 ≤ n → State.reset.slot n = emptySlot) := by
  refine ⟨by decide +kernel, by decide +kernel, by decide +kernel, by decide +kernel, fun _ _ => rfl⟩

theorem witness_ReadClassReports :
    asks .mp .readClass [15#8] State.reset ∧ field [15#8] 0 1 = 15 ∧ asks .mp .readClass [16#8] State.reset ∧
      field [16#8] 0 1 = 16 ∧ State.reset.classOf 15 = factoryRecord := by decide +kernel

theorem witness_SetClassAndItsCompletion :
    (asks .mp .setClass (16#8 :: factoryRecord.bytes) State.reset ∧ readSetClass (16#8 :: factoryRecord.bytes) = none) ∧
    (asks .mp .setClass (15#8 :: factoryRecord.bytes) State.reset ∧
      readSetClass (15#8 :: factoryRecord.bytes) = some (15, factoryRecord)) ∧
    (working (.writeClass 15 factoryRecord) byPort (.writeClass 15 factoryRecord) State.reset).commits
      = ⟨⟨.writeClass 15 factoryRecord, byPort⟩ :: [], some (.writeClass 15 factoryRecord)⟩ := by decide +kernel

theorem witness_InsertChecksInOrder :
    (asks .mp .insert [4#8] State.reset ∧ readImage [4#8] = none) ∧
    (asks .mp .insert (card.image .active) State.reset ∧
      readImage (card.image .active) = some { card with useCount := 0, revision := 0 }) := by decide +kernel

/-- A malformed change; one refused while the batch is locked; one of an ID that is not there; one whose first failing check is 6.
-/
theorem witness_ChangeRefusedByFirstFailingCheck :
    let s := stocked card
    let locked : State := { s with batch := { s.batch with state := .promoting } }
    takenBy .bar = some (.mp, .bar) ∧ (asks .mp .bar [] s ∧ itemOf .bar [] = none) ∧
      (asks .mp .bar (idField tok ++ [1#8, 12#8]) locked ∧
        itemOf .bar (idField tok ++ [1#8, 12#8]) = some (.bar tok (some 12))) ∧
      (asks .mp .bar (idField tok2 ++ [0#8, 0#8]) s ∧ (ask .mp .bar (idField tok2 ++ [0#8, 0#8]) s).lookup tok2 = none) ∧
      (asks .mp .bar (idField tok ++ [1#8, 12#8]) s ∧ s.lookup tok = some home ∧ s.entryAt home = some card) := by
  decide +kernel

theorem witness_change_fails_check_6_first :
    (stocked card).changeFails (.bar tok (some 12)) home card 6 ∧
      ∀ m, m < 6 → ¬ (stocked card).changeFails (.bar tok (some 12)) home card m := by
  have h4 : (stocked card).isPending home = false := by decide +kernel
  have h5 : ((stocked card).slot home).retireMark = false := by decide +kernel
  refine ⟨⟨12, rfl, by decide⟩, fun m hm h => ?_⟩
  match m, h with
  | 4, h => exact Bool.false_ne_true (h4.symm.trans h)
  | 5, h => exact h.elim (by decide) fun h => Bool.false_ne_true (h5.symm.trans h)

theorem witness_change_passes_checks_4_to_8 (x : Item) (hx : x = .topUp tok 16777015 ∨ x = .retire tok none) :
    ∀ m, ¬ (stocked card).changeFails x home card m := by
  have h4 : (stocked card).isPending home = false := by decide +kernel
  have h5 : ((stocked card).slot home).retireMark = false := by decide +kernel
  have h7 : ((stocked card).slot home).worn = false := by decide +kernel
  intro m h
  match m, h with
  | 4, h => exact Bool.false_ne_true (h4.symm.trans h)
  | 5, h => exact h.elim (by decide) fun h => Bool.false_ne_true (h5.symm.trans h)
  | 6, ⟨v, hv, _⟩ => rcases hx with rfl | rfl <;> cases hv
  | 7, ⟨_, hw⟩ => exact Bool.false_ne_true (h7.symm.trans hw)
  | 8, ⟨hi, _⟩ => exact Bool.false_ne_true hi

/-- Every kind of change on the entry of `tok`; a Top Up that just fits. -/
theorem witness_ChangeMeetsCheckNineAndQueues :
    let s := stocked card
    let f : FieldChanges := ⟨none, some 1, none, some (some 9), some (some 0), none, none⟩
    s.batch.state = .empty ∧ s.lookup tok = some home ∧ s.entryAt home = some card ∧
      (asks .mp .topUp (idField tok ++ be 3 16777015) s ∧
        itemOf .topUp (idField tok ++ be 3 16777015) = some (.topUp tok 16777015)) ∧
      (asks .mp .retire (idField tok ++ [0#8, 0#8]) s ∧ itemOf .retire (idField tok ++ [0#8, 0#8]) = some (.retire tok none)) ∧
      (asks .mp .unbar (idField tok ++ [0#8, 0#8]) s ∧ itemOf .unbar (idField tok ++ [0#8, 0#8]) = some (.unbar tok none)) ∧
      (asks .mp .modify (modifyPayload tok none f) s ∧ itemOf .modify (modifyPayload tok none f) = some (.modify tok none f)) := by
  decide +kernel

/-- Target slots 4,351 and 4,352; no target. -/
theorem witness_RelocateChecksInOrder :
    let s := stocked card
    (asks .mp .relocate [] s ∧ readRelocate [] = none) ∧
      (asks .mp .relocate (idField tok ++ flagged 2 (some 4351)) s ∧
        readRelocate (idField tok ++ flagged 2 (some 4351)) = some (tok, some 4351) ∧ (s.slot 4351).content = .free) ∧
      (asks .mp .relocate (idField tok ++ flagged 2 (some 4352)) s ∧
        readRelocate (idField tok ++ flagged 2 (some 4352)) = some (tok, some 4352)) ∧
      (asks .mp .relocate (idField tok ++ flagged 2 (some home)) s ∧ (s.slot home).content ≠ .free) ∧
      (asks .mp .relocate (idField tok ++ flagged 2 none) s ∧ s.lookup tok = some home ∧ s.isPending home = false ∧
        s.placement tok = some (home + 1)) ∧
      (queued (.retireEntry home) .scan s).isPending home = true ∧ s.lookup tok2 = none := by decide +kernel

theorem witness_ReadEntryReports :
    let s := stocked card
    (asks .mp .readEntry [3#8] s ∧ readEntryName [3#8] = none) ∧
      (asks .mp .readEntry (1#8 :: idField tok2) s ∧ readEntryName (1#8 :: idField tok2) = some (.byId tok2) ∧
        s.lookup tok2 = none) ∧
      (asks .mp .readEntry (1#8 :: idField tok) s ∧ s.lookup tok = some home ∧ s.entryAt home = some card) ∧
      (asks .mp .readEntry [2#8, 0x11#8, 0x00#8] s ∧ readEntryName [2#8, 0x11#8, 0x00#8] = some (.bySlot 4352)) ∧
      (asks .mp .readEntry [2#8, 0x10#8, 0xFF#8] s ∧ readEntryName [2#8, 0x10#8, 0xFF#8] = some (.bySlot 4351) ∧
        s.entryAt 4351 = none) := by decide +kernel

/-- The one commit for an entry, behind a CLASS_WRITE, which is for no entry. -/
theorem witness_pending_kind :
    let c : Commit := ⟨.retireEntry home, byPort⟩
    let d : Commit := ⟨.writeClass 2 factoryRecord, byPort⟩
    ({ stocked card with commits := ⟨[d, c], none⟩ } : State).commits.queue = [d] ++ c :: [] ∧
      (∀ x ∈ [d], ¬ (stocked card).isCommitFor home x.change) ∧ (stocked card).isCommitFor home c.change := by
  refine ⟨rfl, fun x hx => ?_, rfl⟩
  cases List.mem_singleton.1 hx
  exact id

theorem witness_CommitBeginFormsTheImage :
    let s := queued (.settleHold home 0 5) byPort (holding 0 (hold .tp0 5) (stocked card))
    s.phase = .running ∧ s.commits.work = none ∧ s.commits.queue = ⟨.settleHold home 0 5, byPort⟩ :: [] ∧
      s.entryAt home = some card ∧
      (let b : State := { s with batch := ⟨.writing, [.topUp tok 1], [⟨home, true⟩], none, 1, false, 0, 7#8⟩ }
       (queued (.stageItem 0 home) .batch b).batch.items[0]? = some (.topUp tok 1) ∧
        (queued .promoteBatch .batch b).commits.queue = ⟨.promoteBatch, .batch⟩ :: []) := by decide +kernel

theorem witness_FaultAndPowerLossKeepImagesWhole :
    (Work.writeImage home card).canFault = true ∧ (Work.clear home).canFault = false ∧
    (working (.modifyEntry home ⟨none, none, none, none, none, none, none⟩) byPort (.writeImage home card)
      (stocked card)).commits.work = some (.writeImage home card) ∧
    (working .promoteBatch .batch (.promote [(home, .clear)]) (stocked card)).commits.work
      = some (.promote [(home, .clear)]) ∧ (stocked card).phase ≠ .off ∧
    (working (.writeClass 15 factoryRecord) byPort (.writeClass 15 factoryRecord) State.reset).commits.work
      = some (.writeClass 15 factoryRecord) ∧
    (working (.stageItem 0 home) .batch (.writeStaged home card) (stocked card)).commits.work
      = some (.writeStaged home card) := by decide +kernel

/-- R28: the supply is lost with the new record whole in the other position and not yet current: the old record is in use. -/
theorem test_class_write_cut_before_it_is_current :
    let x : ClassRecord := { factoryRecord with guarded := true }
    let s := working (.writeClass 3 x) byPort (.writeClass 3 x) State.reset
    (after (.powerLoss .afterWrite) s).store.classAt 3 = ⟨false, factoryRecord, x, 0⟩ ∧
      (after (.powerLoss (.afterUpdates 1)) s).store.classAt 3 = ⟨true, x, factoryRecord, 0⟩ := by decide

theorem witness_CompletionsReportToTheirOrigin :
    (0x25#8, 7#8) ∈ ((State.reset.setPort .mp { State.reset.mp with reserved := [(0x25#8, 7#8)] }).port .mp).reserved ∧
    ({ State.reset with scan := { idleScan with state := .draining, inFlight := 2 } } : State).scan.inFlight > 1 ∧
    ({ State.reset with scan := { idleScan with state := .draining, inFlight := 1, cursor := 4352 } } : State).scan.state
      = .draining := by decide

theorem witness_InsertCompletes :
    (working (.insertEntry 4351 card) byPort (.writeImage 4351 card) State.reset).commits
      = ⟨⟨.insertEntry 4351 card, byPort⟩ :: [], some (.writeImage 4351 card)⟩ ∧ State.reset.phase = .running := by decide

theorem witness_ImageWritesComplete :
    let s := working (.topUpEntry home 5) byPort (.writeImage home { card with balance := some 205 }) (stocked card)
    s.phase = .running ∧ s.entryAt home = some card ∧ ({ card with balance := some 205 } : Entry).balance = some 205 ∧
      s.commits = ⟨⟨.topUpEntry home 5, byPort⟩ :: [], some (.writeImage home { card with balance := some 205 })⟩ ∧
      (working (.setEntryState home .barred) byPort (.writeImage home card) (stocked card)).entryAt home = some card := by
  decide +kernel

theorem witness_RetireCompletes :
    let s := stocked card
    (working (.retireEntry home) .scan (.clear home) s).commits = ⟨⟨.retireEntry home, .scan⟩ :: [], some (.clear home)⟩ ∧
      (working (.retireEntry home) byPort (.mark home) s).commits = ⟨⟨.retireEntry home, byPort⟩ :: [], some (.mark home)⟩ ∧
      (working (.retireEntry home) byPort (.writeImage home card) s).entryAt home = some card := by decide +kernel

/-- Eleven commits queued, so five places are free. -/
theorem witness_ClearDueEntriesAreCleared :
    let s : State := { stocked { card with state := .retiring } with commits := ⟨List.replicate 11 ⟨.clearEntry 0, .clearDue⟩, none⟩ }
    let s : State := s.joinClearDue home
    s.phase = .running ∧ s.commits.queue.length < 12 ∧ rising s.engine.clearDue = true ∧ home ∈ s.engine.clearDue ∧
      s.isPending home = false ∧ (∀ m ∈ s.engine.clearDue, m < home → s.isPending m = true) ∧
      (working (.clearEntry home) .clearDue (.clear home) (stocked card)).entryAt home = some card := by decide +kernel

/-- From a way to the last spill slot, and from there back. -/
theorem witness_MoveCompletes :
    let s := working (.moveEntry home 4351) byPort (.moveImage home 4351 card) (stocked card)
    let u := ((State.reset.setSlot 4351 ⟨.occupied card, true, false⟩).setSpillCount (homeBucket tok) 1)
    s.phase = .running ∧ home ≠ 4351 ∧ s.entryAt home = some card ∧ s.entryAt 4351 = none ∧
      s.commits = ⟨⟨.moveEntry home 4351, byPort⟩ :: [], some (.moveImage home 4351 card)⟩ ∧
      u.entryAt 4351 = some card ∧ u.entryAt home = none ∧ 0 < u.spillCount (homeBucket card.id) := by decide +kernel

theorem witness_MoveSurvivesPowerLoss :
    let st := (State.reset.store).setSlot 1 { emptyDurable with image := some card }
    (st.slot 1).image = some card ∧ (st.slot 2).image = none ∧ (∀ n, (st.slot n).moveTarget = false) ∧
      (∀ n x, n ≠ 1 → (st.slot n).image = some x → x.id ≠ card.id) ∧
      (let s : State := working (.moveEntry 1 2) byPort (.moveImage 1 2 card) { State.reset with store := st }
       s.phase ≠ .off ∧ s.resetLow = false ∧ s.store = st ∧ s.commits.work = some (.moveImage 1 2 card)) := by
  refine ⟨by decide, by decide, fun n => ?_, fun n x hn hx => ?_, by decide, rfl, rfl, rfl⟩
  · rw [Store.slot_setSlot]; split <;> rfl
  · rw [Store.slot_setSlot, if_neg hn] at hx; cases hx

/-- Item 23 is the last that fits; the buffer of 24 is full; an ID that is already staged. -/
theorem witness_StageChecksInOrder :
    let items (n : Nat) : List Item := List.replicate n (.bar tok none)
    let s (n : Nat) : State := { State.reset with batch := { emptyBatch with state := .opened, items := items n } }
    asks .mp .stage (4#8 :: (idField tok2 ++ [0#8, 0#8])) (s 23) ∧
      readStage (4#8 :: (idField tok2 ++ [0#8, 0#8])) = some (.bar tok2 none) ∧ (s 23).batch.items.length < 24 ∧
      (∀ y ∈ (s 23).batch.items, y.id ≠ tok2) ∧ asks .mp .stage (4#8 :: (idField tok2 ++ [0#8, 0#8])) (s 24) ∧
      24 ≤ (s 24).batch.items.length ∧ (s 1).batch.items[0]? = some (.bar tok none) ∧
      (asks .mp .stage [7#8] (s 0) ∧ readStage [7#8] = none) ∧
      asks .mp .stage [] { s 1 with batch := { (s 1).batch with state := .writing } } := by decide +kernel

theorem witness_DiscardAndReadBatch :
    let s (x : BatchState) : State := { State.reset with batch := { emptyBatch with state := x } }
    asks .mp .discard [] (s .opened) ∧ asks .mp .discard [] (s .empty) ∧ asks .mp .discard [] (s .promoting) ∧
      asks .mp .readBatch [] (s .writing) := by decide +kernel

/-- The clauses' batch and scan states, each with an Apply that is takeable. -/
theorem witness_ApplyOutcomes :
    let s (x : BatchState) (y : ScanState) : State := { State.reset with
      batch := { emptyBatch with state := x, items := [.insert { card with revision := 0 }] }, scan := { idleScan with state := y } }
    asks .mp .apply [] (s .empty .idle) ∧ asks .mp .apply [] (s .writing .idle) ∧ asks .mp .apply [] (s .opened .running) ∧
      asks .mp .apply [] (s .opened .suspended) := by decide +kernel

/-- The first way of the home bucket of `tok2`. -/
def home2 : Nat := 8 * homeBucket tok2
/-- An OPEN batch of an insert of `tok` and a bar of `tok2`, which is there or not. -/
def openBatch (there : Bool) : State :=
  { (if there then State.reset.setSlot home2 ⟨.occupied card2, false, false⟩ else State.reset) with
    batch := { emptyBatch with state := .opened, items := [.insert { card with revision := 0 }, .bar tok2 none] } }
/-- The state after the reservation for the insert. -/
def openReserved (there : Bool) : State :=
  (openBatch there).afterReservations [(.insert { card with revision := 0 }, home)]

theorem openBatch_judged_insert (b : Bool) : (openBatch b).judged (.insert { card with revision := 0 }) = .ok home := by
  cases b <;> decide +kernel

/-- The first item passes with slot `home` and the second, whose entry is not there, fails: REJECTED at index 1. -/
theorem witness_apply_rejected :
    (openBatch false).passWith ([] ++ [home]) ∧ (openBatch false).batch.items[[home].length]? = some (.bar tok2 none) ∧
      (openReserved false).judged (.bar tok2 none) = .error .notFound :=
  ⟨State.passWith_concat (State.passWith_nil _) rfl (openBatch_judged_insert false), rfl, by decide +kernel⟩

/-- Both items pass, the second judged after the reservation of the first: the Apply is ACCEPTED. -/
theorem witness_apply_accepted : (openBatch true).passWith ([] ++ [home] ++ [home2]) :=
  State.passWith_concat (State.passWith_concat (State.passWith_nil _) rfl (openBatch_judged_insert true)) rfl
    (by decide +kernel : (openReserved true).judged (.bar tok2 none) = .ok home2)

/-- A batch of a retirement that needs no stage write and a bar that does, in slot 0, with the feed at an index. -/
def feeding (fed : Nat) (promoteFed : Bool) (queue : List Commit) : State :=
  { State.reset with
    commits := ⟨queue, none⟩
    batch := ⟨.writing, [.retire tok none, .bar tok2 none], [⟨home, false⟩, ⟨0, true⟩], none, fed, promoteFed, 0, 7#8⟩ }
/-- The stage write of that bar. -/
def barWrite : Commit := ⟨.stageItem 1 0, .batch⟩

/-- An item that needs no stage write before one that does, whose entry is pending or not; then the PROMOTE, while that stage write
is queued and after it; then nothing. -/
theorem witness_BatchFeedsInOrder :
    (feeding 0 false []).phase = .running ∧ (feeding 0 false [barWrite]).commits.queue.length < 12 ∧
      (feeding 0 false []).batch.state = .writing ∧
      (∀ n ∈ (feeding 0 false []).engine.clearDue, (feeding 0 false []).isPending n = true) ∧
      (feeding 0 false []).batch.records[1]? = some ⟨0, true⟩ ∧ (feeding 0 false []).batch.records[0]? = some ⟨home, false⟩ ∧
      (feeding 0 false []).isPending 0 = false ∧
      ((feeding 0 false [barWrite]).locked 0 = true ∧ (feeding 0 false [barWrite]).isPending 0 = true) ∧
      (feeding 2 false []).batch.records.drop 2 = [] ∧
      ((feeding 2 false [barWrite]).locked 0 = true ∧ (feeding 2 false [barWrite]).isPending 0 = true) ∧
      (feeding 2 true []).batch.promoteFed = true ∧
      (∃ n ∈ ((feeding 0 false []).joinClearDue 5).engine.clearDue, ((feeding 0 false []).joinClearDue 5).isPending n = false) := by
  decide +kernel

/-- With no commit queued no entry is pending, so the PROMOTE is admitted. -/
theorem witness_promote_is_admitted : ∀ n, (feeding 2 false []).locked n = true → (feeding 2 false []).isPending n = false :=
  fun _ _ => rfl

/-- R23: the PROMOTE is not admitted while the stage write of a locked entry is queued, and is once it has completed. -/
theorem test_promote_waits_for_the_stage_write :
    (after .batchCommitAdmission (feeding 2 false [barWrite])).commits.queue = [barWrite] ∧
      (after .batchCommitAdmission (feeding 2 false [])).commits.queue = [⟨.promoteBatch, .batch⟩] := by decide +kernel

/-- R151, R153: the stage write of an INSERT item does not hold the PROMOTE back. -/
theorem test_promote_follows_the_stage_write_of_an_insert :
    (after .batchCommitAdmission { State.reset with
        commits := ⟨[⟨.stageItem 0 home, .batch⟩], none⟩
        batch := ⟨.writing, [.insert card], [⟨home, true⟩], none, 1, false, 0, 7#8⟩ }).commits.queue
      = [⟨.stageItem 0 home, .batch⟩, ⟨.promoteBatch, .batch⟩] := by decide +kernel

theorem witness_StageWriteCompletes :
    (working (.stageItem 0 home) .batch (.writeStaged home card) (stocked card)).commits
      = ⟨⟨.stageItem 0 home, .batch⟩ :: [], some (.writeStaged home card)⟩ ∧ (stocked card).phase = .running := by
  decide +kernel

/-- A retirement in a home slot and an insert; a clear in a spill slot, whose spill count is 1. -/
theorem witness_PromoteAppliesTheWholeBatch :
    let b : Batch := ⟨.promoting, [.retire tok none, .insert card2], [⟨home, true⟩, ⟨0, true⟩], none, 2, true, 2, 7#8⟩
    let s := working .promoteBatch .batch (.promote [(home, .makeCurrent), (0, .makeCurrent)]) { stocked card with batch := b }
    let v := (State.reset.setSlot 4096 ⟨.occupied card, false, false⟩).setSpillCount (homeBucket tok) 1
    let u := working .promoteBatch .batch (.promote [(4096, .clear)])
      { v with batch := ⟨.promoting, [.retire tok none], [⟨4096, false⟩], none, 1, true, 0, 7#8⟩ }
    (s.phase = .running ∧ s.commits = ⟨⟨.promoteBatch, .batch⟩ :: [], some (.promote [(home, .makeCurrent), (0, .makeCurrent)])⟩ ∧
      [(home, Promotion.makeCurrent), (0, .makeCurrent)].length = s.batch.items.length ∧
      ([(home, Promotion.makeCurrent), (0, .makeCurrent)].map (·.1)).Nodup ∧ s.entryAt home = some card) ∧
    (u.phase = .running ∧ u.commits = ⟨⟨.promoteBatch, .batch⟩ :: [], some (.promote [(4096, .clear)])⟩ ∧
      [(4096, Promotion.clear)].length = u.batch.items.length ∧ u.entryAt 4096 = some card ∧
      1 ≤ u.spillCount (homeBucket tok)) := by decide +kernel

theorem witness_StartScanChecksInOrder :
    (asks .mp .startScan [3#8, 0#8, 0#8] State.reset ∧ readStartScan [3#8, 0#8, 0#8] = none) ∧
    (asks .mp .startScan [2#8, 0#8, 15#8] State.reset ∧ readStartScan [2#8, 0#8, 15#8] = some (.cls, some 15)) ∧
    (asks .mp .startScan [1#8, 0#8, 0#8] State.reset ∧ readStartScan [1#8, 0#8, 0#8] = some (.expiry, none)) := by
  decide +kernel

/-- Each request in each scan state it names, the cursor at the last slot. -/
theorem witness_ScanControlRequests :
    let s (x : ScanState) (n : Nat) : State := { State.reset with scan := { idleScan with state := x, cursor := 4351, inFlight := n } }
    asks .mp .suspendScan [] (s .running 0) ∧ asks .mp .resumeScan [] (s .suspended 0) ∧ asks .mp .abortScan [] (s .idle 0) ∧
      asks .mp .abortScan [] (s .draining 1) ∧ asks .mp .abortScan [] (s .running 1) ∧
      asks .mp .abortScan [] (s .suspended 0) ∧ (s .suspended 0).scan.cursor < 4352 := by decide +kernel

/-- The rows of R162 and R163; from slot 4,344 the last eight slots are taken; the queue is full; a scan past its last slot. -/
theorem witness_SlotIsDecidedByTheRows :
    let s : State := { stocked card with scan := { idleScan with kind := some .clear } }
    let u : State := { State.reset.setSlot 4351 ⟨.occupied card, false, false⟩ with scan := { idleScan with kind := some .expiry } }
    let w (n : Nat) : State := { State.reset with scan := { idleScan with state := .running, cursor := n } }
    let full : State := { w home with commits := ⟨List.replicate 16 ⟨.clearEntry 0, .clearDue⟩, none⟩ }
    (s.entryAt 0 = none ∧ s.entryAt home = some card ∧ s.qualifies home card = true ∧ u.entryAt 4351 = some card ∧
      u.qualifies 4351 card = false) ∧
    ((w 4344).granted = some .scan ∧ (w 4344).scan.cursor ≤ 4352 ∧ ((w 4344).walked 8).scan.cursor = 4352) ∧
    ((w 4352).granted = some .scan ∧ full.granted = some .scan ∧ full.commits.queue.length ≤ 16) := by decide +kernel

/-- A step queues the retirement of the one entry in its eight slots. -/
theorem test_scan_step_queues_a_retirement :
    let s : State := { stocked card with scan := { idleScan with kind := some .clear, state := .running, cursor := home } }
    (after .scanStep s).commits.queue = [⟨.retireEntry home, .scan⟩] ∧ (after .scanStep s).scan.cursor = home + 8 := by
  decide +kernel

/-- Payloads of 0 and 48 bytes; a length of 49; a transaction open with its frame received; one that was abandoned; seven bits. -/
theorem witness_RequestIntakeFollowsTheTable :
    State.reset.phase ≠ .off ∧ ([] : List Byte).length ≤ 48 ∧ (List.replicate 48 0#8 : List Byte).length ≤ 48 ∧
      48 < (49#8 : Byte).toNat ∧ ([0xC1#8] : List Byte) <+: [0xC1#8, 0x16#8, 7#8, 0#8] ∧
      (let frame : List Byte := [0xC1#8, 0x16#8, 7#8, 0#8] ++ [] ++ be 2 (0#16 : BitVec 16).toNat
       let t := after (.request .tp0 ⟨true, frame, 0, false⟩) State.reset
       t.phase ≠ .off ∧ (t.port .tp0).transaction = some ⟨0x88#8, frame, [], false, false⟩) ∧
      (let t := after (.resetNFall false) (after (.request .tp0 ⟨true, [0xC1#8], 0, false⟩) State.reset)
       t.phase ≠ .off ∧ (t.port .tp0).transaction = some ⟨0x88#8, [0xC1#8], [], false, true⟩) ∧
      ([true, true, true, true, true, true, true] : List Bool).length < 8 := by decide +kernel

/-- R174: the bits 1100 0001 are the byte C1h, and the three bits after it are discarded. -/
theorem test_bits_of_a_type_byte :
    Exchange.ofBits true [true, true, false, false, false, false, false, true, true, false, true] true
      = ⟨true, [0xC1#8], 3, true⟩ := by decide

theorem witness_FetchAndPortStatus :
    let one := State.reset.setPort .tp0 { State.reset.tp0 with filled := [⟨0x16#8, 7#8, .ok, []⟩] }
    ((one.port .tp0).filled = ⟨0x16#8, 7#8, .ok, []⟩ :: [] ∧ ([] : List Byte).length + 6 ≤ [0#8, 0#8, 0#8, 0#8, 0#8, 0#8].length) ∧
      (State.reset.port .tp0).filled = [] ∧ State.reset.phase ≠ .off ∧
      State.factory.phase ≠ .running ∧ State.reset.phase = .running ∧ (State.reset.port .tp0).requests.length ≤ 4 ∧
      (after (.portStatus .tp0 ⟨true, [], 0, false⟩) State.reset).dataOut .tp0 = some 0x88#8 ∧
      State.reset.dataOut .tp0 = none := by decide

theorem witness_PayloadsReadBack :
    4 ≤ tok.length ∧ tok.length ≤ 12 ∧ (⟨none, none, none, some none, none, none, none⟩ : FieldChanges).inRange = true ∧
      (⟨none, none, none, some none, none, none, none⟩ : FieldChanges) ≠ ⟨none, none, none, none, none, none, none⟩ ∧
      card.newImageOk = true ∧ card.useCount ≤ 65535 ∧ card.revision ≤ 255 ∧ 10 ≤ factoryRecord.lifetime ∧
      factoryRecord.lifetime ≤ factoryRecord.lifetimeLimit ∧ factoryRecord.lifetimeLimit ≤ 65535 ∧
      ([3#8, 0#8, 1#8] : List Byte).length = 3 ∧ 6 < (7#8 : Byte).toNat := by decide

/-- R190: a partial flag of 2, requested units of 0, an item kind of 7, a scan of group 0 and an absent mask that names a field
which the field mask does not name are malformed. -/
theorem test_malformed_payloads :
    readDraw (idField tok ++ [0#8, 1#8, 2#8]) = none ∧ readPresent (idField tok ++ [0#8, 0#8]) = none ∧
      readStage (7#8 :: (idField tok ++ [0#8, 0#8])) = none ∧ readStartScan [3#8, 0#8, 0#8] = none ∧
      readModify (idField tok ++ [0#8, 0#8, 16#8, 4#8] ++ List.replicate 17 0#8) = none := by decide

/-- No candidate; a port granted while the scan is one too. -/
theorem witness_ArbiterIsRoundRobin :
    let s : State := { ask .tp1 .readTime [] State.reset with scan := { idleScan with state := .running } }
    State.reset.granted = none ∧ s.granted = some (.port .tp1) ∧ s.isCandidate .scan = true ∧ s.phase = .running := by
  decide +kernel

theorem witness_StartUpBeginsAtResetAndPins :
    (asks .mp .reset [] State.reset ∧ exec .reset (ask .mp .reset [] State.reset)
      = .next (after .reset (ask .mp .reset [] State.reset))) ∧
    (State.reset.resetLow = false ∧ exec (.resetNFall false) State.reset = .next (after (.resetNFall false) State.reset) ∧
      (after (.resetNFall false) State.reset).resetLow = true) ∧
    State.factory.phase = .off ∧ State.reset.commits.work = none := by
  refine ⟨⟨by decide +kernel, rfl⟩, ⟨rfl, rfl, rfl⟩, rfl, rfl⟩

/-- A marked slot with a twin, beside an empty one. -/
theorem witness_RestoreSettlesTheStore :
    let st := ((State.reset.store).setSlot 1 { emptyDurable with image := some card }).setSlot 2
      { emptyDurable with image := some card, moveTarget := true }
    let s : State := { State.reset with phase := .starting, store := st }
    s.phase = .starting ∧ s.resetLow = false ∧ s.commits.work = none ∧ (s.store.slot 2).moveTarget = true ∧
      (s.store.slot 1).image = some card ∧ (s.store.slot 2).image = some card ∧
      (∀ m n, (s.store.slot m).moveTarget = true → (s.store.slot n).moveTarget = true → m = n) := by
  refine ⟨rfl, rfl, rfl, by decide, by decide, by decide, ?_⟩
  have only : ∀ m, ((((State.reset.store).setSlot 1 { emptyDurable with image := some card }).setSlot 2
      { emptyDurable with image := some card, moveTarget := true }).slot m).moveTarget = true → m = 2 := by
    intro m hm
    by_contra h2
    rw [Store.slot_setSlot, if_neg h2, Store.slot_setSlot] at hm
    split at hm <;> cases hm
  intro m n hm hn
  rw [only m hm, only n hn]

/-- A marked slot whose entry no other slot holds. -/
theorem witness_marked_slot_without_twin :
    let st := (State.reset.store).setSlot 4351 { emptyDurable with image := some card, moveTarget := true }
    (st.slot 4351).moveTarget = true ∧ (st.slot 4351).image = some card ∧
      ∀ m x e, m ≠ 4351 → (st.slot 4351).image = some e → (st.slot m).image = some x → x.id ≠ e.id := by
  refine ⟨by decide, by decide, fun m x e hm _ hx => ?_⟩
  rw [Store.slot_setSlot, if_neg hm] at hx
  cases hx

theorem witness_RestoreBuildsTheWorkingState :
    let s : State := { State.reset with phase := .settled, store :=
      ((State.reset.store).setSlot 4351 { emptyDurable with image := some { card with state := .retiring } }) }
    s.phase = .settled ∧ s.resetLow = false ∧ Table.wf emptyDurable s.store.slots = true := by decide

/-- A commit that begins, with the store as it was; a completion with FAULT, which writes the store, on a slot already WORN. -/
theorem witness_DurableStoreIsGuarded :
    (writesStore .commitBegin = false ∧
      exec .commitBegin (queued (.writeClass 3 factoryRecord) byPort State.reset)
        = .next (working (.writeClass 3 factoryRecord) byPort (.writeClass 3 factoryRecord) State.reset)) ∧
    (let s := working (.moveEntry 5 4351) byPort (.moveImage 5 4351 card)
      { State.reset with store := State.reset.store.setSlot 4351 { emptyDurable with worn := true } }
     exec (.moveCompletion .fault) s = .next (after (.moveCompletion .fault) s) ∧ (s.store.slot 4351).worn = true) := by
  refine ⟨⟨rfl, rfl⟩, rfl, by decide⟩

theorem witness_TimeMovesOnlyAsTheRulesSay :
    restarts .secondEvent = false ∧
      exec .secondEvent { State.reset with time := ⟨0, some 5, 4294967295, 1⟩ }
        = .next (after .secondEvent { State.reset with time := ⟨0, some 5, 4294967295, 1⟩ }) ∧
      ({ State.reset with time := ⟨0, some 5, 4294967295, 1⟩ } : State).time.holdClock ≤ maxSeconds := by
  refine ⟨rfl, rfl, by decide⟩

/-- A stocked state with a command waiting, on which a step answers next. -/
theorem witness_StepKeepsCanonicalForm :
    ({ stocked card with pending := [.tbclkPeriod] } : State).canonical ∧
      step { stocked card with pending := [.tbclkPeriod] } = .next (after .tbclkPeriod (stocked card)) := by
  refine ⟨⟨by decide +kernel, rfl, rfl, rfl, rfl, rfl⟩, rfl⟩

/-- An entry whose use count and revision are at their bounds. -/
def worked : Entry := { card with useCount := 65535, revision := 255 }

/-- Every queue, clock, generation and count of an image at its bound. -/
def brimful : State :=
  let full : PortState := ⟨List.replicate 4 ⟨.readTime, 7#8, []⟩, List.replicate 4 ⟨0x16#8, 7#8, .ok, []⟩, [], none, []⟩
  { stocked worked with
    mp := full, tp0 := full, tp1 := full, commits := ⟨List.replicate 16 ⟨.clearEntry 0, .clearDue⟩, none⟩
    batch := { emptyBatch with items := List.replicate 24 (.bar tok none) }, scan := { idleScan with cursor := 4352 }
    holds := Table.set freshPlace [] 31 ⟨255, none, some (255, .settled)⟩
    time := ⟨32767, some 4294967295, 4294967295, 0⟩, store := ⟨[], [], 65535⟩ }

theorem brimful_slot (n : Nat) : brimful.slot n = if n = home then ⟨.occupied worked, false, false⟩ else emptySlot :=
  State.slot_setSlot State.reset home n _

theorem brimful_place (n : Nat) :
    brimful.place n = if n = 31 then ⟨255, none, some (255, .settled)⟩ else freshPlace :=
  Table.get_set freshPlace [] 31 n ⟨255, none, some (255, .settled)⟩

theorem brimful_images (e : Entry) (h : brimful.holdsImage e) : e.countsInRange := by
  rcases h with ⟨n, h | h | h⟩ | ⟨n, h | h⟩ | ⟨a, b, h⟩ | ⟨n, c, hc, h⟩ | h
  · rw [State.entryAt, brimful_slot] at h
    split at h
    · cases h
      exact ⟨by decide, by decide⟩
    · cases h
  · cases h
  · cases h
  · cases h
  · cases h
  · cases h
  · rw [List.eq_of_mem_replicate hc] at h
    cases h
  · cases List.eq_of_mem_replicate h

theorem witness_StepKeepsEveryBound : brimful.withinBounds ∧ step brimful = .next brimful := by
  refine ⟨⟨⟨by decide, by decide⟩, ⟨by decide, by decide⟩, ⟨by decide, by decide⟩, by decide, by decide, by decide, by decide,
    by decide, ?_, by decide, fun n => ?_, brimful_images⟩, rfl⟩
  · rintro v ⟨⟩
    decide
  · rw [brimful_place]
    split
    · exact ⟨by decide, fun g o h => by cases h; decide⟩
    · exact ⟨by decide, fun g o h => by cases h⟩

/-- A MOVE in progress, and the step that completes it. -/
theorem witness_StepKeepsMarksSettled :
    let s := working (.moveEntry 5 4351) byPort (.moveImage 5 4351 card)
      { State.reset with store := State.reset.store.setSlot 5 { emptyDurable with image := some card } }
    ({ s with pending := [.moveCompletion .ok] } : State).marksSettled ∧
      step { s with pending := [.moveCompletion .ok] } = .next (after (.moveCompletion .ok) s) ∧
      ((after (.moveCompletion .ok) s).store.slot 4351).image = some card := by
  have h : ∀ n, ((State.reset.store.setSlot 5 { emptyDurable with image := some card }).slot n).moveTarget = false := by
    intro n
    rw [Store.slot_setSlot]
    split <;> rfl
  exact ⟨⟨fun _ n => h n, fun _ n => h n, fun m _ hm _ => Bool.noConfusion ((h m).symm.trans hm)⟩, rfl, by decide +kernel⟩

/-- One entry in the store and in the working table, with an OPEN hold of 5 of its 200 units, and a Release of it waiting. -/
def sound : State :=
  { ask .tp0 .release [0#8, 1#8, 0#8, 1#8] (holding 0 (hold .tp0 5) (stocked card)) with
    store := State.reset.store.setSlot home { emptyDurable with image := some card }
    pending := [.release .tp0] }

theorem sound_slot (n : Nat) : sound.slot n = if n = home then ⟨.occupied card, false, false⟩ else emptySlot :=
  State.slot_setSlot State.reset home n _

theorem sound_store (n : Nat) :
    sound.store.slot n = if n = home then { emptyDurable with image := some card } else emptyDurable :=
  Store.slot_setSlot State.reset.store home n _

theorem sound_entryAt (n : Nat) : sound.entryAt n = if n = home then some card else none := by
  rw [State.entryAt, sound_slot]
  split <;> rfl

theorem sound_place (n : Nat) : sound.place n = if n = 0 then ⟨1, some (hold .tp0 5), none⟩ else freshPlace :=
  State.place_setPlace (stocked card) 0 n ⟨1, some (hold .tp0 5), none⟩

theorem sound_directory : sound.directorySound where
  images n := by
    rw [sound_entryAt, sound_slot, sound_store]
    split <;> exact ⟨rfl, rfl, rfl⟩
  alone m n x y hx hy _ := by
    rw [sound_entryAt] at hx hy
    split at hx
    · split at hy
      · exact Eq.trans ‹_› (Eq.symm ‹_›)
      · cases hy
    · cases hx
  spill b := by
    rw [List.filter_eq_nil_iff.2]
    · rfl
    · intro n hn
      have h : ∀ n ∈ spillArea, sound.entryAt n = none := by decide +kernel
      rw [h n hn]
      exact Bool.false_ne_true
  reserved n id x := by
    rw [sound_slot]
    constructor
    · intro h
      split at h <;> cases h
    · intro h
      cases h
  claimsApart := ⟨.nil, .nil⟩
  claimsPlaced n id x h := by cases h
  newIds n id x h := by cases h

theorem sound_holds : sound.holdsSound where
  lie n h hl := by
    rw [sound_place] at hl
    split at hl
    · rename_i h0
      cases hl
      exact ⟨h0 ▸ by decide, card, (sound_entryAt home).trans (if_pos rfl)⟩
    · cases hl
  within n e b he hb := by
    rw [sound_entryAt] at he
    split at he
    · rename_i hn
      cases he
      cases hb
      rw [hn]
      decide +kernel
    · cases he
  settling c hc := by cases hc
  modifying c hc := by cases hc
  clearing n := by
    constructor
    · intro h
      rcases h with h | h <;> cases h
    · rintro ⟨h, -⟩
      rw [State.slotRetiring, sound_entryAt] at h
      split at h
      · rename_i e he
        split at he
        · cases he
          rw [State.isRetiring, sound_slot] at h
          split at h <;> cases h
        · cases he
      · cases h
  cleared n h := by cases h

theorem sound_accounted : sound.accounted :=
  ⟨⟨fun c hc => (by cases hc), fun w hw => (by cases hw)⟩,
    ⟨fun _ => ⟨rfl, fun _ => rfl, fun h => (by cases h)⟩, by decide, by decide, by decide, by decide, by decide⟩, ⟨by decide, fun c hc => (by cases hc)⟩, fun p => ⟨fun _ => (by cases p <;> exact .nil), fun h => absurd rfl h⟩⟩

theorem witness_StepKeepsTheBooks :
    sound.accounted ∧ step sound = .next (after (.release .tp0) { sound with pending := [] }) := ⟨sound_accounted, rfl⟩

theorem sound_table : sound.tableSound where
  store :=
    { placed := fun n e he => by
        rw [sound_store] at he
        split at he
        · rename_i hn
          cases he
          rw [hn]
          exact .inl (by decide +kernel)
        · cases he
      alone := fun m n x y hx hy _ => by
        rw [sound_store] at hx hy
        split at hx
        · split at hy
          · exact .inl (Eq.trans ‹_› (Eq.symm ‹_›))
          · cases hy
        · cases hx
      unmarked := fun n _ => by
        rw [sound_store]
        split <;> rfl }
  works := fun w hw => by cases hw
  spillFits := fun b => Nat.zero_le _
  directory := fun _ => sound_directory
  holds := fun _ => sound_holds
  subjects := fun _ =>
    { apart := .nil
      lie := fun n hn => by cases hn
      single := fun n e _ => Nat.zero_le _
      fresh := fun c hc => by cases hc
      living := fun c hc => by cases hc
      work := fun c w hc => by cases hc }
  batch := fun _ =>
    { apart := .nil
      fresh := fun e he => by cases he
      noScan := fun h => by cases h
      recorded := fun h => by cases h
      named := fun h => by cases h
      stagedItems := fun h => by cases h
      fedWhole := fun h => by cases h
      stageWrites := fun c hc => by cases hc
      order := fun f c b h => by cases f <;> cases h }

/-- The Release of a hold on the one entry of a sound table. -/
theorem witness_StepKeepsTheTableSound :
    sound.canonical ∧
      sound.marksSettled ∧
      sound.accounted ∧
      sound.tableSound ∧
      step sound = .next (after (.release .tp0) { sound with pending := [] }) ∧
      ((after (.release .tp0) { sound with pending := [] }).place 0).live = none := by
  have marks : ∀ n, (sound.store.slot n).moveTarget = false := by
    intro n
    rw [sound_store]
    split <;> rfl
  exact ⟨⟨by decide +kernel, rfl, by decide +kernel, by decide +kernel, rfl, rfl⟩,
    ⟨fun _ n => marks n, fun _ n => marks n, fun m _ hm _ => Bool.noConfusion ((marks m).symm.trans hm)⟩,
    sound_accounted, sound_table, rfl, by decide +kernel⟩

/-- The books and the sound table of one running state. -/
theorem witness_bounds_of_the_counts : sound.accounted ∧ sound.tableSound ∧ sound.phase = .running :=
  ⟨sound_accounted, sound_table, rfl⟩

end Sys2Proof.Tests
end

section
/-! The table of chapter 01: the home bucket's CRC, lookup and placement (O4, O5). -/

namespace Sys2Proof.Machine

/-! ### The CRC (R11) -/

/-- One bit time of the register with `y` mixed in: the leading bit of `y` is fed, and the rest of `y` moves up. -/
theorem crcShift_xor (c y : BitVec 16) : crcShift (c ^^^ y) = crcBit c y.msb ^^^ (y <<< (1 : Nat)) := by
  unfold crcShift crcBit
  rw [BitVec.msb_xor, BitVec.shiftLeft_xor_distrib]
  cases c.msb <;> cases y.msb <;> simp [BitVec.xor_assoc]
  all_goals exact BitVec.xor_comm _ _

/-- The leading bit of a byte in the upper half of the register, after `k` bit times. -/
theorem msb_mixed (b : Byte) {k : Nat} (hk : k < 8) :
    (((b.setWidth 16 : BitVec 16) <<< (8 : Nat)) <<< k).msb = b.getLsbD (7 - k) := by
  rw [← BitVec.shiftLeft_add, BitVec.msb_eq_getLsbD_last, BitVec.getLsbD_shiftLeft, BitVec.getLsbD_setWidth,
    show (16 - 1 - (8 + k) : Nat) = 7 - k by omega]
  have h1 : 7 - k < 16 := by omega
  have h2 : ¬ 15 < 8 + k := by omega
  simp [h1, h2]

/-- A byte fed at once is its eight bits fed one after another, most significant bit first. -/
theorem crcByte_eq_foldl (c : BitVec 16) (b : Byte) : crcByte c b = (bitsOf b).foldl crcBit c := by
  have msb := fun k => msb_mixed b (k := k)
  have out : ((b.setWidth 16 : BitVec 16) <<< (8 : Nat)) <<< (8 : Nat) = 0#16 := by
    rw [← BitVec.shiftLeft_add]
    exact BitVec.shiftLeft_eq_zero (by decide)
  unfold crcByte
  generalize (b.setWidth 16 : BitVec 16) <<< (8 : Nat) = y at msb out ⊢
  have step : ∀ x k, k < 8 → crcShift (x ^^^ (y <<< k)) = crcBit x (b.getLsbD (7 - k)) ^^^ (y <<< (k + 1)) := by
    intro x k hk
    rw [crcShift_xor, BitVec.shiftLeft_add, msb k hk]
  have start := step c 0 (by decide)
  rw [BitVec.shiftLeft_zero] at start
  rw [start, step _ 1 (by decide), step _ 2 (by decide), step _ 3 (by decide), step _ 4 (by decide),
    step _ 5 (by decide), step _ 6 (by decide), step _ 7 (by decide), out, BitVec.xor_zero]
  rfl

/-- The CRC of a list of bytes is that of its bits, from any value of the register. -/
theorem foldl_crcByte (id : List Byte) (c : BitVec 16) : id.foldl crcByte c = (id.flatMap bitsOf).foldl crcBit c := by
  induction id generalizing c with
  | nil => rfl
  | cons b rest ih => rw [List.foldl_cons, List.flatMap_cons, List.foldl_append, ih, crcByte_eq_foldl]

/-- Settles O4: the byte-wise register equals the bit-wise one, because a bit time is linear in what is mixed in. -/
theorem homeBucketIsTheCrc : Obligations.HomeBucketIsTheCrc :=
  ⟨fun id => ⟨foldl_crcByte id _, rfl, Nat.mod_lt _ (by decide)⟩, by decide +kernel, by decide +kernel, by decide⟩

/-! ### Slots (R10) -/

theorem mem_spillArea {n : Nat} : n ∈ spillArea ↔ 4096 ≤ n ∧ n < 4352 := by
  simp only [spillArea, List.mem_map, List.mem_range, Config.spillSlots, Config.homeSlots]
  constructor
  · rintro ⟨a, ha, rfl⟩; omega
  · rintro ⟨h1, h2⟩; exact ⟨n - 4096, by omega, by omega⟩

theorem inSpill_iff {n : Nat} : inSpill n = true ↔ 4096 ≤ n ∧ n < 4352 := by
  exact decide_eq_true_iff

theorem mem_spillArea_iff_inSpill {n : Nat} : n ∈ spillArea ↔ inSpill n = true := by
  rw [mem_spillArea, inSpill_iff]

theorem State.slotHasId_iff {s : State} {id : List Byte} {n : Nat} :
    s.slotHasId id n = true ↔ ∃ e, s.entryAt n = some e ∧ e.id = id := by
  unfold State.slotHasId
  cases s.entryAt n <;> simp

theorem State.placeable_iff {s : State} {n : Nat} :
    s.placeable n = true ↔ (s.slot n).content = .free ∧ (s.slot n).worn = false := by
  unfold State.placeable
  cases (s.slot n).content <;> simp

/-! ### Lookup and placement (R18, R20) -/

/-- Where a lookup finds its ID. -/
theorem State.lookup_eq_some {s : State} {id : List Byte} {n : Nat} (h : s.lookup id = some n) :
    (∃ e, s.entryAt n = some e ∧ e.id = id) ∧
      (n ∈ waysOf (homeBucket id) ∨ (0 < s.spillCount (homeBucket id) ∧ n ∈ spillArea)) := by
  unfold State.lookup at h
  split at h
  · rename_i m hm
    cases h
    exact ⟨State.slotHasId_iff.1 (List.find?_some hm), .inl (List.mem_of_find?_eq_some hm)⟩
  · split at h
    · rename_i hc
      exact ⟨State.slotHasId_iff.1 (List.find?_some h), .inr ⟨hc, List.mem_of_find?_eq_some h⟩⟩
    · cases h

/-- Where a lookup that finds nothing has looked. -/
theorem State.lookup_eq_none {s : State} {id : List Byte} (h : s.lookup id = none) :
    (∀ n ∈ waysOf (homeBucket id), ∀ e, s.entryAt n = some e → e.id ≠ id) ∧
      (0 < s.spillCount (homeBucket id) → ∀ n ∈ spillArea, ∀ e, s.entryAt n = some e → e.id ≠ id) := by
  have absent : ∀ {l : List Nat}, l.find? (s.slotHasId id) = none → ∀ n ∈ l, ∀ e, s.entryAt n = some e → e.id ≠ id :=
    fun hl n hn e he hid => List.find?_eq_none.1 hl n hn (State.slotHasId_iff.2 ⟨e, he, hid⟩)
  unfold State.lookup at h
  split at h
  · cases h
  · rename_i hw
    refine ⟨absent hw, fun hc => ?_⟩
    rw [if_pos hc] at h
    exact absent h

/-- The first placeable slot of a rising list. -/
theorem State.find?_placeable {s : State} {l : List Nat} (hl : l.Pairwise (· < ·)) {n : Nat}
    (h : l.find? s.placeable = some n) : n ∈ l ∧ s.placeable n = true ∧ ∀ m ∈ l, m < n → s.placeable m = false := by
  obtain ⟨hn, front, back, rfl, hfront⟩ := List.find?_eq_some_iff_append.1 h
  refine ⟨by simp, hn, fun m hm hlt => ?_⟩
  rcases List.mem_append.1 hm with hm | hm
  · simpa using hfront m hm
  · rcases List.mem_cons.1 hm with rfl | hm
    · omega
    · have := (List.pairwise_cons.1 (List.pairwise_append.1 hl).2.1).1 m hm
      omega

theorem waysOf_pairwise (b : Nat) : (waysOf b).Pairwise (· < ·) :=
  List.pairwise_map.2 (List.pairwise_lt_range.imp fun h => by omega)

theorem spillArea_pairwise : spillArea.Pairwise (· < ·) :=
  List.pairwise_map.2 (List.pairwise_lt_range.imp fun h => by omega)

/-- Where a placement puts a new entry. -/
theorem State.placement_eq_some {s : State} {id : List Byte} {n : Nat} (h : s.placement id = some n) :
    s.placeable n = true ∧
      ((n ∈ waysOf (homeBucket id) ∧ ∀ m ∈ waysOf (homeBucket id), m < n → s.placeable m = false) ∨
        ((∀ m ∈ waysOf (homeBucket id), s.placeable m = false) ∧ n ∈ spillArea ∧
          ∀ m ∈ spillArea, m < n → s.placeable m = false)) := by
  unfold State.placement State.freeWay at h
  split at h
  · rename_i k hk
    cases h
    obtain ⟨hin, hp, hlow⟩ := State.find?_placeable (waysOf_pairwise _) hk
    exact ⟨hp, .inl ⟨hin, hlow⟩⟩
  · rename_i hw
    obtain ⟨hin, hp, hlow⟩ := State.find?_placeable spillArea_pairwise h
    exact ⟨hp, .inr ⟨by simpa using hw, hin, hlow⟩⟩

/-- A placement that finds no slot has found none placeable. -/
theorem State.placement_eq_none {s : State} {id : List Byte} (h : s.placement id = none) :
    (∀ m ∈ waysOf (homeBucket id), s.placeable m = false) ∧ ∀ m ∈ spillArea, s.placeable m = false := by
  unfold State.placement State.freeWay at h
  split at h
  · cases h
  · rename_i hw
    exact ⟨by simpa using hw, by simpa using h⟩

/-- Settles O5, from what lookup and placement answer. -/
theorem lookupAndPlacement : Obligations.LookupAndPlacement := by
  intro s id
  refine ⟨fun n h => ?_, fun h => ?_, fun n h => ?_, fun h => ?_⟩
  · obtain ⟨he, hw⟩ := State.lookup_eq_some h
    exact ⟨he, by simpa only [mem_spillArea] using hw⟩
  · obtain ⟨hw, hs⟩ := State.lookup_eq_none h
    exact ⟨hw, fun hc n h1 h2 => hs hc n (mem_spillArea.2 ⟨h1, h2⟩)⟩
  · obtain ⟨hp, hw | ⟨hw, hn, hlow⟩⟩ := State.placement_eq_some h
    · exact ⟨State.placeable_iff.1 hp, .inl hw⟩
    · obtain ⟨h1, h2⟩ := mem_spillArea.1 hn
      exact ⟨State.placeable_iff.1 hp,
        .inr ⟨hw, h1, h2, fun m hm hlt => hlow m (mem_spillArea.2 ⟨hm, by omega⟩) hlt⟩⟩
  · obtain ⟨hw, hs⟩ := State.placement_eq_none h
    exact ⟨hw, fun m h1 h2 => hs m (mem_spillArea.2 ⟨h1, h2⟩)⟩

end Sys2Proof.Machine
end

section
/-! What a clear does to the table, and the clear-due producer's admission (O33). -/

namespace Sys2Proof.Machine

variable {s : State}

/-! ### Slots cleared and spill counts adjusted -/

theorem State.spillCount_setSlot (s : State) (n : Nat) (w : WorkingSlot) (b : Nat) :
    (s.setSlot n w).spillCount b = s.spillCount b := rfl

theorem State.slot_spillLoss (s : State) (n : Nat) (id : List Byte) (m : Nat) : (s.spillLoss n id).slot m = s.slot m := by
  unfold State.spillLoss; split <;> rfl

theorem State.slot_spillGain (s : State) (n : Nat) (id : List Byte) (m : Nat) : (s.spillGain n id).slot m = s.slot m := by
  unfold State.spillGain; split <;> rfl

/-- The spill counts after an entry of this ID has left a slot (R17). -/
theorem State.spillCount_spillLoss (s : State) (n : Nat) (id : List Byte) (b : Nat) :
    (s.spillLoss n id).spillCount b = s.spillCount b - (if inSpill n = true ∧ b = homeBucket id then 1 else 0) := by
  unfold State.spillLoss
  by_cases hn : inSpill n = true
  · rw [if_pos hn, State.spillCount_setSpillCount]
    by_cases hb : b = homeBucket id <;> simp [hn, hb]
  · simp [hn]

/-- The spill counts after an entry of this ID has come to a slot (R17). -/
theorem State.spillCount_spillGain (s : State) (n : Nat) (id : List Byte) (b : Nat) :
    (s.spillGain n id).spillCount b = s.spillCount b + (if inSpill n = true ∧ b = homeBucket id then 1 else 0) := by
  unfold State.spillGain
  by_cases hn : inSpill n = true
  · rw [if_pos hn, State.spillCount_setSpillCount]
    by_cases hb : b = homeBucket id <;> simp [hn, hb]
  · simp [hn]

/-- What every slot holds after one was cleared (R12, R100). -/
theorem State.slot_clearSlot (s : State) (n m : Nat) :
    (s.clearSlot n).slot m = if m = n then ⟨.free, (s.slot n).worn, false⟩ else s.slot m := by
  unfold State.clearSlot
  split
  · rw [State.slot_spillLoss, State.slot_setSlot]
  · rw [State.slot_setSlot]

/-- The spill counts after a clear (R17). -/
theorem State.spillCount_clearSlot {n : Nat} {e : Entry} (he : s.entryAt n = some e) (b : Nat) :
    (s.clearSlot n).spillCount b = s.spillCount b - (if inSpill n = true ∧ b = homeBucket e.id then 1 else 0) := by
  simp only [State.clearSlot, he, State.spillCount_spillLoss, State.spillCount_setSlot]

/-- A clear writes the directory and the spill counts, and nothing else. -/
theorem State.clearSlot_frame (s : State) (n : Nat) : s.clearSlot n = { s with
    engine := { s.engine with
      slots := (s.clearSlot n).engine.slots
      spillCounts := (s.clearSlot n).engine.spillCounts } } := by
  unfold State.clearSlot State.spillLoss
  split
  · split <;> rfl
  · rfl

/-! ### The clear-due producer (R25, R105, R106) -/

theorem State.admitsInternal_iff : s.admitsInternal = true ↔ s.phase = .running ∧ s.commits.queue.length < 12 := by
  simp only [State.admitsInternal, State.freeCommits, Bool.and_eq_true, decide_eq_true_eq]
  have free : 4 < 16 - s.commits.queue.length ↔ s.commits.queue.length < 12 := by omega
  exact and_congr_right fun _ => decide_eq_true_iff.trans free

/-- The lowest number of a rising list that satisfies a test is the one found first. -/
theorem find?_eq_some_of_lowest {l : List Nat} (hl : rising l = true) {p : Nat → Bool} {n : Nat} (hn : n ∈ l)
    (hp : p n = true) (low : ∀ m ∈ l, m < n → p m = false) : l.find? p = some n := by
  obtain ⟨front, back, rfl⟩ := List.append_of_mem hn
  refine List.find?_eq_some_iff_append.2 ⟨hp, front, back, rfl, fun m hm => ?_⟩
  have hlt := (List.pairwise_append.1 ((rising_iff _).1 hl)).2.2 m hm n (by simp)
  simp [low m (by simp [hm]) hlt]

/-- The entry offered is the lowest on the list that is not pending (R25). -/
theorem State.clearDueOffer_eq_some (hr : rising s.engine.clearDue = true) {n : Nat} (hn : n ∈ s.engine.clearDue)
    (hp : s.isPending n = false) (low : ∀ m ∈ s.engine.clearDue, m < n → s.isPending m = true) :
    s.clearDueOffer = some n :=
  find?_eq_some_of_lowest hr hn (by simp [hp]) fun m hm hlt => by simp [low m hm hlt]

/-- Everything an admission of the clear-due producer can do (R105, R106). -/
theorem State.admitClear_cases (s : State) :
    s.admitClear = s ∨ ∃ n, s.admitsInternal = true ∧ s.clearDueOffer = some n ∧
      s.admitClear = (s.leaveClearDue n).joinQueue ⟨.clearEntry n, .clearDue⟩ := by
  unfold State.admitClear
  split
  · rename_i hi
    split
    · rename_i n hn
      exact .inr ⟨n, hi, hn, rfl⟩
    · exact .inl rfl
  · exact .inl rfl

/-- Settles O33, from what the producer offers and what a clear does. -/
theorem clearDueEntriesAreCleared : Obligations.ClearDueEntriesAreCleared := by
  refine ⟨fun s n hrun hfree hrise hn hpend low => ?_, fun s n e o rest hrun he hc => ?_⟩
  · have admits : s.admitsInternal = true := State.admitsInternal_iff.2 ⟨hrun, hfree⟩
    have offer := State.clearDueOffer_eq_some hrise hn hpend low
    show Host.Outcome.next s.admitClear = _
    simp only [State.admitClear, admits, offer, if_true]
    rfl
  · have done : exec .slotClearCompletion s = .next ((s.ended rest (s.store.clear n)).clearSlot n) :=
      congrArg Host.Outcome.next (State.complete_running hrun hc Change.isClear rfl .ok clearEffect)
    have he' : (s.ended rest (s.store.clear n)).entryAt n = some e := he
    refine ⟨_, done, ?_, fun m hm => ?_, ?_, fun b hb => ?_, ?_, ?_⟩
    · rw [State.slot_clearSlot, if_pos rfl]; rfl
    · rw [State.slot_clearSlot, if_neg hm]; rfl
    · rw [State.spillCount_clearSlot he']
      simp only [inSpill_iff, and_true]
      rfl
    · rw [State.spillCount_clearSlot he', if_neg (fun h => hb h.2)]; rfl
    · rw [State.clearSlot_frame]; rfl
    · rw [State.clearSlot_frame]; rfl

end Sys2Proof.Machine
end

section
/-! The state after reset meets every invariant (O56): every list is empty, so most clauses speak of nothing. -/

namespace Sys2Proof.Machine

theorem reset_withinBounds : State.reset.withinBounds := by
  have fresh : freshPort.withinPlaces := ⟨by decide, by decide⟩
  refine ⟨fresh, fresh, fresh, by decide, by decide, by decide, by decide, by decide,
    fun v h => (by cases h), by decide, fun n => ⟨Nat.zero_le _, fun g o h => (by cases h)⟩, fun e h => ?_⟩
  rcases h with ⟨n, h | h | h⟩ | ⟨n, h | h⟩ | ⟨a, b, h⟩ | ⟨n, c, hc, h⟩ | h
  · cases h
  · cases h
  · cases h
  · cases h
  · cases h
  · cases h
  · cases hc
  · cases h

theorem reset_marksSettled : State.reset.marksSettled :=
  ⟨fun _ _ => rfl, fun _ _ => rfl, fun m n h _ => (by cases h)⟩

theorem reset_accounted : State.reset.accounted :=
  ⟨⟨fun c hc => (by cases hc), fun w hw => (by cases hw)⟩,
    ⟨fun _ => ⟨rfl, fun _ => rfl, fun h => (by cases h)⟩, by decide, by decide, by decide, by decide, by decide⟩,
    ⟨by decide, fun c hc => (by cases hc)⟩,
    fun p => ⟨fun _ => by cases p <;> exact .refl _, fun h => absurd rfl h⟩⟩

theorem reset_directorySound : State.reset.directorySound where
  images _ := ⟨rfl, rfl, rfl⟩
  alone _ _ _ _ h := by cases h
  spill _ := by
    rw [List.filter_eq_nil_iff.2 fun n _ => by simp [State.entryAt, State.slot, State.reset, emptySlot, SlotContent.entry?]]
    rfl
  reserved n id x := ⟨fun h => (by cases h), fun h => (by cases h)⟩
  claimsApart := ⟨.nil, .nil⟩
  claimsPlaced _ _ _ h := by cases h
  newIds _ _ _ h := by cases h

theorem reset_holdsSound : State.reset.holdsSound where
  lie _ _ h := by cases h
  within _ _ _ h := by cases h
  settling _ h := by cases h
  modifying _ h := by cases h
  clearing _ := ⟨fun h => (by rcases h with h | h <;> cases h), fun h => (by cases h.1)⟩
  cleared _ h := by cases h

theorem reset_subjectsSound : State.reset.subjectsSound where
  apart := .nil
  lie _ h := by cases h
  single _ _ h := by cases h
  fresh _ h := by cases h
  living _ h := by cases h
  work _ _ h := by cases h

theorem reset_batchSound : State.reset.batchSound where
  apart := .nil
  fresh _ h := by cases h
  noScan h := by cases h
  recorded h := by cases h
  named h := by cases h
  stagedItems h := by cases h
  fedWhole h := by cases h
  stageWrites _ h := by cases h
  order front c back h := by cases front <;> cases h

theorem reset_tableSound : State.reset.tableSound where
  store :=
    { placed := fun _ _ h => by cases h
      alone := fun _ _ _ _ h => by cases h
      unmarked := fun _ _ => rfl }
  works _ h := by cases h
  spillFits _ := Nat.zero_le _
  directory _ := reset_directorySound
  holds _ := reset_holdsSound
  subjects _ := reset_subjectsSound
  batch _ := reset_batchSound

/-- Settles O56, invariant by invariant. -/
theorem resetMeetsTheInvariants : Obligations.ResetMeetsTheInvariants :=
  ⟨⟨rfl, rfl, rfl, rfl, rfl, rfl⟩, reset_withinBounds, reset_marksSettled, reset_accounted, reset_tableSound⟩

end Sys2Proof.Machine
end

section
/-! One inversion lemma for each take: everything its body can do, with the checks that have then passed. -/

namespace Sys2Proof.Machine

variable {s : State} {p : Port} {r : Request}

/-! ### What the arbiter's grant says (R179, R180) -/

/-- `k` more responses find a place on the port (R181). -/
def State.hasRoom (s : State) (p : Port) (k : Nat) : Prop :=
  (s.port p).filled.length + (s.port p).reserved.length + k ≤ Config.portPlaces

/-- A request that can be taken has room for its responses, and for its commit where it needs one (R179). -/
theorem State.takeable_room {k : Kind} (h : s.takeable p k = some r) :
    (0 < k.responsePlaces → s.hasRoom p k.responsePlaces) ∧
      (k.needsCommit = true → s.commits.queue.length < Config.commitPlaces) := by
  obtain ⟨hg, ⟨rest, hq⟩, rfl⟩ := State.takeable_eq_some.1 h
  have hc : s.portIsCandidate p = true := by
    rw [State.granted, if_pos (State.takeable_running h)] at hg
    exact List.find?_some (p := s.isCandidate) hg
  rw [State.portIsCandidate, hq] at hc
  obtain ⟨hr, hn⟩ := Bool.and_eq_true_iff.1 hc
  have hr := of_decide_eq_true hr
  refine ⟨fun hpos => ?_, fun hk => ?_⟩
  · unfold PortState.freePlaces at hr
    unfold State.hasRoom
    omega
  · rw [hk] at hn
    have hn : 1 ≤ s.freeCommits := of_decide_eq_true (by simpa using hn)
    unfold State.freeCommits at hn
    omega

/-! ### Answers alone -/

/-- The state after an answer on port `p` to the request `r`, whatever it says. -/
def State.answersTo (s : State) (p : Port) (r : Request) (t : State) : Prop :=
  ∃ status payload, t = s.answer p r status payload

theorem State.answersTo_answer (s : State) (p : Port) (r : Request) (status : Status) (payload : List Byte) :
    s.answersTo p r (s.answer p r status payload) := ⟨status, payload, rfl⟩

theorem takePresent_answers (s : State) (p : Port) (r : Request) : s.answersTo p r (takePresent p r s) := by
  unfold takePresent
  split
  · exact s.answersTo_answer _ _ _ _
  · split <;> exact s.answersTo_answer _ _ _ _

theorem takeQueryHold_answers (s : State) (p : Port) (r : Request) : s.answersTo p r (takeQueryHold p r s) := by
  unfold takeQueryHold
  split <;> exact s.answersTo_answer _ _ _ _

theorem takeListHolds_answers (s : State) (r : Request) : s.answersTo .mp r (takeListHolds r s) := by
  unfold takeListHolds
  dsimp only
  split <;> exact s.answersTo_answer _ _ _ _

theorem takeReadClass_answers (s : State) (r : Request) : s.answersTo .mp r (takeReadClass r s) := by
  unfold takeReadClass
  dsimp only
  split <;> exact s.answersTo_answer _ _ _ _

theorem takeReadEntry_answers (s : State) (r : Request) : s.answersTo .mp r (takeReadEntry r s) := by
  unfold takeReadEntry
  split
  · exact s.answersTo_answer _ _ _ _
  · split
    · exact s.answersTo_answer _ _ _ _
    · split <;> exact s.answersTo_answer _ _ _ _
  · split
    · exact s.answersTo_answer _ _ _ _
    · split <;> exact s.answersTo_answer _ _ _ _

/-! ### Holds (05) -/

/-- A place answers with a live hold only for the hold in it (R77, R81). -/
theorem HoldPlace.answer_live {x : HoldPlace} {g : Nat} {h : Hold} (ha : x.answer g = .live h) : x.live = some h := by
  have closed : ∀ o : Option (Nat × HoldOutcome), (match o with
      | some (k, outcome) => if k = g then PlaceAnswer.ended outcome else .unknown
      | none => .unknown) ≠ .live h := by
    rintro (_ | ⟨k, outcome⟩)
    · nofun
    · dsimp only; split <;> nofun
  obtain ⟨generation, live, closing⟩ := x
  unfold HoldPlace.answer at ha
  cases live with
  | none => exact absurd ha (closed closing)
  | some y =>
    dsimp only at ha
    split at ha
    · cases ha; rfl
    · exact absurd ha (closed closing)

/-- A hold that a handle check finds is live in its place (R77). -/
theorem State.checkHandle_found {x : Handle} {h : Hold} (hf : s.checkHandle p x = .found h) :
    x.number < Config.holdPlaces ∧ (s.place x.number).live = some h := by
  unfold State.checkHandle at hf
  split at hf
  · cases hf
  · rename_i hn
    split at hf
    · cases hf
    · split at hf
      · rename_i y hy
        split at hf
        · cases hf
        · cases hf
          exact ⟨Nat.lt_of_not_le hn, HoldPlace.answer_live hy⟩
      · cases hf
      · cases hf

theorem takeDraw_cases (s : State) (p : Port) (r : Request) :
    s.answersTo p r (takeDraw p r s) ∨ ∃ id units part slot e n,
      s.verdict ⟨p, true, some units, part⟩ id = .positive slot e ∧ s.freePlace = some n ∧
      takeDraw p r s = s.grantDraw p r slot e units n := by
  unfold takeDraw
  split
  · exact .inl (s.answersTo_answer _ _ _ _)
  · rename_i id units part _
    split
    · exact .inl (s.answersTo_answer _ _ _ _)
    · exact .inl (s.answersTo_answer _ _ _ _)
    · rename_i slot e hv
      split
      · rename_i n hn
        exact .inr ⟨id, units, part, slot, e, n, hv, hn, rfl⟩
      · exact .inl (s.answersTo_answer _ _ _ _)

theorem takeExtend_cases (s : State) (p : Port) (r : Request) :
    s.answersTo p r (takeExtend p r s) ∨ ∃ n h d payload, (s.place n).live = some h ∧ h.isSettling = false ∧
      takeExtend p r s = (s.setHold n { h with deadline := d }).answer p r .ok payload := by
  unfold takeExtend
  dsimp only
  split
  · exact .inl (s.answersTo_answer _ _ _ _)
  · split
    · exact .inl (s.answersTo_answer _ _ _ _)
    · exact .inl (s.answersTo_answer _ _ _ _)
    · rename_i h hf
      obtain ⟨-, hl⟩ := State.checkHandle_found hf
      split
      · exact .inl (s.answersTo_answer _ _ _ _)
      · rename_i hs
        exact .inr ⟨_, h, _, _, hl, Bool.eq_false_iff.2 hs, rfl⟩

/-- A take ends the OPEN hold of a place and answers. -/
def State.closesHold (s : State) (p : Port) (r : Request) (t : State) : Prop :=
  ∃ n h outcome payload, n < Config.holdPlaces ∧ (s.place n).live = some h ∧ h.isSettling = false ∧
    t = (s.endHold n outcome).answer p r .ok payload

theorem takeRelease_cases (s : State) (p : Port) (r : Request) :
    s.answersTo p r (takeRelease p r s) ∨ s.closesHold p r (takeRelease p r s) := by
  unfold takeRelease
  dsimp only
  split
  · exact .inl (s.answersTo_answer _ _ _ _)
  · exact .inl (s.answersTo_answer _ _ _ _)
  · rename_i h hf
    obtain ⟨hn, hl⟩ := State.checkHandle_found hf
    split
    · exact .inl (s.answersTo_answer _ _ _ _)
    · rename_i hs
      exact .inr ⟨_, h, _, _, hn, hl, Bool.eq_false_iff.2 hs, rfl⟩

theorem takeForceRelease_cases (s : State) (r : Request) :
    s.answersTo .mp r (takeForceRelease r s) ∨ s.closesHold .mp r (takeForceRelease r s) := by
  unfold takeForceRelease
  dsimp only
  split
  · exact .inl (s.answersTo_answer _ _ _ _)
  · rename_i hn
    split
    · rename_i h hf
      split
      · exact .inl (s.answersTo_answer _ _ _ _)
      · rename_i hs
        exact .inr ⟨_, h, _, _, Nat.lt_of_not_le hn, HoldPlace.answer_live hf, Bool.eq_false_iff.2 hs, rfl⟩
    · exact .inl (s.answersTo_answer _ _ _ _)
    · exact .inl (s.answersTo_answer _ _ _ _)

theorem takeSettle_cases (s : State) (p : Port) (r : Request) :
    s.answersTo p r (takeSettle p r s) ∨ ∃ n h u, n < Config.holdPlaces ∧ (s.place n).live = some h ∧
      s.settleRefusal h u = none ∧
      takeSettle p r s = (s.setHold n { h with state := .settling u }).accept p r (.settleHold h.slot n u) := by
  unfold takeSettle
  dsimp only
  split
  · exact .inl (s.answersTo_answer _ _ _ _)
  · exact .inl (s.answersTo_answer _ _ _ _)
  · rename_i h hf
    obtain ⟨hn, hl⟩ := State.checkHandle_found hf
    split
    · exact .inl (s.answersTo_answer _ _ _ _)
    · rename_i hs
      exact .inr ⟨_, h, _, hn, hl, hs, rfl⟩

/-- What a Settle that is not refused has passed (R88). -/
theorem State.settleRefusal_eq_none {h : Hold} {u : Nat} (hs : s.settleRefusal h u = none) :
    h.isSettling = false ∧ u ≤ h.units ∧ s.isPending h.slot = false ∧ s.locked h.slot = false := by
  unfold State.settleRefusal at hs
  split at hs
  · cases hs
  · split at hs
    · cases hs
    · split at hs
      · cases hs
      · split at hs
        · cases hs
        · rename_i h1 h2 h3 h4
          exact ⟨Bool.eq_false_iff.2 h1, Nat.le_of_not_lt h2, Bool.eq_false_iff.2 h3, Bool.eq_false_iff.2 h4⟩

/-! ### Changes and classes (02, 07) -/

theorem takeChange_cases (item : Option Item) (r : Request) (s : State) :
    s.answersTo .mp r (takeChange item r s) ∨ ∃ x slot, item = some x ∧ s.batch.isLocked = false ∧
      s.validate s.inhibited x = .ok slot ∧
      takeChange item r s = (s.reserveFor x slot .singleInsert).accept .mp r (x.change slot) := by
  unfold takeChange
  split
  · exact .inl (s.answersTo_answer _ _ _ _)
  · rename_i x
    split
    · exact .inl (s.answersTo_answer _ _ _ _)
    · rename_i hl
      split
      · exact .inl (s.answersTo_answer _ _ _ _)
      · rename_i slot hv
        exact .inr ⟨x, slot, rfl, Bool.eq_false_iff.2 hl, hv, rfl⟩

/-- A target that a Relocate may name or place (R21, R135). -/
theorem State.eligibleTarget_iff {id : List Byte} {t : Nat} :
    s.eligibleTarget id t = true → s.placeable t = true ∧ liesRight t id := by
  intro h
  simp only [State.eligibleTarget, Bool.and_eq_true, Bool.or_eq_true, List.contains_iff_mem] at h
  exact ⟨h.1.2, h.2⟩

theorem State.placement_lies {id : List Byte} {t : Nat} (h : s.placement id = some t) :
    s.placeable t = true ∧ liesRight t id := by
  obtain ⟨hp, ⟨hw, -⟩ | ⟨-, hs, -⟩⟩ := State.placement_eq_some h
  · exact ⟨hp, .inl hw⟩
  · exact ⟨hp, .inr (mem_spillArea_iff_inSpill.1 hs)⟩

theorem State.freeWay_lies {id : List Byte} {t : Nat} (h : s.freeWay id = some t) :
    s.placeable t = true ∧ liesRight t id :=
  ⟨List.find?_some h, .inl (List.mem_of_find?_eq_some h)⟩

theorem takeRelocate_cases (s : State) (r : Request) :
    (∃ t, (s.spendFree t).answersTo .mp r (takeRelocate r s)) ∨ s.answersTo .mp r (takeRelocate r s) ∨
      ∃ id slot t, s.batch.isLocked = false ∧ s.lookup id = some slot ∧ s.isPending slot = false ∧
        s.placeable t = true ∧ liesRight t id ∧
        takeRelocate r s = (s.reserveSlot t id .move).accept .mp r (.moveEntry slot t) := by
  unfold takeRelocate
  split
  · exact .inr (.inl (s.answersTo_answer _ _ _ _))
  · rename_i id target _
    split
    · exact .inr (.inl (s.answersTo_answer _ _ _ _))
    · rename_i hl
      split
      · exact .inr (.inl (s.answersTo_answer _ _ _ _))
      · rename_i slot hs
        split
        · exact .inr (.inl (s.answersTo_answer _ _ _ _))
        · rename_i hp
          have passed := And.intro (Bool.eq_false_iff.2 hl) (And.intro hs (Bool.eq_false_iff.2 hp))
          obtain ⟨hl, hs, hp⟩ := passed
          split
          · rename_i t _
            split
            · rename_i ht
              obtain ⟨hf, hr⟩ := State.eligibleTarget_iff ht
              exact .inr (.inr ⟨id, slot, t, hl, hs, hp, hf, hr, rfl⟩)
            · exact .inl ⟨t, _, _, rfl⟩
          · split
            · rename_i t ht
              obtain ⟨hf, hr⟩ := State.placement_lies ht
              exact .inr (.inr ⟨id, slot, t, hl, hs, hp, hf, hr, rfl⟩)
            · exact .inr (.inl (s.answersTo_answer _ _ _ _))

theorem takeSetClass_cases (s : State) (r : Request) :
    s.answersTo .mp r (takeSetClass r s) ∨ ∃ c record, takeSetClass r s = s.accept .mp r (.writeClass c record) := by
  unfold takeSetClass
  split
  · exact .inl (s.answersTo_answer _ _ _ _)
  · split
    · exact .inl (s.answersTo_answer _ _ _ _)
    · exact .inr ⟨_, _, rfl⟩

/-! ### Batches and scans (08, 09) -/

theorem takeStage_cases (s : State) (r : Request) :
    s.answersTo .mp r (takeStage r s) ∨ ∃ item payload, s.batch.isLocked = false ∧ readStage r.payload = some item ∧
      s.batch.items.length < Config.batchItems ∧ s.batch.indexOf item.id = none ∧
      takeStage r s =
        (s.setBatch { s.batch with state := .opened, items := s.batch.items ++ [item] }).answer .mp r .ok payload := by
  unfold takeStage
  split
  · exact .inl (s.answersTo_answer _ _ _ _)
  · rename_i hl
    split
    · exact .inl (s.answersTo_answer _ _ _ _)
    · rename_i item hi
      split
      · exact .inl (s.answersTo_answer _ _ _ _)
      · rename_i hn
        split
        · exact .inl (s.answersTo_answer _ _ _ _)
        · rename_i hx
          exact .inr ⟨item, _, Bool.eq_false_iff.2 hl, hi, Nat.lt_of_not_le hn, hx, rfl⟩

theorem takeDiscard_cases (s : State) (r : Request) :
    s.answersTo .mp r (takeDiscard r s) ∨ ∃ payload, s.batch.state = .opened ∧ takeDiscard r s =
      (s.setBatch { s.batch with state := .empty, items := [], lastResult := none }).answer .mp r .ok payload := by
  unfold takeDiscard
  split
  · exact .inl (s.answersTo_answer _ _ _ _)
  · exact .inl (s.answersTo_answer _ _ _ _)
  · exact .inl (s.answersTo_answer _ _ _ _)
  · rename_i ho
    exact .inr ⟨_, ho, rfl⟩

theorem takeApply_cases (s : State) (r : Request) :
    s.answersTo .mp r (takeApply r s) ∨
      (∃ result, (s.setBatch { s.batch with lastResult := some result }).answersTo .mp r (takeApply r s)) ∨
      ∃ t records, s.batch.isLocked = false ∧ s.scan.state ≠ .running ∧
        s.validateItems s.inhibited 0 s.batch.items = .ok (t, records) ∧ takeApply r s = t.acceptApply r records := by
  unfold takeApply
  split
  · exact .inl (s.answersTo_answer _ _ _ _)
  · split
    · exact .inl (s.answersTo_answer _ _ _ _)
    · rename_i hl
      split
      · exact .inl (s.answersTo_answer _ _ _ _)
      · rename_i hscan
        split
        · exact .inr (.inl ⟨_, _, _, rfl⟩)
        · rename_i t records hv
          exact .inr (.inr ⟨t, records, Bool.eq_false_iff.2 hl, fun h => hscan (.inl h), hv, rfl⟩)

theorem takeStartScan_cases (s : State) (r : Request) :
    s.answersTo .mp r (takeStartScan r s) ∨ ∃ kind argument payload, s.scan.state = .idle ∧ s.batch.isLocked = false ∧
      takeStartScan r s = ((s.setScan (startedScan kind argument s.time.deviceTime r.tag)).answer .mp r .accepted
        payload).reserve .mp scanNotice r.tag := by
  unfold takeStartScan
  split
  · exact .inl (s.answersTo_answer _ _ _ _)
  · split
    · exact .inl (s.answersTo_answer _ _ _ _)
    · rename_i hi
      split
      · exact .inl (s.answersTo_answer _ _ _ _)
      · rename_i hl
        split
        · exact .inl (s.answersTo_answer _ _ _ _)
        · exact .inr ⟨_, _, _, not_not.1 hi, Bool.eq_false_iff.2 hl, rfl⟩

/-- A take moves the scan to another state, which is RUNNING only where no batch is locked, and answers (R149). -/
def State.movesScan (s : State) (r : Request) (t : State) : Prop :=
  ∃ state, (state = .running → s.batch.isLocked = false) ∧
    (s.setScan { s.scan with state := state }).answersTo .mp r t

theorem takeSuspendScan_cases (s : State) (r : Request) :
    s.answersTo .mp r (takeSuspendScan r s) ∨ s.movesScan r (takeSuspendScan r s) := by
  unfold takeSuspendScan
  split
  · exact .inr ⟨.suspended, nofun, _, _, rfl⟩
  · exact .inl (s.answersTo_answer _ _ _ _)
  · exact .inl (s.answersTo_answer _ _ _ _)
  · exact .inl (s.answersTo_answer _ _ _ _)

theorem takeResumeScan_cases (s : State) (r : Request) :
    s.answersTo .mp r (takeResumeScan r s) ∨ s.movesScan r (takeResumeScan r s) := by
  unfold takeResumeScan
  split
  · exact .inl (s.answersTo_answer _ _ _ _)
  · exact .inl (s.answersTo_answer _ _ _ _)
  · exact .inl (s.answersTo_answer _ _ _ _)
  · split
    · exact .inl (s.answersTo_answer _ _ _ _)
    · rename_i hl
      exact .inr ⟨.running, fun _ => Bool.eq_false_iff.2 hl, _, _, rfl⟩

theorem takeAbortScan_cases (s : State) (r : Request) :
    s.answersTo .mp r (takeAbortScan r s) ∨ ∃ payload, s.scan.state ≠ .idle ∧
      takeAbortScan r s = (s.answer .mp r .ok payload).endWalk := by
  unfold takeAbortScan
  split
  · exact .inl (s.answersTo_answer _ _ _ _)
  · exact .inl (s.answersTo_answer _ _ _ _)
  · rename_i h
    exact .inr ⟨_, by simp [h], rfl⟩
  · rename_i h
    exact .inr ⟨_, by simp [h], rfl⟩

/-! ### Time (03) -/

theorem takeSetTime_cases (s : State) (r : Request) :
    s.answersTo .mp r (takeSetTime r s) ∨ ∃ payload,
      takeSetTime r s = State.answer
        { s with time := { s.time with deviceTime := some (field r.payload 0 4) } } .mp r .ok payload := by
  unfold takeSetTime
  dsimp only
  split
  · exact .inr ⟨_, rfl⟩
  · exact .inl (s.answersTo_answer _ _ _ _)

end Sys2Proof.Machine
end

section
/-! What a command can do, as a chain of writes of single parts of the state, each with what keeps that part within its
bounds. The canonical form, the bounds and the guard of the durable store all follow from this one inversion. -/

namespace Sys2Proof.Machine

/-! ### The bounds, part by part -/

/-- The image that a work writes. -/
def Work.image? : Work → Option Entry
  | .writeImage _ e => some e
  | .writeStaged _ e => some e
  | .moveImage _ _ e => some e
  | .writeClass _ _ => none
  | .clear _ => none
  | .mark _ => none
  | .promote _ => none

/-- The image that a commit carries in its change description. -/
def Change.image? : Change → Option Entry
  | .insertEntry _ e => some e
  | _ => none

/-- The image that a batch item carries. -/
def Item.image? : Item → Option Entry
  | .insert e => some e
  | _ => none

/-- Every image in an option is in its range. -/
def imageInRange (x : Option Entry) : Prop := ∀ e, x = some e → e.countsInRange

/-- Both counts of seconds and the divider are in range (R42 to R44, R50). -/
def Timebase.inRange (t : Timebase) : Prop :=
  t.divider < Config.dividerPeriods ∧ t.holdClock ≤ maxSeconds ∧ ∀ v, t.deviceTime = some v → v ≤ maxSeconds

/-- Both generations of a hold place are in range (R73, R74). -/
def HoldPlace.inRange (x : HoldPlace) : Prop := x.generation ≤ 255 ∧ ∀ g o, x.closing = some (g, o) → g ≤ 255

/-- The start counter and every image of the store are in range (R115, Table 1-1). -/
structure Store.inRange (st : Store) : Prop where
  counter : st.startCounter < 65536
  images : ∀ n, imageInRange (st.slot n).image
  staged : ∀ n, imageInRange (st.slot n).staged

/-- The commit queue has its places, and each image in the commit unit is in range (R101, Table 1-1). -/
structure CommitUnit.inRange (c : CommitUnit) : Prop where
  places : c.queue.length ≤ Config.commitPlaces
  queue : ∀ x ∈ c.queue, imageInRange x.change.image?
  work : ∀ w, c.work = some w → imageInRange w.image?

/-- The batch buffer has its places, and each new image in it is in range (R139, Table 1-1). -/
structure Batch.inRange (b : Batch) : Prop where
  places : b.items.length ≤ Config.batchItems
  items : ∀ x ∈ b.items, imageInRange x.image?

/-- The bounds of the state, one for each part of it. -/
structure State.bounded (s : State) : Prop where
  ports : ∀ p, (s.port p).withinPlaces
  commits : s.commits.inRange
  batch : s.batch.inRange
  cursor : s.scan.cursor ≤ Config.slots
  time : s.time.inRange
  store : s.store.inRange
  places : ∀ n, (s.place n).inRange
  entries : ∀ n, imageInRange (s.entryAt n)

theorem Work.image?_eq_some {w : Work} {e : Entry} : w.image? = some e ↔
    (∃ n, w = .writeImage n e ∨ w = .writeStaged n e) ∨ ∃ a b, w = .moveImage a b e := by
  cases w <;> simp [Work.image?]

theorem Change.image?_eq_some {c : Change} {e : Entry} : c.image? = some e ↔ ∃ n, c = .insertEntry n e := by
  cases c <;> simp [Change.image?]

theorem Item.image?_eq_some {x : Item} {e : Entry} : x.image? = some e ↔ x = .insert e := by
  cases x <;> simp [Item.image?]

/-- The bounds of the statement are those of the parts. -/
theorem State.withinBounds_iff (s : State) : s.withinBounds ↔ s.bounded := by
  constructor
  · rintro ⟨hmp, htp0, htp1, hq, hb, hcur, hdiv, hclock, htime, hcount, hplace, himg⟩
    exact
      { ports := fun p => by cases p <;> assumption
        commits :=
          { places := hq
            queue := fun c hc e he => by
              obtain ⟨n, hn⟩ := Change.image?_eq_some.1 he
              exact himg e (.inr (.inr (.inr (.inl ⟨n, c, hc, hn⟩))))
            work := fun w hw e he => by
              rcases Work.image?_eq_some.1 he with ⟨n, rfl | rfl⟩ | ⟨a, b, rfl⟩
              · exact himg e (.inr (.inl ⟨n, .inl hw⟩))
              · exact himg e (.inr (.inl ⟨n, .inr hw⟩))
              · exact himg e (.inr (.inr (.inl ⟨a, b, hw⟩))) }
        batch :=
          { places := hb
            items := fun x hx e he => by
              rw [Item.image?_eq_some.1 he] at hx
              exact himg e (.inr (.inr (.inr (.inr hx)))) }
        cursor := hcur
        time := ⟨hdiv, hclock, htime⟩
        store :=
          { counter := hcount
            images := fun n e he => himg e (.inl ⟨n, .inr (.inl he)⟩)
            staged := fun n e he => himg e (.inl ⟨n, .inr (.inr he)⟩) }
        places := hplace
        entries := fun n e he => himg e (.inl ⟨n, .inl he⟩) }
  · intro h
    refine ⟨h.ports .mp, h.ports .tp0, h.ports .tp1, h.commits.places, h.batch.places, h.cursor, h.time.1, h.time.2.1,
      h.time.2.2, h.store.counter, h.places, fun e he => ?_⟩
    rcases he with ⟨n, he | he | he⟩ | ⟨n, hw | hw⟩ | ⟨a, b, hw⟩ | ⟨n, c, hc, hn⟩ | hx
    · exact h.entries n e he
    · exact h.store.images n e he
    · exact h.store.staged n e he
    · exact h.commits.work _ hw e rfl
    · exact h.commits.work _ hw e rfl
    · exact h.commits.work _ hw e rfl
    · exact h.commits.queue c hc e (by rw [hn]; rfl)
    · exact h.batch.items _ hx e rfl

/-! ### Single writes -/

/-- What a write of the durable store keeps in any case: the canonical form, and every wear mark (R15, R109). -/
structure Store.keeps (st st' : Store) : Prop where
  worn : ∀ n, (st.slot n).worn = true → (st'.slot n).worn = true
  slots : Table.wf emptyDurable st.slots = true → Table.wf emptyDurable st'.slots = true
  classes : Table.wf factoryClass st.classes = true → Table.wf factoryClass st'.classes = true

/-- One write of a part of the state. `B` says that the state in which the command began was within its bounds, and `w`
whether the durable store may be written. -/
inductive Edit (B : Prop) : Bool → State → State → Prop
  | port (w s p x) : (B → s.bounded → x.withinPlaces) → Edit B w s (s.setPort p x)
  | pointer (w s c) : Edit B w s (s.setPointer c)
  | slot (w s n x) : (B → s.bounded → imageInRange x.content.entry?) → Edit B w s (s.setSlot n x)
  | spill (w s b v) : Edit B w s (s.setSpillCount b v)
  | joinDue (w s n) : Edit B w s (s.joinClearDue n)
  | leaveDue (w s n) : Edit B w s (s.leaveClearDue n)
  | dropTable (w s c) : Edit B w s { s with engine := ⟨[], [], [], c⟩ }
  | place (w s n x) : (B → s.bounded → x.inRange) → Edit B w s (s.setPlace n x)
  | dropHolds (w s) : Edit B w s { s with holds := [] }
  | commits (w s c) : (B → s.bounded → c.inRange) → Edit B w s { s with commits := c }
  | batch (w s b) : (B → s.bounded → b.inRange) → Edit B w s (s.setBatch b)
  | scan (w s x) : (B → s.bounded → x.cursor ≤ Config.slots) → Edit B w s (s.setScan x)
  | time (w s t) : (B → s.bounded → t.inRange) → Edit B w s { s with time := t }
  | flags (w s phase low inhibited free) :
      Edit B w s { s with phase := phase, resetLow := low, inhibited := inhibited, freeIndex := free }
  | store (s st) : s.store.keeps st → (B → s.bounded → st.inRange) → Edit B true s { s with store := st }

/-- A chain of writes. -/
abbrev Edits (B : Prop) (w : Bool) : State → State → Prop := Relation.ReflTransGen (Edit B w)

variable {B : Prop} {w : Bool} {s t u : State}

theorem Edit.chain (h : Edit B w s t) : Edits B w s t := .single h

/-- Without leave to do so, no write touches the durable store. -/
theorem Edit.store_eq (h : Edit B w s t) (hw : w = false) : t.store = s.store := by
  cases h with
  | store => cases hw
  | _ => simp

theorem Edits.store_eq (h : Edits B false s t) : t.store = s.store := by
  induction h with
  | refl => rfl
  | tail _ h ih => rw [h.store_eq rfl, ih]

/-- No write takes a wear mark off the durable store. -/
theorem Edit.keeps_worn (h : Edit B w s t) {n : Nat} (hn : (s.store.slot n).worn = true) :
    (t.store.slot n).worn = true := by
  cases h with
  | store _ st hk _ => exact hk.worn n hn
  | _ => simpa using hn

theorem Edits.keeps_worn (h : Edits B w s t) {n : Nat} (hn : (s.store.slot n).worn = true) :
    (t.store.slot n).worn = true := by
  induction h with
  | refl => exact hn
  | tail _ h ih => exact h.keeps_worn ih

/-- Every write keeps the canonical form. -/
theorem Edit.keeps_canonical (h : Edit B w s t) (hs : s.canonical) : t.canonical := by
  obtain ⟨hslots, hspill, hholds, hstore, hclasses, hdue⟩ := hs
  cases h with
  | port => exact ⟨by simpa, by simpa, by simpa, by simpa, by simpa, by simpa⟩
  | slot => exact ⟨State.wf_setSlot _ _ _ hslots, hspill, hholds, hstore, hclasses, hdue⟩
  | spill => exact ⟨hslots, State.wf_setSpillCount _ _ _ hspill, hholds, hstore, hclasses, hdue⟩
  | joinDue => exact ⟨hslots, hspill, hholds, hstore, hclasses, rising_insertRising _ _ hdue⟩
  | leaveDue => exact ⟨hslots, hspill, hholds, hstore, hclasses, rising_filter _ _ hdue⟩
  | dropTable => exact ⟨rfl, rfl, hholds, hstore, hclasses, rfl⟩
  | place => exact ⟨hslots, hspill, State.wf_setPlace _ _ _ hholds, hstore, hclasses, hdue⟩
  | dropHolds => exact ⟨hslots, hspill, rfl, hstore, hclasses, hdue⟩
  | store _ st hk _ => exact ⟨hslots, hspill, hholds, hk.slots hstore, hk.classes hclasses, hdue⟩
  | pointer => exact ⟨hslots, hspill, hholds, hstore, hclasses, hdue⟩
  | commits => exact ⟨hslots, hspill, hholds, hstore, hclasses, hdue⟩
  | batch => exact ⟨hslots, hspill, hholds, hstore, hclasses, hdue⟩
  | scan => exact ⟨hslots, hspill, hholds, hstore, hclasses, hdue⟩
  | time => exact ⟨hslots, hspill, hholds, hstore, hclasses, hdue⟩
  | flags => exact ⟨hslots, hspill, hholds, hstore, hclasses, hdue⟩

theorem Edits.keeps_canonical (h : Edits B w s t) (hs : s.canonical) : t.canonical := by
  induction h with
  | refl => exact hs
  | tail _ h ih => exact h.keeps_canonical ih

theorem State.entryAt_setPort (s : State) (p : Port) (x : PortState) (n : Nat) : (s.setPort p x).entryAt n = s.entryAt n := by
  cases p <;> rfl

theorem State.place_setPort (s : State) (p : Port) (x : PortState) (n : Nat) : (s.setPort p x).place n = s.place n := by
  cases p <;> rfl

theorem State.bounded.ports_of (hs : s.bounded) (hmp : t.mp = s.mp) (htp0 : t.tp0 = s.tp0) (htp1 : t.tp1 = s.tp1)
    (p : Port) : (t.port p).withinPlaces := by
  cases p with
  | mp => rw [State.port, hmp]; exact hs.ports .mp
  | tp0 => rw [State.port, htp0]; exact hs.ports .tp0
  | tp1 => rw [State.port, htp1]; exact hs.ports .tp1

/-- Every write keeps the bounds. -/
theorem Edit.keeps_bounded (h : Edit B w s t) (hB : B) (hs : s.bounded) : t.bounded := by
  cases h with
  | port _ _ p x hx =>
    exact { commits := by simpa using hs.commits
            batch := by simpa using hs.batch
            cursor := by simpa using hs.cursor
            time := by simpa using hs.time
            store := by simpa using hs.store
            places := fun n => by rw [State.place_setPort]; exact hs.places n
            entries := fun n => by rw [State.entryAt_setPort]; exact hs.entries n
            ports := fun q => by
              rw [State.port_setPort]
              split
              · exact hx hB hs
              · exact hs.ports q }
  | slot _ _ n x hx =>
    exact { hs with
      ports := hs.ports_of rfl rfl rfl
      entries := fun m => by
        rw [State.entryAt_setSlot]
        split
        · exact hx hB hs
        · exact hs.entries m }
  | place _ _ n x hx =>
    exact { hs with
      ports := hs.ports_of rfl rfl rfl
      places := fun m => by
        rw [State.place_setPlace]
        split
        · exact hx hB hs
        · exact hs.places m }
  | pointer _ _ c => exact { hs with ports := hs.ports_of rfl rfl rfl }
  | spill _ _ b v => exact { hs with ports := hs.ports_of rfl rfl rfl }
  | joinDue _ _ n => exact { hs with ports := hs.ports_of rfl rfl rfl }
  | leaveDue _ _ n => exact { hs with ports := hs.ports_of rfl rfl rfl }
  | dropTable => exact { hs with ports := hs.ports_of rfl rfl rfl, entries := fun _ _ h => by cases h }
  | dropHolds =>
    exact { hs with
      ports := hs.ports_of rfl rfl rfl
      places := fun _ => ⟨Nat.zero_le _, fun _ _ h => by cases h⟩ }
  | commits _ _ c hc => exact { hs with ports := hs.ports_of rfl rfl rfl, commits := hc hB hs }
  | batch _ _ b hb => exact { hs with ports := hs.ports_of rfl rfl rfl, batch := hb hB hs }
  | scan _ _ x hx => exact { hs with ports := hs.ports_of rfl rfl rfl, cursor := hx hB hs }
  | time _ _ x hx => exact { hs with ports := hs.ports_of rfl rfl rfl, time := hx hB hs }
  | flags => exact { hs with ports := hs.ports_of rfl rfl rfl }
  | store _ st _ hst => exact { hs with ports := hs.ports_of rfl rfl rfl, store := hst hB hs }

theorem Edits.keeps_bounded (h : Edits B w s t) (hB : B) (hs : s.bounded) : t.bounded := by
  induction h with
  | refl => exact hs
  | tail _ h ih => exact h.keeps_bounded hB ih

end Sys2Proof.Machine
end

section
/-! Every named operation as a chain of writes: the durable store first, then ports, slots, holds and commits. -/

namespace Sys2Proof.Machine

/-! ### The durable store -/

/-- A change of the durable store keeps the canonical form and the wear marks, and under `C` the ranges. -/
structure Store.evolves (C : Prop) (st st' : Store) : Prop extends Store.keeps st st' where
  ranges : C → st.inRange → st'.inRange

variable {C : Prop} {st st' st'' : Store}

theorem Store.evolves.refl (C : Prop) (st : Store) : st.evolves C st := ⟨⟨fun _ h => h, id, id⟩, fun _ h => h⟩

theorem Store.evolves.trans (h : st.evolves C st') (h' : st'.evolves C st'') : st.evolves C st'' :=
  ⟨⟨fun n hn => h'.worn n (h.worn n hn), fun hs => h'.slots (h.slots hs), fun hc => h'.classes (h.classes hc)⟩,
    fun c hr => h'.ranges c (h.ranges c hr)⟩

theorem Store.evolves.foldl {α : Type} {f : Store → α → Store} (h : ∀ (st : Store) a, st.evolves C (f st a)) (l : List α)
    (st : Store) : st.evolves C (l.foldl f st) := by
  induction l generalizing st with
  | nil => exact .refl C st
  | cons a l ih => exact (h st a).trans (ih _)

theorem Store.evolves_setSlot {n : Nat} {d : DurableSlot} (hw : (st.slot n).worn = true → d.worn = true)
    (hi : C → st.inRange → imageInRange d.image ∧ imageInRange d.staged) : st.evolves C (st.setSlot n d) where
  worn m hm := by
    rw [Store.slot_setSlot]
    split
    · rename_i h; subst h; exact hw hm
    · exact hm
  slots := Store.wf_setSlot _ _ _
  classes := id
  ranges c hr :=
    { counter := hr.counter
      images := fun m => by
        rw [Store.slot_setSlot]
        split
        · exact (hi c hr).1
        · exact hr.images m
      staged := fun m => by
        rw [Store.slot_setSlot]
        split
        · exact (hi c hr).2
        · exact hr.staged m }

theorem Store.evolves_setClass (c : Nat) (x : ClassStore) : st.evolves C (st.setClass c x) where
  worn _ h := h
  slots := id
  classes := Store.wf_setClass _ _ _
  ranges _ hr := ⟨hr.counter, hr.images, hr.staged⟩

theorem imageInRange_none : imageInRange none := nofun

theorem imageInRange_some {e : Entry} (h : e.countsInRange) : imageInRange (some e) := by
  rintro _ ⟨⟩; exact h

theorem Store.evolves_writeImage {n : Nat} {e : Entry} (he : C → e.countsInRange) : st.evolves C (st.writeImage n e) :=
  Store.evolves_setSlot id fun c hr => ⟨imageInRange_some (he c), hr.staged n⟩

theorem Store.evolves_clear (n : Nat) : st.evolves C (st.clear n) :=
  Store.evolves_setSlot id fun _ hr => ⟨imageInRange_none, hr.staged n⟩

theorem Store.evolves_wear (n : Nat) : st.evolves C (st.wear n) :=
  Store.evolves_setSlot (fun _ => rfl) fun _ hr => ⟨hr.images n, hr.staged n⟩

theorem Store.evolves_discardStaged : st.evolves C st.discardStaged :=
  Store.evolves.foldl (fun st n => Store.evolves_setSlot (d := { st.slot n with staged := none }) id
    fun _ hr => ⟨hr.images n, imageInRange_none⟩) _ _

theorem Store.evolves_promoteSlot (x : Nat × Promotion) : st.evolves C (st.promoteSlot x) := by
  obtain ⟨n, x⟩ := x
  cases x with
  | makeCurrent => exact Store.evolves_setSlot id fun _ hr => ⟨hr.staged n, imageInRange_none⟩
  | clear => exact Store.evolves_setSlot id fun _ _ => ⟨imageInRange_none, imageInRange_none⟩
  | mark => exact Store.evolves_setSlot id fun _ hr => ⟨hr.images n, imageInRange_none⟩

theorem Store.evolves_raiseCounter : st.evolves C st.raiseCounter :=
  ⟨⟨fun _ h => h, id, id⟩, fun _ hr => ⟨Nat.mod_lt _ (by decide), hr.images, hr.staged⟩⟩

theorem Store.evolves_settleMark (n : Nat) : st.evolves C (st.settleMark n) := by
  have unmark : st.evolves C (st.setSlot n { st.slot n with moveTarget := false }) :=
    Store.evolves_setSlot id fun _ hr => ⟨hr.images n, hr.staged n⟩
  unfold Store.settleMark
  split
  · split
    · split
      · exact Store.evolves_clear n
      · exact unmark
    · exact unmark
  · exact .refl C st

theorem Store.evolves_settle : st.evolves C st.settle :=
  (Store.evolves.foldl (fun _ n => Store.evolves_settleMark n) _ _).trans Store.evolves_discardStaged

/-- The updates of a work, as many as there are. -/
theorem Work.evolves_updates (w : Work) (hw : C → imageInRange w.image?) (k : Nat) : st.evolves C (w.updates k st) := by
  cases w with
  | writeImage n e => exact Store.evolves_writeImage fun c => hw c e rfl
  | writeStaged n e =>
    exact Store.evolves_setSlot id fun c hr => ⟨hr.images n, imageInRange_some (hw c e rfl)⟩
  | moveImage a b e =>
    have written : st.evolves C (st.setSlot b { st.slot b with image := some e, moveTarget := true }) :=
      Store.evolves_setSlot id fun c hr => ⟨imageInRange_some (hw c e rfl), hr.staged b⟩
    simp only [Work.updates]
    split
    · exact written
    · split
      · exact written.trans (Store.evolves_clear a)
      · exact (written.trans (Store.evolves_clear a)).trans
          (Store.evolves_setSlot id fun _ hr => ⟨hr.images b, hr.staged b⟩)
  | writeClass c r => exact Store.evolves_setClass _ _
  | clear n => exact Store.evolves_clear n
  | mark n => exact Store.evolves_setSlot id fun _ hr => ⟨hr.images n, hr.staged n⟩
  | promote ups => exact .foldl (fun _ => Store.evolves_promoteSlot) _ _

theorem Work.evolves_faulted (w : Work) : st.evolves C (w.faulted st) := by
  cases w with
  | writeImage n e => exact Store.evolves_wear n
  | writeStaged n e => exact (Store.evolves_wear n).trans Store.evolves_discardStaged
  | moveImage a b e => exact Store.evolves_wear b
  | writeClass c r => exact Store.evolves_setClass _ _
  | clear n => exact .refl C st
  | mark n => exact .refl C st
  | promote ups => exact .refl C st

theorem Work.evolves_complete (w : Work) (hw : C → imageInRange w.image?) (v : Verify) :
    st.evolves C (w.complete v st) := by
  unfold Work.complete
  split
  · exact w.evolves_updates hw 3
  · exact w.evolves_faulted

theorem Work.evolves_written (w : Work) (whole : Bool) : st.evolves C (w.written whole st) := by
  cases w with
  | writeClass c r => cases whole <;> exact Store.evolves_setClass _ _
  | _ => exact .refl C st

theorem Work.evolves_cut (w : Work) (hw : C → imageInRange w.image?) (cut : PowerCut) :
    st.evolves C (w.cut cut st) := by
  cases cut with
  | beforeUpdates => exact .refl C st
  | duringWrite => exact w.evolves_written false
  | afterWrite => exact w.evolves_written true
  | afterUpdates k =>
    simp only [Work.cut]
    split
    · exact .refl C st
    · exact w.evolves_updates hw k
  | afterFault => exact w.evolves_faulted

/-! ### Ports -/

variable {B : Prop} {w : Bool} {s t u : State}

/-- A write of the durable store as part of a chain. -/
theorem Edits.store (h : s.store.evolves (B ∧ s.bounded) st) : Edits B true s { s with store := st } :=
  (Edit.store s st h.tokeeps fun hb hs => h.ranges ⟨hb, hs⟩ hs.store).chain

theorem State.hasRoom_congr {p : Port} {k : Nat} (hp : t.port p = s.port p) (h : s.hasRoom p k) : t.hasRoom p k := by
  unfold State.hasRoom; rw [hp]; exact h

theorem Edits.setPort {p : Port} {x : PortState} (hx : B → s.bounded → x.withinPlaces) : Edits B w s (s.setPort p x) :=
  (Edit.port w s p x hx).chain

theorem Edits.setPlace {n : Nat} {x : HoldPlace} (hx : B → s.bounded → x.inRange) : Edits B w s (s.setPlace n x) :=
  (Edit.place w s n x hx).chain

theorem Edits.setCommits {c : CommitUnit} (hc : B → s.bounded → c.inRange) :
    Edits B w s { s with commits := c } := (Edit.commits w s c hc).chain

theorem Edits.fill {p : Port} (r : Response) (h : s.hasRoom p 1) : Edits B w s (s.fill p r) :=
  Edits.setPort fun _ hs => ⟨(hs.ports p).1, by
    unfold State.hasRoom at h; simp only [List.length_append, List.length_singleton]; omega⟩

theorem Edits.reserve {p : Port} (kind tag : Byte) (h : s.hasRoom p 1) : Edits B w s (s.reserve p kind tag) :=
  Edits.setPort fun _ hs => ⟨(hs.ports p).1, by
    unfold State.hasRoom at h; simp only [List.length_append, List.length_singleton]; omega⟩

theorem Edits.fillReserved (p : Port) (kind tag : Byte) (status : Status) (payload : List Byte) :
    Edits B w s (s.fillReserved p kind tag status payload) := by
  rcases State.fillReserved_cases p kind tag status payload (s := s) with h | ⟨hm, h⟩
  · rw [h]
  · rw [h]
    refine Edits.setPort fun _ hs => ⟨(hs.ports p).1, ?_⟩
    have hl := (hs.ports p).2
    have hpos := List.length_pos_of_mem hm
    simp only [List.length_append, List.length_singleton, List.length_erase_of_mem hm]
    omega

theorem Edits.report (o : Origin) (status : Status) (payload : List Byte) : Edits B w s (s.report o status payload) := by
  cases o with
  | port p kind tag => exact Edits.fillReserved p kind tag status payload
  | _ => exact .refl

theorem Edits.answer {p : Port} (r : Request) (status : Status) (payload : List Byte) (h : s.hasRoom p 1) :
    Edits B w s (s.answer p r status payload) := Edits.fill _ h

theorem Edits.dequeue (p : Port) : Edits B w s (s.dequeue p) :=
  (Edits.setPort (x := { s.port p with requests := (s.port p).requests.tail }) fun _ hs =>
    ⟨(List.tail_sublist _).length_le.trans (hs.ports p).1, (hs.ports p).2⟩).tail (.pointer w _ _)

/-! ### Commits -/

theorem Edits.joinQueue (c : Commit) (hq : s.commits.queue.length < Config.commitPlaces)
    (hc : B → s.bounded → imageInRange c.change.image?) : Edits B w s (s.joinQueue c) :=
  (Edit.commits w s ⟨s.commits.queue ++ [c], s.commits.work⟩ fun hb hs =>
    { places := by simp only [List.length_append, List.length_singleton]; omega
      queue := fun x hx => by
        rcases List.mem_append.1 hx with hx | hx
        · exact hs.commits.queue x hx
        · rw [List.mem_singleton.1 hx]; exact hc hb hs
      work := hs.commits.work }).chain

/-- A queue that has lost some of its commits. -/
theorem Edits.dropCommits {q : List Commit} {x : Option Work} (hq : q.Sublist s.commits.queue)
    (hx : x = none ∨ x = s.commits.work) : Edits B w s { s with commits := ⟨q, x⟩ } :=
  Edits.setCommits fun _ hs =>
    { places := hq.length_le.trans hs.commits.places
      queue := fun c hc => hs.commits.queue c (hq.subset hc)
      work := fun y hy => by
        rcases hx with rfl | rfl
        · cases hy
        · exact hs.commits.work y hy }

theorem Edits.accept {p : Port} (r : Request) (c : Change) (h : s.hasRoom p 1)
    (hq : s.commits.queue.length < Config.commitPlaces) (hc : B → s.bounded → imageInRange c.image?) :
    Edits B w s (s.accept p r c) :=
  (Edits.joinQueue ⟨c, .port p r.kind.code r.tag⟩ hq hc).trans (Edits.reserve _ _ (State.hasRoom_congr (State.port_joinQueue _ _ _) h))

/-! ### Slots -/

theorem Edits.setSlot {n : Nat} {x : WorkingSlot} (hx : B → s.bounded → imageInRange x.content.entry?) :
    Edits B w s (s.setSlot n x) := (Edit.slot w s n x hx).chain

theorem Edits.spillGain (n : Nat) (id : List Byte) : Edits B w s (s.spillGain n id) := by
  unfold State.spillGain
  split
  · exact (Edit.spill w s _ _).chain
  · exact .refl

theorem Edits.spillLoss (n : Nat) (id : List Byte) : Edits B w s (s.spillLoss n id) := by
  unfold State.spillLoss
  split
  · exact (Edit.spill w s _ _).chain
  · exact .refl

theorem Edits.setEntry {n : Nat} {e : Entry} (he : B → s.bounded → e.countsInRange) : Edits B w s (s.setEntry n e) :=
  .setSlot fun hb hs => imageInRange_some (he hb hs)

theorem Edits.occupySlot {n : Nat} {e : Entry} (he : B → s.bounded → e.countsInRange) :
    Edits B w s (s.occupySlot n e) := (Edits.setEntry he).trans (Edits.spillGain n e.id)

theorem Edits.clearSlot (n : Nat) : Edits B w s (s.clearSlot n) := by
  have free : Edits B w s (s.setSlot n ⟨.free, (s.slot n).worn, false⟩) := .setSlot fun _ _ => imageInRange_none
  unfold State.clearSlot
  split
  · exact free.trans (Edits.spillLoss _ _)
  · exact free

theorem Edits.reserveSlot (n : Nat) (id : List Byte) (holder : Holder) : Edits B w s (s.reserveSlot n id holder) :=
  .setSlot fun _ _ => imageInRange_none

theorem Edits.releaseSlot (n : Nat) : Edits B w s (s.releaseSlot n) := .setSlot fun _ _ => imageInRange_none

theorem Edits.spoilSlot (n : Nat) : Edits B w s (s.spoilSlot n) := .setSlot fun _ _ => imageInRange_none

theorem Edits.wearSlot (n : Nat) : Edits B w s (s.wearSlot n) := .setSlot fun _ hs => hs.entries n

theorem Edits.markRetiring (n : Nat) : Edits B w s (s.markRetiring n) := .setSlot fun _ hs => hs.entries n

theorem Edits.reserveFor (x : Item) (n : Nat) (holder : Holder) : Edits B w s (s.reserveFor x n holder) := by
  unfold State.reserveFor
  split
  · exact Edits.reserveSlot _ _ _
  · exact .refl

/-- A chain along a list. -/
theorem Edits.foldl {α : Type} {f : State → α → State} (h : ∀ s a, Edits B w s (f s a)) (l : List α) (s : State) :
    Edits B w s (l.foldl f s) := by
  induction l generalizing s with
  | nil => exact .refl
  | cons a l ih => exact (h s a).trans (ih _)

/-! ### Holds -/

theorem Edits.setHold (n : Nat) (h : Hold) : Edits B w s (s.setHold n h) :=
  Edits.setPlace fun _ hs => hs.places n

theorem Edits.joinClearDue (n : Nat) : Edits B w s (s.joinClearDue n) := (Edit.joinDue w s n).chain

theorem Edits.handOver (n : Nat) : Edits B w s (s.handOver n) := by
  unfold State.handOver
  split
  · exact Edits.joinClearDue n
  · exact .refl

theorem Edits.endHold (n : Nat) (outcome : HoldOutcome) : Edits B w s (s.endHold n outcome) := by
  unfold State.endHold
  split
  · refine (Edits.setPlace (n := n)
      (x := ⟨(s.place n).generation, none, some ((s.place n).generation, outcome)⟩) fun _ hs =>
        ⟨(hs.places n).1, fun g o hg => ?_⟩).trans (Edits.handOver _)
    cases hg
    exact (hs.places n).1
  · exact .refl

theorem Edits.openHold (n : Nat) (h : Hold) : Edits B w s (s.openHold n h) :=
  Edits.setPlace fun _ hs =>
    ⟨Nat.le_of_lt_succ (Nat.mod_lt _ (by decide)), fun g o hg => (hs.places n).2 g o hg⟩

theorem Edits.followMove (a b n : Nat) : Edits B w s (State.followMove a b s n) := by
  unfold State.followMove
  split
  · split
    · exact Edits.setHold _ _
    · exact .refl
  · exact .refl

theorem Edits.markDue (n : Nat) : Edits B w s (s.markDue n) := by
  unfold State.markDue
  split
  · split
    · exact Edits.setHold _ _
    · exact .refl
  · exact .refl

theorem Edits.expire (n : Nat) : Edits B w s (s.expire n) := by
  unfold State.expire
  split
  · split
    · split
      · exact Edits.endHold _ _
      · exact Edits.setHold _ _
    · exact .refl
  · exact .refl

theorem Edits.settleRetiring (n : Nat) : Edits B w s (s.settleRetiring n) := by
  unfold State.settleRetiring
  split
  · exact Edits.joinClearDue n
  · exact .refl

/-! ### Scans -/

theorem Edits.setScan {x : Scan} (hx : x.cursor = s.scan.cursor) : Edits B w s (s.setScan x) :=
  (Edit.scan w s x fun _ hs => by rw [hx]; exact hs.cursor).chain

theorem Edits.endScan : Edits B w s s.endScan :=
  (Edits.setScan (x := { s.scan with state := .idle }) rfl).trans (Edits.fillReserved _ _ _ _ _)

theorem Edits.endWalk : Edits B w s s.endWalk := by
  unfold State.endWalk
  split
  · exact Edits.endScan
  · exact Edits.setScan rfl

theorem Edits.tellScan (o : Origin) {count : Scan → Scan} (hc : ∀ x, (count x).cursor = x.cursor) :
    Edits B w s (s.tellScan o count) := by
  cases o with
  | scan =>
    simp only [State.tellScan, State.scanCompletion]
    have told : Edits B w s (s.setScan (count { s.scan with inFlight := s.scan.inFlight - 1 })) := Edits.setScan (hc _)
    split
    · exact told.trans Edits.endScan
    · exact told
  | _ => exact .refl

theorem Edits.advanceCursor (h : s.scan.cursor < Config.slots) : Edits B w s s.advanceCursor :=
  (Edit.scan w s { s.scan with cursor := s.scan.cursor + 1 } fun _ _ => h).chain

theorem Edits.scanAdmit {c : Change} (hq : s.commits.queue.length < Config.commitPlaces) (hc : c.image? = none) :
    Edits B w s (s.scanAdmit c) :=
  (Edits.joinQueue ⟨c, .scan⟩ hq fun _ _ => by rw [hc]; exact imageInRange_none).trans
    (Edits.setScan (x := { s.scan with inFlight := s.scan.inFlight + 1 }) rfl)

theorem Edits.examine (sample : Bool) (n : Nat) (s : State) : Edits B w s (State.examine sample n s) := by
  induction n generalizing s with
  | zero => exact .refl
  | succ n ih =>
    unfold State.examine
    split
    · exact .refl
    · rename_i hcur
      have hcur : s.scan.cursor < Config.slots := Nat.lt_of_not_le hcur
      split
      · exact (Edits.advanceCursor hcur).trans (ih _)
      · exact ((Edits.setScan (x := s.scan.countSkipped) rfl).trans (Edits.advanceCursor hcur)).trans (ih _)
      · split
        · exact .refl
        · rename_i hfree
          have hq : s.commits.queue.length < Config.commitPlaces := by unfold State.freeCommits at hfree; omega
          exact ((Edits.scanAdmit hq rfl).trans (Edits.advanceCursor hcur)).trans (ih _)
      · split
        · exact .refl
        · rename_i hfree
          have hq : s.commits.queue.length < Config.commitPlaces := by unfold State.freeCommits at hfree; omega
          exact (((Edits.reserveSlot _ _ _).trans (Edits.scanAdmit hq rfl)).trans
            (Edits.advanceCursor hcur)).trans (ih _)

end Sys2Proof.Machine
end

section
/-! Every command as a chain of writes; from it the canonical form (O57), the bounds (O58) and the guard of the durable
store (O54). -/

namespace Sys2Proof.Machine

/-! ### New images (R2) and revised ones (R5) -/

/-- An item's new image, where it carries one, is ACTIVE or BARRED and its counts are in range (R2). -/
def Item.newOk (x : Item) : Prop := ∀ e, x = .insert e → e.state ≠ .retiring ∧ e.countsInRange

theorem Entry.newImageOk_state {e : Entry} (h : e.newImageOk = true) : e.state ≠ .retiring := by
  simp only [Entry.newImageOk, Bool.and_eq_true, decide_eq_true_eq] at h
  obtain ⟨⟨⟨⟨⟨⟨⟨⟨-, hstate⟩, -⟩, -⟩, -⟩, -⟩, -⟩, -⟩, -⟩ := h
  rcases hstate with hstate | hstate <;> rw [hstate] <;> nofun

theorem readImage_newOk {payload : List Byte} {e : Entry} (h : readImage payload = some e) :
    e.state ≠ .retiring ∧ e.countsInRange := by
  unfold readImage at h
  split at h
  · dsimp only at h
    obtain ⟨⟨-, -, hok⟩, he⟩ := Option.ite_none_right_eq_some.1 h
    cases Option.some.inj he
    exact ⟨Entry.newImageOk_state hok, Nat.zero_le _, Nat.zero_le _⟩
  · cases h

theorem readInsertItem_newOk {payload : List Byte} {x : Item} (h : readInsertItem payload = some x) : x.newOk := by
  obtain ⟨e, he, rfl⟩ := Option.map_eq_some_iff.1 h
  rintro _ ⟨⟩
  exact readImage_newOk he

theorem readModify_eq {payload : List Byte} {x : Item} (h : readModify payload = some x) :
    ∃ id expected f, x = .modify id expected f := by
  unfold readModify at h
  split at h
  · dsimp only at h
    split at h
    · split at h
      · cases h; exact ⟨_, _, _, rfl⟩
      · cases h
    · cases h
  · cases h

theorem readTopUp_eq {payload : List Byte} {x : Item} (h : readTopUp payload = some x) : ∃ id n, x = .topUp id n := by
  unfold readTopUp at h
  split at h
  · split at h
    · cases h
    · cases h; exact ⟨_, _, rfl⟩
  · cases h

theorem readModify_newOk {payload : List Byte} {x : Item} (h : readModify payload = some x) : x.newOk := by
  obtain ⟨_, _, _, rfl⟩ := readModify_eq h; nofun

theorem readTopUp_newOk {payload : List Byte} {x : Item} (h : readTopUp payload = some x) : x.newOk := by
  obtain ⟨_, _, rfl⟩ := readTopUp_eq h; nofun

theorem readBarItem_newOk {payload : List Byte} {x : Item} (h : readBarItem payload = some x) : x.newOk := by
  obtain ⟨_, _, rfl⟩ := Option.map_eq_some_iff.1 h; nofun

theorem readUnbarItem_newOk {payload : List Byte} {x : Item} (h : readUnbarItem payload = some x) : x.newOk := by
  obtain ⟨_, _, rfl⟩ := Option.map_eq_some_iff.1 h; nofun

theorem readRetireItem_newOk {payload : List Byte} {x : Item} (h : readRetireItem payload = some x) : x.newOk := by
  obtain ⟨_, _, rfl⟩ := Option.map_eq_some_iff.1 h; nofun

theorem readStage_newOk {payload : List Byte} {x : Item} (h : readStage payload = some x) : x.newOk := by
  unfold readStage at h
  split at h
  · cases h
  · split at h
    · exact readInsertItem_newOk h
    · exact readModify_newOk h
    · exact readTopUp_newOk h
    · exact readBarItem_newOk h
    · exact readUnbarItem_newOk h
    · exact readRetireItem_newOk h
    · cases h

theorem Item.newOk.imageInRange {x : Item} (h : x.newOk) : imageInRange x.image? := fun e he =>
  (h e (Item.image?_eq_some.1 he)).2

theorem Item.newOk.change {x : Item} (h : x.newOk) (n : Nat) : Sys2Proof.Machine.imageInRange (x.change n).image? := by
  cases x with
  | insert e => exact imageInRange_some (h e rfl).2
  | _ => exact imageInRange_none

theorem Entry.countsInRange_revised {e : Entry} (h : e.countsInRange) : e.revised.countsInRange :=
  ⟨h.1, Nat.le_of_lt_succ (Nat.mod_lt _ (by decide))⟩

theorem Entry.countsInRange_modified {e : Entry} (f : FieldChanges) (h : e.countsInRange) : (e.modified f).countsInRange :=
  Entry.countsInRange_revised (e := e.withFields f) h

theorem Entry.countsInRange_toppedUp {e : Entry} (n : Nat) (h : e.countsInRange) : (e.toppedUp n).countsInRange :=
  Entry.countsInRange_revised (e := { e with balance := e.balance.map (· + n) }) h

theorem Entry.countsInRange_withState {e : Entry} (x : EntryState) (h : e.countsInRange) : (e.withState x).countsInRange :=
  Entry.countsInRange_revised (e := { e with state := x }) h

variable {B : Prop} {w : Bool} {s t u : State}

theorem State.stagedImage_inRange (hs : s.bounded) {x : Item} (hx : imageInRange x.image?) (n : Nat) :
    imageInRange (s.stagedImage n x) := by
  have mapped : ∀ f : Entry → Entry, (∀ e, e.countsInRange → (f e).countsInRange) →
      imageInRange ((s.entryAt n).map f) := by
    intro f hf e he
    obtain ⟨d, hd, rfl⟩ := Option.map_eq_some_iff.1 he
    exact hf d (hs.entries n d hd)
  cases x with
  | insert e => exact hx
  | modify id y f => exact mapped _ fun _ => Entry.countsInRange_modified f
  | topUp id k => exact mapped _ fun _ => Entry.countsInRange_toppedUp k
  | bar id y => exact mapped _ fun _ => Entry.countsInRange_withState _
  | unbar id y => exact mapped _ fun _ => Entry.countsInRange_withState _
  | retire id y => exact mapped _ fun _ => Entry.countsInRange_withState _

/-- A work that begins carries an image in range (R5, R6). -/
theorem State.formWork_inRange (hs : s.bounded) {c : Change} (hc : imageInRange c.image?) {x : Work}
    (hx : s.formWork c = some x) : imageInRange x.image? := by
  have mapped : ∀ {n : Nat} {f : Entry → Work}, (∀ e, e.countsInRange → imageInRange (f e).image?) →
      (s.entryAt n).map f = some x → imageInRange x.image? := by
    intro n f hf hm
    obtain ⟨e, he, rfl⟩ := Option.map_eq_some_iff.1 hm
    exact hf e (hs.entries n e he)
  cases c with
  | insertEntry n e => cases hx; exact hc
  | modifyEntry n f =>
    refine mapped (fun e he => ?_) hx
    exact imageInRange_some (Entry.countsInRange_modified f he)
  | topUpEntry n k =>
    refine mapped (fun e he => ?_) hx
    exact imageInRange_some (Entry.countsInRange_toppedUp k he)
  | setEntryState n y =>
    refine mapped (fun e he => ?_) hx
    exact imageInRange_some (Entry.countsInRange_withState y he)
  | settleHold n place k =>
    refine mapped (fun e he => ?_) hx
    exact imageInRange_some ⟨Nat.min_le_right _ _, Nat.le_of_lt_succ (Nat.mod_lt _ (by decide))⟩
  | retireEntry n =>
    refine mapped (fun e he => ?_) hx
    unfold State.retireWork
    split
    · exact imageInRange_none
    · split
      · exact imageInRange_none
      · exact imageInRange_some (Entry.countsInRange_withState _ he)
  | clearEntry n => cases hx; exact imageInRange_none
  | moveEntry a b =>
    refine mapped (fun e he => ?_) hx
    exact imageInRange_some he
  | writeClass c r => cases hx; exact imageInRange_none
  | stageItem i n =>
    obtain ⟨y, hy, hm⟩ := Option.bind_eq_some_iff.1 hx
    obtain ⟨e, he, rfl⟩ := Option.map_eq_some_iff.1 hm
    exact imageInRange_some (State.stagedImage_inRange hs (hs.batch.items y (List.mem_of_getElem? hy)) n e he)
  | promoteBatch => cases hx; exact imageInRange_none

/-! ### Takes -/

/-- What the grant of a request of this kind leaves room for (R179). -/
def State.grantRoom (s : State) (p : Port) (k : Kind) : Prop :=
  (0 < k.responsePlaces → s.hasRoom p k.responsePlaces) ∧
    (k.needsCommit = true → s.commits.queue.length < Config.commitPlaces)

theorem State.takeable_grantRoom {p : Port} {k : Kind} {r : Request} (h : s.takeable p k = some r) :
    (s.dequeue p).grantRoom p k := by
  have hr := State.takeable_room h
  refine ⟨fun hk => ?_, fun hk => by rw [State.dequeue_commits]; exact hr.2 hk⟩
  have := hr.1 hk
  unfold State.hasRoom at this ⊢
  unfold State.dequeue
  rwa [State.port_setPointer, State.port_setPort_self]

/-- A take is a chain where its body is one on the state without the request. -/
theorem Edits.take {p : Port} {k : Kind} {body : Request → State → State}
    (h : ∀ r u, r.kind = k → u.grantRoom p k → Edits B w u (body r u)) : Edits B w s (s.take p k body) := by
  rcases State.take_cases p k body (s := s) with he | ⟨r, hr, he⟩
  · rw [he]
  · rw [he]
    exact (Edits.dequeue p).trans (h r _ (State.takeable_kind hr) (State.takeable_grantRoom hr))

theorem Edits.answersTo {p : Port} {r : Request} (h : s.answersTo p r t) (hr : s.hasRoom p 1) : Edits B w s t := by
  obtain ⟨status, payload, rfl⟩ := h
  exact Edits.answer r status payload hr

theorem State.port_setHold (s : State) (n : Nat) (h : Hold) (p : Port) : (s.setHold n h).port p = s.port p :=
  State.port_setPlace _ _ _ _

theorem State.port_endHold (s : State) (n : Nat) (o : HoldOutcome) (p : Port) : (s.endHold n o).port p = s.port p := by
  unfold State.endHold State.handOver
  split
  · split
    · rw [State.port_joinClearDue, State.port_setPlace]
    · rw [State.port_setPlace]
  · rfl

theorem State.reserveFor_frame (s : State) (x : Item) (n : Nat) (holder : Holder) :
    (∀ p, (s.reserveFor x n holder).port p = s.port p) ∧ (s.reserveFor x n holder).commits = s.commits := by
  unfold State.reserveFor
  split
  · exact ⟨fun p => State.port_setSlot _ _ _ _, rfl⟩
  · exact ⟨fun _ => rfl, rfl⟩

theorem Edits.takeDraw {p : Port} {r : Request} (hr : s.hasRoom p 1) : Edits B w s (takeDraw p r s) := by
  rcases takeDraw_cases s p r with h | ⟨_, _, _, slot, e, n, -, -, h⟩
  · exact Edits.answersTo h hr
  · rw [h]
    exact (Edits.openHold n _).trans (Edits.answer _ _ _ (State.hasRoom_congr (State.port_setPlace _ _ _ _) hr))

theorem Edits.takeExtend {p : Port} {r : Request} (hr : s.hasRoom p 1) : Edits B w s (takeExtend p r s) := by
  rcases takeExtend_cases s p r with h | ⟨n, x, d, _, -, -, h⟩
  · exact Edits.answersTo h hr
  · rw [h]
    exact (Edits.setHold n _).trans (Edits.answer _ _ _ (State.hasRoom_congr (State.port_setHold _ _ _ _) hr))

theorem Edits.closesHold {p : Port} {r : Request} (h : s.closesHold p r t) (hr : s.hasRoom p 1) : Edits B w s t := by
  obtain ⟨n, x, o, payload, -, -, -, rfl⟩ := h
  exact (Edits.endHold n o).trans (Edits.answer _ _ _ (State.hasRoom_congr (State.port_endHold _ _ _ _) hr))

theorem Edits.takeRelease {p : Port} {r : Request} (hr : s.hasRoom p 1) : Edits B w s (takeRelease p r s) :=
  (takeRelease_cases s p r).elim (Edits.answersTo · hr) (Edits.closesHold · hr)

theorem Edits.takeForceRelease {r : Request} (hr : s.hasRoom .mp 1) : Edits B w s (takeForceRelease r s) :=
  (takeForceRelease_cases s r).elim (Edits.answersTo · hr) (Edits.closesHold · hr)

theorem Edits.takeSettle {p : Port} {r : Request} (hr : s.grantRoom p .settle) : Edits B w s (takeSettle p r s) := by
  have room : s.hasRoom p 1 := hr.1 (by decide)
  rcases takeSettle_cases s p r with h | ⟨n, x, k, -, -, -, h⟩
  · exact Edits.answersTo h room
  · rw [h]
    exact (Edits.setHold n _).trans (Edits.accept r _ (State.hasRoom_congr (State.port_setHold _ _ _ _) room)
      (hr.2 rfl) fun _ _ => imageInRange_none)

theorem Edits.takeChange {item : Option Item} {r : Request} (hx : ∀ x, item = some x → x.newOk)
    (room : s.hasRoom .mp 1) (hq : s.commits.queue.length < Config.commitPlaces) :
    Edits B w s (takeChange item r s) := by
  rcases takeChange_cases item r s with h | ⟨x, n, hi, -, -, h⟩
  · exact Edits.answersTo h room
  · rw [h]
    have frame := s.reserveFor_frame x n .singleInsert
    exact (Edits.reserveFor x n _).trans (Edits.accept r _ (State.hasRoom_congr (frame.1 _) room)
      (by rw [frame.2]; exact hq) fun _ _ => (hx x hi).change n)

theorem Edits.takeRelocate {r : Request} (hr : s.grantRoom .mp .relocate) : Edits B w s (takeRelocate r s) := by
  have room : s.hasRoom .mp 1 := hr.1 (by decide)
  rcases takeRelocate_cases s r with ⟨t, h⟩ | h | ⟨id, a, b, -, -, -, -, -, h⟩
  · have spent : Edits B w s (s.spendFree t) ∧ (s.spendFree t).port .mp = s.port .mp := by
      unfold State.spendFree
      split
      · exact ⟨.refl, rfl⟩
      · exact ⟨(Edit.flags w s s.phase s.resetLow s.inhibited (s.freeIndex + 2)).chain, rfl⟩
    exact spent.1.trans (Edits.answersTo h (State.hasRoom_congr spent.2 room))
  · exact Edits.answersTo h room
  · rw [h]
    exact (Edits.reserveSlot b id .move).trans (Edits.accept r _ (State.hasRoom_congr (State.port_setSlot _ _ _ _) room)
      (hr.2 rfl) fun _ _ => imageInRange_none)

theorem Edits.takeSetClass {r : Request} (hr : s.grantRoom .mp .setClass) : Edits B w s (takeSetClass r s) := by
  have room : s.hasRoom .mp 1 := hr.1 (by decide)
  rcases takeSetClass_cases s r with h | ⟨c, record, h⟩
  · exact Edits.answersTo h room
  · rw [h]
    exact Edits.accept r _ room (hr.2 rfl) fun _ _ => imageInRange_none

theorem Edits.setBatch {b : Batch} (hb : B → s.bounded → b.inRange) : Edits B w s (s.setBatch b) :=
  (Edit.batch w s b hb).chain

theorem Edits.takeStage {r : Request} (hr : s.hasRoom .mp 1) : Edits B w s (takeStage r s) := by
  rcases takeStage_cases s r with h | ⟨x, payload, -, hx, hl, -, h⟩
  · exact Edits.answersTo h hr
  · rw [h]
    refine (Edits.setBatch fun _ hs => ⟨?_, fun y hy => ?_⟩).trans
      (Edits.answer _ _ _ (State.hasRoom_congr (State.port_setBatch _ _ _) hr))
    · simpa using hl
    · rcases List.mem_append.1 hy with hy | hy
      · exact hs.batch.items y hy
      · rw [List.mem_singleton.1 hy]
        exact (readStage_newOk hx).imageInRange

theorem Edits.takeDiscard {r : Request} (hr : s.hasRoom .mp 1) : Edits B w s (takeDiscard r s) := by
  rcases takeDiscard_cases s r with h | ⟨payload, -, h⟩
  · exact Edits.answersTo h hr
  · rw [h]
    have emptied : Edits B w s (s.setBatch { s.batch with state := .empty, items := [], lastResult := none }) :=
      Edits.setBatch fun _ _ => ⟨Nat.zero_le _, nofun⟩
    exact emptied.trans (Edits.answer _ _ _ (State.hasRoom_congr (State.port_setBatch _ _ _) hr))

/-- A validation writes reservations alone: ports and batch stay as they are. -/
theorem Edits.validateItems {sample : Bool} {items : List Item} {index : Nat} {s t : State} {records : List ItemRecord}
    (h : s.validateItems sample index items = .ok (t, records)) :
    Edits B w s t ∧ (∀ p, t.port p = s.port p) ∧ t.batch = s.batch := by
  induction items generalizing index s t records with
  | nil => cases h; exact ⟨.refl, fun _ => rfl, rfl⟩
  | cons x rest ih =>
    unfold State.validateItems at h
    split at h
    · cases h
    · rename_i n _
      split at h
      · cases h
      · rename_i hv
        cases h
        obtain ⟨hc, hp, hb⟩ := ih hv
        have frame := s.reserveFor_frame x n .batchInsert
        refine ⟨(Edits.reserveFor x n _).trans hc, fun p => (hp p).trans (frame.1 p), hb.trans ?_⟩
        unfold State.reserveFor
        split <;> rfl

theorem State.hasRoom_answer {p : Port} {r : Request} {status : Status} {payload : List Byte} (h : s.hasRoom p 2) :
    (s.answer p r status payload).hasRoom p 1 := by
  unfold State.hasRoom at h ⊢
  unfold State.answer State.fill
  rw [State.port_setPort_self]
  simp only [List.length_append, List.length_singleton]
  omega

theorem State.hasRoom.one {p : Port} (h : s.hasRoom p 2) : s.hasRoom p 1 := by unfold State.hasRoom at h ⊢; omega

theorem Edits.answerWithNotice {p : Port} (r : Request) (status : Status) (payload : List Byte) (notice tag : Byte)
    (h : s.hasRoom p 2) : Edits B w s ((s.answer p r status payload).reserve p notice tag) :=
  (Edits.answer r status payload h.one).trans (Edits.reserve notice tag (State.hasRoom_answer h))

theorem Edits.takeApply {r : Request} (hr : s.hasRoom .mp 2) : Edits B w s (takeApply r s) := by
  rcases takeApply_cases s r with h | ⟨result, h⟩ | ⟨t, records, -, -, hv, h⟩
  · exact Edits.answersTo h hr.one
  · exact (Edits.setBatch (b := { s.batch with lastResult := some result })
      fun _ hs => ⟨hs.batch.places, hs.batch.items⟩).trans (Edits.answersTo h (State.hasRoom_congr (State.port_setBatch _ _ _) hr.one))
  · rw [h]
    obtain ⟨hc, hp, hb⟩ := Edits.validateItems (B := B) (w := w) hv
    have room : t.hasRoom .mp 2 := State.hasRoom_congr (hp _) hr
    unfold State.acceptApply
    dsimp only
    have accepted : ∀ b : Batch, b.items = t.batch.items → Edits B w t (t.setBatch b) := fun b hi =>
      Edits.setBatch fun _ hs => ⟨hi ▸ hs.batch.places, hi ▸ hs.batch.items⟩
    have room' : ∀ b, (t.setBatch b).hasRoom .mp 2 := fun b => State.hasRoom_congr (State.port_setBatch _ _ _) room
    refine Relation.ReflTransGen.trans ?_ (Edits.answerWithNotice _ _ _ _ _ (room' _))
    refine hc.trans (accepted _ ?_)
    rfl

theorem Edits.takeStartScan {r : Request} (hr : s.hasRoom .mp 2) : Edits B w s (takeStartScan r s) := by
  rcases takeStartScan_cases s r with h | ⟨kind, argument, payload, -, -, h⟩
  · exact Edits.answersTo h hr.one
  · rw [h]
    have room : ∀ x, (s.setScan x).hasRoom .mp 2 := fun x => State.hasRoom_congr (State.port_setScan _ _ _) hr
    have started : Edits B w s (s.setScan (startedScan kind argument s.time.deviceTime r.tag)) :=
      (Edit.scan w s _ fun _ _ => Nat.zero_le _).chain
    exact started.trans (Edits.answerWithNotice _ _ _ _ _ (room _))

theorem Edits.movesScan {r : Request} (h : s.movesScan r t) (hr : s.hasRoom .mp 1) : Edits B w s t := by
  obtain ⟨state, -, h⟩ := h
  exact (Edits.setScan (x := { s.scan with state := state }) rfl).trans
    (Edits.answersTo h (State.hasRoom_congr (State.port_setScan _ _ _) hr))

theorem Edits.takeAbortScan {r : Request} (hr : s.hasRoom .mp 1) : Edits B w s (takeAbortScan r s) := by
  rcases takeAbortScan_cases s r with h | ⟨payload, -, h⟩
  · exact Edits.answersTo h hr
  · rw [h]
    exact (Edits.answer _ _ _ hr).trans Edits.endWalk

/-- A field of four bytes is at most 4,294,967,295. -/
theorem field_four_le (bytes : List Byte) (i : Nat) : field bytes i 4 ≤ maxSeconds := by
  have grow : ∀ (l : List Byte) (v : Nat),
      l.foldl (fun v b => 256 * v + b.toNat) v < (v + 1) * 256 ^ l.length := by
    intro l
    induction l with
    | nil => intro v; simp
    | cons b l ih =>
      intro v
      have hb := b.isLt
      calc (b :: l).foldl (fun v b => 256 * v + b.toNat) v
          < (256 * v + b.toNat + 1) * 256 ^ l.length := ih _
        _ ≤ ((v + 1) * 256) * 256 ^ l.length := Nat.mul_le_mul_right _ (by omega)
        _ = (v + 1) * 256 ^ (b :: l).length := by rw [List.length_cons, Nat.pow_succ']; ring
  have h := grow ((bytes.drop i).take 4) 0
  have hl : 256 ^ ((bytes.drop i).take 4).length ≤ 256 ^ 4 :=
    Nat.pow_le_pow_right (by decide) (List.length_take_le _ _)
  have : field bytes i 4 < 256 ^ 4 := by
    unfold field beNat
    omega
  exact Nat.le_of_lt_succ this

theorem Edits.setTime {x : Timebase} (hx : B → s.bounded → x.inRange) : Edits B w s { s with time := x } :=
  (Edit.time w s x hx).chain

theorem Edits.takeSetTime {r : Request} (hr : s.hasRoom .mp 1) : Edits B w s (takeSetTime r s) := by
  rcases takeSetTime_cases s r with h | ⟨payload, h⟩
  · exact Edits.answersTo h hr
  · rw [h]
    refine (Edits.setTime (x := { s.time with deviceTime := some (field r.payload 0 4) }) fun _ hs =>
      ⟨hs.time.1, hs.time.2.1, ?_⟩).trans (Edits.answer _ _ _ hr)
    rintro v ⟨⟩
    exact field_four_le _ _

/-! ### Ports -/

theorem State.takesIn_requests {p : Port} {x : Transaction} (h : s.takesIn p x = true) :
    (s.port p).requests.length < Config.portPlaces := by
  simp only [State.takesIn, Bool.and_eq_true, decide_eq_true_eq] at h
  obtain ⟨-, ht⟩ := h
  unfold State.intakeVerdict at ht
  split at ht
  · cases ht
  · split at ht
    · cases ht
    · split at ht
      · cases ht
      · split at ht
        · cases ht
        · split at ht
          · cases ht
          · split at ht
            · cases ht
            · split at ht
              · cases ht
              · rename_i hq
                exact Nat.lt_of_not_le hq

theorem Edits.clockByte (p : Port) (b : Byte) : Edits B w s (State.clockByte p s b) := by
  unfold State.clockByte
  split
  · exact .refl
  · rename_i x _
    refine Edits.setPort fun _ hs => ⟨?_, ?_⟩
    · dsimp only
      split
      · rename_i ht
        have := State.takesIn_requests ht
        have one : (frameRequest x.received).toList.length ≤ 1 := by cases frameRequest x.received <;> simp
        rw [List.length_append]
        omega
      · exact (hs.ports p).1
    · have hl := (hs.ports p).2
      dsimp only
      split
      · have := (List.tail_sublist (s.port p).filled).length_le
        omega
      · exact hl

theorem Edits.exchange (p : Port) (x : Exchange) : Edits B w s (s.exchange p x) := by
  have same : ∀ (u : State) (y : Option Transaction) (z : List Byte),
      Edits B w u (u.setPort p { u.port p with transaction := y, sdo := z }) :=
    fun u y z => Edits.setPort fun _ hs => hs.ports p
  unfold State.exchange
  split
  · exact same s _ _
  · have begun : Edits B w s (if x.selectFalls = true then s.openTransaction p else s) := by
      split
      · exact same s _ _
      · exact .refl
    have clocked := begun.trans (Edits.foldl (fun s b => Edits.clockByte (s := s) p b) x.sent _)
    dsimp only
    split
    · exact clocked.trans (same _ none _)
    · exact clocked

/-! ### The events of the blocks -/

theorem Edits.scanStep : Edits B w s s.scanStep := by
  unfold State.scanStep
  split
  · have examined := (Edit.pointer (B := B) w s Candidate.scan.after).chain.trans
      (Edits.examine s.inhibited Config.stepSlots _)
    dsimp only
    split
    · exact examined.trans Edits.endWalk
    · exact examined
  · exact .refl

theorem Timebase.inRange_second {x : Timebase} (h : x.inRange) : x.second.inRange := by
  refine ⟨h.1, Nat.min_le_right _ _, fun v hv => ?_⟩
  obtain ⟨a, -, rfl⟩ := Option.map_eq_some_iff.1 hv
  exact Nat.min_le_right _ _

theorem Timebase.inRange_period {x : Timebase} (h : x.inRange) : x.period.inRange := by
  unfold Timebase.period
  split
  · rename_i hd
    exact ⟨hd, h.2⟩
  · exact ⟨(by decide : 0 < Config.dividerPeriods), h.2⟩

theorem Timebase.inRange_start : startTime.inRange := ⟨by decide, by decide, nofun⟩

theorem Edits.secondEvent : Edits B w s s.secondEvent := by
  unfold State.secondEvent
  split
  · exact (Edits.setTime fun _ hs => Timebase.inRange_second hs.time).trans
      (Edits.foldl (fun s n => Edits.markDue (s := s) n) _ _)
  · exact .refl

theorem Edits.beginCommit : Edits B w s s.beginCommit := by
  unfold State.beginCommit
  split
  · split
    · exact .refl
    · rename_i c rest hq
      split
      · rename_i x hx
        have form : B → s.bounded → CommitUnit.inRange { s.commits with work := some x } := fun _ hs =>
          { places := hs.commits.places
            queue := hs.commits.queue
            work := by
              rintro _ ⟨⟩
              exact State.formWork_inRange hs (hs.commits.queue c (by rw [hq]; exact List.mem_cons_self)) hx }
        have written : Edits B w s { s with commits := { s.commits with work := some x } } := Edits.setCommits form
        refine written.trans ?_
        unfold State.noteBegin
        split
        · exact Edits.setBatch (s := { s with commits := { s.commits with work := some x } })
            (b := { s.batch with state := .promoting }) fun _ hs => ⟨hs.batch.places, hs.batch.items⟩
        · exact .refl
      · exact .refl
  · exact .refl

theorem State.admitsInternal_queue (h : s.admitsInternal = true) : s.commits.queue.length < Config.commitPlaces :=
  Nat.lt_trans (State.admitsInternal_iff.1 h).2 (by decide)

theorem Edits.admitClear : Edits B w s s.admitClear := by
  rcases s.admitClear_cases with h | ⟨n, hi, -, h⟩
  · rw [h]
  · rw [h]
    exact (Edit.leaveDue w s n).chain.trans
      (Edits.joinQueue _ (State.admitsInternal_queue hi) fun _ _ => imageInRange_none)

/-- What a batch offers is a stage write or the PROMOTE, and its items stay (R151). -/
theorem Batch.offer_eq {b b' : Batch} {c : Change} (h : b.offer = some (c, b')) :
    (c.image? = none) ∧ b'.items = b.items := by
  unfold Batch.offer at h
  split at h
  · split at h
    · cases h; exact ⟨rfl, rfl⟩
    · split at h
      · cases h
      · cases h; exact ⟨rfl, rfl⟩
  · cases h
  · cases h
  · cases h

theorem Edits.admitBatch : Edits B w s s.admitBatch := by
  rcases s.admitBatch_cases with h | ⟨c, b, hi, -, ho, -, h⟩
  · rw [h]
  · rw [h]
    obtain ⟨hc, hb⟩ := Batch.offer_eq ho
    refine (Edits.setBatch fun _ hs => ⟨by rw [hb]; exact hs.batch.places, by rw [hb]; exact hs.batch.items⟩).trans
      (Edits.joinQueue _ (State.admitsInternal_queue hi) fun _ _ => ?_)
    rw [hc]
    exact imageInRange_none

/-! ### Completions -/

/-- A completion is a chain where its effect is one, for a work whose image is in range. -/
theorem Edits.complete {isKind : Change → Bool} {v : Verify} {effect : Commit → Work → Verify → State → State}
    (h : ∀ (c : Commit) (x : Work) (y : Verify) (u : State), isKind c.change = true →
      (s.bounded → imageInRange x.image?) → u.batch = s.batch → Edits s.bounded true u (effect c x y u)) :
    Edits s.bounded true s (s.complete isKind v effect) := by
  rcases State.complete_cases isKind v effect (s := s) with he | ⟨c, rest, x, hc, hk, he⟩
  · rw [he]
  · have hx : s.bounded → imageInRange x.image? := fun hs => hs.commits.work x (by rw [hc])
    have dropped : Edits s.bounded true s { s with commits := ⟨rest, none⟩ } :=
      Edits.dropCommits (by rw [hc]; exact List.sublist_cons_self _ _) (.inl rfl)
    have ended : Edits s.bounded true s (s.ended rest (x.complete v s.store)) :=
      dropped.trans (Edits.store (x.evolves_complete (fun hb => hx hb.1) v))
    rw [he]
    split
    · exact ended.trans (h c x _ _ hk hx rfl)
    · exact ended

variable {c : Commit} {x : Work} {v : Verify}

theorem Edits.settlementEffect (hx : B → imageInRange x.image?) : Edits B w s (settlementEffect c x v s) := by
  unfold Sys2Proof.Machine.settlementEffect
  split
  · exact ((Edits.setEntry fun hb _ => hx hb _ rfl).trans (Edits.endHold _ _)).trans (Edits.report _ _ _)
  · unfold State.settleFault
    dsimp only
    split
    · split
      · exact (((Edits.wearSlot _).trans (Edits.setHold _ _)).trans (Edits.endHold _ _)).trans (Edits.report _ _ _)
      · exact ((Edits.wearSlot _).trans (Edits.setHold _ _)).trans (Edits.report _ _ _)
    · exact (Edits.wearSlot _).trans (Edits.report _ _ _)
  · exact .refl

theorem Edits.insertEffect (hx : B → imageInRange x.image?) : Edits B w s (insertEffect c x v s) := by
  unfold Sys2Proof.Machine.insertEffect
  split
  · exact (Edits.occupySlot fun hb _ => hx hb _ rfl).trans (Edits.report _ _ _)
  · exact (Edits.spoilSlot _).trans (Edits.report _ _ _)
  · exact .refl

theorem Edits.modifyEffect (hx : B → imageInRange x.image?) : Edits B w s (modifyEffect c x v s) := by
  unfold Sys2Proof.Machine.modifyEffect
  split
  · exact (Edits.setEntry fun hb _ => hx hb _ rfl).trans (Edits.report _ _ _)
  · exact (Edits.wearSlot _).trans (Edits.report _ _ _)
  · exact .refl

theorem Edits.topUpEffect (hx : B → imageInRange x.image?) : Edits B w s (topUpEffect c x v s) := by
  unfold Sys2Proof.Machine.topUpEffect
  split
  · exact (Edits.setEntry fun hb _ => hx hb _ rfl).trans (Edits.report _ _ _)
  · exact (Edits.wearSlot _).trans (Edits.report _ _ _)
  · exact .refl

theorem Edits.barEffect (hx : B → imageInRange x.image?) : Edits B w s (barEffect c x v s) := by
  unfold Sys2Proof.Machine.barEffect
  split
  · exact (Edits.setEntry fun hb _ => hx hb _ rfl).trans (Edits.report _ _ _)
  · exact (Edits.wearSlot _).trans (Edits.report _ _ _)
  · exact .refl

theorem Edits.retireEffect (hx : B → imageInRange x.image?) : Edits B w s (retireEffect c x v s) := by
  unfold Sys2Proof.Machine.retireEffect
  split
  · exact ((Edits.clearSlot _).trans (Edits.report _ _ _)).trans (Edits.tellScan _ fun _ => rfl)
  · exact (((Edits.markRetiring _).trans (Edits.settleRetiring _)).trans (Edits.report _ _ _)).trans
      (Edits.tellScan _ fun _ => rfl)
  · exact (((Edits.setEntry fun hb _ => hx hb _ rfl).trans (Edits.settleRetiring _)).trans (Edits.report _ _ _)).trans
      (Edits.tellScan _ fun _ => rfl)
  · exact ((Edits.wearSlot _).trans (Edits.report _ _ _)).trans (Edits.tellScan _ fun _ => rfl)
  · exact .refl

theorem Edits.clearEffect : Edits B w s (clearEffect c x v s) := by
  unfold Sys2Proof.Machine.clearEffect
  split
  · exact Edits.clearSlot _
  · exact .refl

theorem Edits.moveClearDue (a b : Nat) : Edits B w s (s.moveClearDue a b) := by
  unfold State.moveClearDue
  split
  · exact (Edit.leaveDue w s a).chain.trans (Edits.joinClearDue b)
  · exact .refl

theorem Edits.moveEffect (hx : B → imageInRange x.image?) : Edits B w s (moveEffect c x v s) := by
  unfold Sys2Proof.Machine.moveEffect
  split
  · rename_i a b e
    have moved : Edits B w s (s.moveEntry a b e) :=
      (((Edits.clearSlot a).trans (Edits.occupySlot fun hb _ => hx hb e rfl)).trans
        (Edits.foldl (fun s n => Edits.followMove (s := s) a b n) _ _)).trans (Edits.moveClearDue a b)
    exact (moved.trans (Edits.report _ _ _)).trans (Edits.tellScan _ fun _ => rfl)
  · exact ((Edits.spoilSlot _).trans (Edits.report _ _ _)).trans (Edits.tellScan _ fun _ => rfl)
  · exact .refl

theorem Edits.classEffect : Edits B w s (classEffect c x v s) := by
  unfold Sys2Proof.Machine.classEffect
  split
  · exact Edits.report _ _ _
  · exact Edits.report _ _ _
  · exact .refl

theorem Edits.stageEffect : Edits B w s (stageEffect c x v s) := by
  unfold Sys2Proof.Machine.stageEffect
  split
  · exact Edits.setBatch fun _ hs => ⟨hs.batch.places, hs.batch.items⟩
  · rename_i n _
    unfold State.abandonBatch
    dsimp only
    have removed : Edits B w s s.removeBatchCommits := Edits.dropCommits List.filter_sublist (.inr rfl)
    have released := (removed.trans (Edits.wearSlot n)).trans
      (Edits.foldl (fun s n => Edits.releaseSlot (s := s) n) s.batch.reservedSlots _)
    have same : ((s.batch.reservedSlots).foldl State.releaseSlot (s.removeBatchCommits.wearSlot n)).batch = s.batch := by
      have fold : ∀ (l : List Nat) (u : State), (l.foldl State.releaseSlot u).batch = u.batch := by
        intro l
        induction l with
        | nil => exact fun _ => rfl
        | cons m l ih => exact fun u => ih _
      exact fold _ _
    have reopened : ∀ b : Batch, b.items = s.batch.items → Edits B w _ (State.setBatch _ b) := fun b hi =>
      released.trans (Edits.setBatch fun _ hs => ⟨hi ▸ same ▸ hs.batch.places, hi ▸ same ▸ hs.batch.items⟩)
    refine Relation.ReflTransGen.trans ?_ (Edits.fillReserved _ _ _ _ _)
    refine reopened _ ?_
    rfl
  · exact .refl

theorem Edits.mapEntry {n : Nat} {f : Entry → Entry} (hf : ∀ e, e.countsInRange → (f e).countsInRange) :
    Edits B w s (s.mapEntry n f) := by
  unfold State.mapEntry
  split
  · rename_i e he
    exact Edits.setEntry fun _ hs => hf e (hs.entries n e he)
  · exact .refl

theorem Edits.promoteItem {x : Item × Nat × Promotion} (hx : B → imageInRange x.1.image?) :
    Edits B w s (s.promoteItem x) := by
  obtain ⟨item, n, u⟩ := x
  cases item with
  | insert e => exact Edits.occupySlot fun hb _ => hx hb e rfl
  | modify id y f => exact Edits.mapEntry fun _ => Entry.countsInRange_modified f
  | topUp id k => exact Edits.mapEntry fun _ => Entry.countsInRange_toppedUp k
  | bar id y => exact Edits.mapEntry fun _ => Entry.countsInRange_withState _
  | unbar id y => exact Edits.mapEntry fun _ => Entry.countsInRange_withState _
  | retire id y =>
    cases u with
    | clear => exact Edits.clearSlot n
    | mark => exact (Edits.markRetiring n).trans (Edits.settleRetiring n)
    | makeCurrent => exact (Edits.mapEntry fun _ => Entry.countsInRange_withState _).trans (Edits.settleRetiring n)

theorem Edits.promoteItems {items : List (Item × Nat × Promotion)} (hx : ∀ x ∈ items, B → imageInRange x.1.image?) :
    Edits B w s (items.foldl State.promoteItem s) := by
  induction items generalizing s with
  | nil => exact .refl
  | cons x items ih =>
    exact (Edits.promoteItem (hx x List.mem_cons_self)).trans (ih fun y hy => hx y (List.mem_cons_of_mem _ hy))

theorem Edits.promoteEffect (hi : B → ∀ y ∈ s.batch.items, imageInRange y.image?) :
    Edits B w s (promoteEffect c x v s) := by
  unfold Sys2Proof.Machine.promoteEffect
  split
  · rename_i ups
    unfold State.applyPromotion
    refine Relation.ReflTransGen.trans ?_ (Edits.fillReserved _ _ _ _ _)
    refine Relation.ReflTransGen.trans ?_ (Edits.setBatch fun _ _ => ⟨Nat.zero_le _, nofun⟩)
    exact Edits.promoteItems fun y hy hb => hi hb _ (List.of_mem_zip hy).1
  · exact .refl

end Sys2Proof.Machine
end

section
/-! The inversion of every command, and what follows from it: O54, O57 and O58. -/

namespace Sys2Proof.Machine

variable {B : Prop} {w : Bool} {s t : State}

/-! ### Start-up -/

theorem CommitUnit.atStartUp_drops (c : CommitUnit) :
    c.atStartUp.queue.Sublist c.queue ∧ (c.atStartUp.work = none ∨ c.atStartUp.work = c.work) := by
  unfold CommitUnit.atStartUp
  split
  · rename_i x hx
    exact ⟨List.take_sublist 1 c.queue, .inr hx.symm⟩
  · exact ⟨List.nil_sublist _, .inl rfl⟩

theorem PortState.withinPlaces_atStartUp (x : PortState) : x.atStartUp.withinPlaces := ⟨Nat.zero_le _, Nat.zero_le _⟩

theorem Edits.beginStartUp : Edits B w s s.beginStartUp := by
  obtain ⟨hq, hx⟩ := s.commits.atStartUp_drops
  have ports : Edits B w s (((s.setPort .mp s.mp.atStartUp).setPort .tp0 s.tp0.atStartUp).setPort .tp1 s.tp1.atStartUp) :=
    ((Edits.setPort fun _ _ => s.mp.withinPlaces_atStartUp).trans
      (Edits.setPort fun _ _ => s.tp0.withinPlaces_atStartUp)).trans
      (Edits.setPort fun _ _ => s.tp1.withinPlaces_atStartUp)
  have commits := ports.trans (Edits.dropCommits (q := s.commits.atStartUp.queue) (x := s.commits.atStartUp.work) hq hx)
  have time := commits.trans (Edits.setTime (x := startTime) fun _ _ => Timebase.inRange_start)
  have pointer := time.tail (.pointer w _ (.port .mp))
  exact pointer.tail (.flags w _ .starting s.resetLow s.inhibited s.freeIndex)

/-- The flags of a state written, as part of a chain. -/
theorem Edits.flags (phase : Phase) (low inhibited : Bool) (free : Nat) :
    Edits B w s { s with phase := phase, resetLow := low, inhibited := inhibited, freeIndex := free } :=
  (Edit.flags w s phase low inhibited free).chain

theorem Edits.resetFall (raised : Bool) : Edits B true s (s.resetFall raised) := by
  have started : Edits B true s { s.beginStartUp with resetLow := true } :=
    Edits.beginStartUp.trans (Edits.flags .starting true s.inhibited s.freeIndex)
  unfold State.resetFall
  split
  · exact .refl
  · split
    · exact Edits.flags s.phase true s.inhibited s.freeIndex
    · exact started
    · split
      · exact started.trans (Edits.store (s := { s.beginStartUp with resetLow := true }) Store.evolves_raiseCounter)
      · exact started
    · exact started

theorem State.evolves_storeAfterLoss (s : State) (cut : PowerCut) : s.store.evolves s.bounded (s.storeAfterLoss cut) := by
  unfold State.storeAfterLoss
  split
  · rename_i x hx
    exact x.evolves_cut (fun hs => hs.commits.work x hx) cut
  · split
    · exact Store.evolves_raiseCounter
    · exact .refl _ _

theorem Edits.unpowered {st : Store} (h : s.store.evolves s.bounded st) : Edits s.bounded true s (s.unpowered st) := by
  have written : Edits s.bounded true s { s with store := st } :=
    Edits.store ⟨h.tokeeps, fun hb => h.ranges hb.1⟩
  have started := written.trans (Edits.beginStartUp (s := { s with store := st }))
  have commits := started.trans (Edits.dropCommits (q := []) (x := none) (List.nil_sublist _) (.inl rfl))
  have table := (commits.tail (.dropTable true _ (.port .mp))).tail (.dropHolds true _)
  have batch := table.trans (Edits.setBatch (b := emptyBatch) fun _ _ => ⟨Nat.zero_le _, nofun⟩)
  have scan := batch.tail (.scan true _ idleScan fun _ _ => Nat.zero_le _)
  exact scan.trans (Edits.flags .off s.resetLow s.inhibited s.freeIndex)

theorem Edits.loadSlot (n : Nat) : Edits B w s (s.loadSlot n) := by
  have written : Edits B w s (s.setSlot n (s.store.slot n).working) := by
    refine Edits.setSlot fun _ hs e he => hs.store.images n e ?_
    unfold DurableSlot.working SlotContent.entry? at he
    cases hi : (s.store.slot n).image <;> simp [hi] at he ⊢
    exact he
  unfold State.loadSlot
  dsimp only
  split
  · split
    · exact (written.trans (Edits.spillGain _ _)).trans (Edits.joinClearDue n)
    · exact written.trans (Edits.spillGain _ _)
  · exact written

theorem Edits.completeRestore : Edits B true s s.completeRestore := by
  have written : Edits B true s { s with store := s.store.raiseCounter } := Edits.store Store.evolves_raiseCounter
  have holds := written.tail (.dropHolds true _)
  have commits := holds.trans (Edits.dropCommits (q := []) (x := none) (List.nil_sublist _) (.inl rfl))
  have batch := commits.trans (Edits.setBatch (b := emptyBatch) fun _ _ => ⟨Nat.zero_le _, nofun⟩)
  have scan := batch.tail (.scan true _ idleScan fun _ _ => Nat.zero_le _)
  have time := scan.trans (Edits.setTime (x := startTime) fun _ _ => Timebase.inRange_start)
  have opened := time.trans (Edits.flags .running s.resetLow s.inhibited s.freeIndex)
  exact (opened.tail (.dropTable true _ (.port .mp))).trans
    (Edits.foldl (fun s n => Edits.loadSlot (s := s) n) _ _)

/-! ### Every command -/

/-- A take whose body needs one place for its response. -/
theorem Edits.takeOne {p : Port} {k : Kind} {body : Request → State → State} (hk : k.responsePlaces = 1)
    (h : ∀ r u, u.hasRoom p 1 → Edits B w u (body r u)) : Edits B w s (s.take p k body) :=
  Edits.take fun r u _ hu => h r u (by have := hu.1 (by rw [hk]; decide); rwa [hk] at this)

/-- A take whose body needs a place for its response and one for its commit. -/
theorem Edits.takeChangeOf {k : Kind} {read : List Byte → Option Item} (hk : k.responsePlaces = 1)
    (hc : k.needsCommit = true) (hread : ∀ payload x, read payload = some x → x.newOk) :
    Edits B w s (s.take .mp k fun r => Sys2Proof.Machine.takeChange (read r.payload) r) :=
  Edits.take fun r u _ hu => Edits.takeChange (hread r.payload)
    (by have := hu.1 (by rw [hk]; decide); rwa [hk] at this) (hu.2 hc)

/-- Every command is a chain of writes, and one that may not write the durable store is a chain that does not (R99). -/
theorem exec_edits (c : Instr) (s : State) : ∃ t, exec c s = .next t ∧ Edits s.bounded (writesStore c) s t := by
  cases c with
  | request p x => exact ⟨_, rfl, Edits.exchange p x⟩
  | fetch p x => exact ⟨_, rfl, Edits.exchange p x⟩
  | portStatus p x => exact ⟨_, rfl, Edits.exchange p x⟩
  | present p => exact ⟨_, rfl, Edits.takeOne rfl fun r u hu => Edits.answersTo (takePresent_answers u p r) hu⟩
  | draw p => exact ⟨_, rfl, Edits.takeOne rfl fun r u hu => Edits.takeDraw hu⟩
  | extend p => exact ⟨_, rfl, Edits.takeOne rfl fun r u hu => Edits.takeExtend hu⟩
  | settle p => exact ⟨_, rfl, Edits.take fun r u _ hu => Edits.takeSettle hu⟩
  | release p => exact ⟨_, rfl, Edits.takeOne rfl fun r u hu => Edits.takeRelease hu⟩
  | forceRelease => exact ⟨_, rfl, Edits.takeOne rfl fun r u hu => Edits.takeForceRelease hu⟩
  | queryHold p => exact ⟨_, rfl, Edits.takeOne rfl fun r u hu => Edits.answersTo (takeQueryHold_answers u p r) hu⟩
  | listHolds => exact ⟨_, rfl, Edits.takeOne rfl fun r u hu => Edits.answersTo (takeListHolds_answers u r) hu⟩
  | readTime p => exact ⟨_, rfl, Edits.takeOne rfl fun r u hu => Edits.answer _ _ _ hu⟩
  | readIdentity p => exact ⟨_, rfl, Edits.takeOne rfl fun r u hu => Edits.answer _ _ _ hu⟩
  | status => exact ⟨_, rfl, Edits.takeOne rfl fun r u hu => Edits.answer _ _ _ hu⟩
  | setTime => exact ⟨_, rfl, Edits.takeOne rfl fun r u hu => Edits.takeSetTime hu⟩
  | setClass => exact ⟨_, rfl, Edits.take fun r u _ hu => Edits.takeSetClass hu⟩
  | readClass => exact ⟨_, rfl, Edits.takeOne rfl fun r u hu => Edits.answersTo (takeReadClass_answers u r) hu⟩
  | insert => exact ⟨_, rfl, Edits.takeChangeOf rfl rfl fun _ _ => readInsertItem_newOk⟩
  | modify => exact ⟨_, rfl, Edits.takeChangeOf rfl rfl fun _ _ => readModify_newOk⟩
  | topUp => exact ⟨_, rfl, Edits.takeChangeOf rfl rfl fun _ _ => readTopUp_newOk⟩
  | bar => exact ⟨_, rfl, Edits.takeChangeOf rfl rfl fun _ _ => readBarItem_newOk⟩
  | unbar => exact ⟨_, rfl, Edits.takeChangeOf rfl rfl fun _ _ => readUnbarItem_newOk⟩
  | retire => exact ⟨_, rfl, Edits.takeChangeOf rfl rfl fun _ _ => readRetireItem_newOk⟩
  | relocate => exact ⟨_, rfl, Edits.take fun r u _ hu => Edits.takeRelocate hu⟩
  | readEntry => exact ⟨_, rfl, Edits.takeOne rfl fun r u hu => Edits.answersTo (takeReadEntry_answers u r) hu⟩
  | stage => exact ⟨_, rfl, Edits.takeOne rfl fun r u hu => Edits.takeStage hu⟩
  | discard => exact ⟨_, rfl, Edits.takeOne rfl fun r u hu => Edits.takeDiscard hu⟩
  | readBatch => exact ⟨_, rfl, Edits.takeOne rfl fun r u hu => Edits.answer _ _ _ hu⟩
  | apply => exact ⟨_, rfl, Edits.take fun r u _ hu => Edits.takeApply (hu.1 (by decide))⟩
  | startScan => exact ⟨_, rfl, Edits.take fun r u _ hu => Edits.takeStartScan (hu.1 (by decide))⟩
  | suspendScan => exact ⟨_, rfl, Edits.takeOne rfl fun r u hu =>
      (takeSuspendScan_cases u r).elim (Edits.answersTo · hu) (Edits.movesScan · hu)⟩
  | resumeScan => exact ⟨_, rfl, Edits.takeOne rfl fun r u hu =>
      (takeResumeScan_cases u r).elim (Edits.answersTo · hu) (Edits.movesScan · hu)⟩
  | abortScan => exact ⟨_, rfl, Edits.takeOne rfl fun r u hu => Edits.takeAbortScan hu⟩
  | reset => exact ⟨_, rfl, Edits.take fun r u _ _ => Edits.beginStartUp⟩
  | scanStep => exact ⟨_, rfl, Edits.scanStep⟩
  | secondEvent => exact ⟨_, rfl, Edits.secondEvent⟩
  | holdExpiry n =>
    refine ⟨_, rfl, ?_⟩
    split
    · exact Edits.expire n
    · exact .refl
  | commitBegin => exact ⟨_, rfl, Edits.beginCommit⟩
  | clearDueAdmission => exact ⟨_, rfl, Edits.admitClear⟩
  | batchCommitAdmission => exact ⟨_, rfl, Edits.admitBatch⟩
  | settlementCompletion v => exact ⟨_, rfl, Edits.complete fun _ _ _ _ _ hx _ => Edits.settlementEffect hx⟩
  | insertCompletion v => exact ⟨_, rfl, Edits.complete fun _ _ _ _ _ hx _ => Edits.insertEffect hx⟩
  | modifyCompletion v => exact ⟨_, rfl, Edits.complete fun _ _ _ _ _ hx _ => Edits.modifyEffect hx⟩
  | topUpCompletion v => exact ⟨_, rfl, Edits.complete fun _ _ _ _ _ hx _ => Edits.topUpEffect hx⟩
  | barCompletion v => exact ⟨_, rfl, Edits.complete fun _ _ _ _ _ hx _ => Edits.barEffect hx⟩
  | retireCompletion v => exact ⟨_, rfl, Edits.complete fun _ _ _ _ _ hx _ => Edits.retireEffect hx⟩
  | slotClearCompletion => exact ⟨_, rfl, Edits.complete fun _ _ _ _ _ _ _ => Edits.clearEffect⟩
  | moveCompletion v => exact ⟨_, rfl, Edits.complete fun _ _ _ _ _ hx _ => Edits.moveEffect hx⟩
  | classWriteCompletion v => exact ⟨_, rfl, Edits.complete fun _ _ _ _ _ _ _ => Edits.classEffect⟩
  | stageWriteCompletion v => exact ⟨_, rfl, Edits.complete fun _ _ _ _ _ _ _ => Edits.stageEffect⟩
  | promoteCompletion =>
    exact ⟨_, rfl, Edits.complete fun _ _ _ _ _ _ hb => Edits.promoteEffect fun hs => hb ▸ hs.batch.items⟩
  | powerOn =>
    refine ⟨_, rfl, ?_⟩
    split
    · exact Edits.flags .starting s.resetLow s.inhibited s.freeIndex
    · exact .refl
  | powerLoss cut =>
    refine ⟨_, rfl, ?_⟩
    split
    · exact .refl
    · exact Edits.unpowered (s.evolves_storeAfterLoss cut)
  | resetNFall raised => exact ⟨_, rfl, Edits.resetFall raised⟩
  | resetNRelease => exact ⟨_, rfl, Edits.flags s.phase false s.inhibited s.freeIndex⟩
  | chgInhChange asserted => exact ⟨_, rfl, Edits.flags s.phase s.resetLow asserted s.freeIndex⟩
  | startUpRestore =>
    refine ⟨_, rfl, ?_⟩
    split
    · exact (Edits.store Store.evolves_settle).trans (Edits.flags .settled s.resetLow s.inhibited s.freeIndex)
    · exact .refl
  | restoreComplete =>
    refine ⟨_, rfl, ?_⟩
    split
    · exact Edits.completeRestore
    · exact .refl
  | tbclkPeriod =>
    refine ⟨_, rfl, ?_⟩
    split
    · exact Edits.setTime fun _ hs => Timebase.inRange_period hs.time
    · exact .refl

/-- What a step does, as a chain of writes on the state without its front command. -/
theorem step_edits (h : step s = .next t) : t = s ∨ ∃ c rest, s.pending = c :: rest ∧
    Edits (State.bounded { s with pending := rest }) (writesStore c) { s with pending := rest } t := by
  unfold step at h
  split at h
  · cases h; exact .inl rfl
  · rename_i c rest hp
    obtain ⟨t', ht, he⟩ := exec_edits c { s with pending := rest }
    rw [ht] at h
    cases h
    exact .inr ⟨c, rest, hp, he⟩

/-- Settles O54: a command outside `writesStore` is a chain without a write of the store, and no write takes a wear mark. -/
theorem durableStoreIsGuarded : Obligations.DurableStoreIsGuarded := by
  have chain : ∀ {c : Instr} {s t : State}, exec c s = .next t → Edits s.bounded (writesStore c) s t := by
    intro c s t h
    obtain ⟨t', ht, he⟩ := exec_edits c s
    rw [ht] at h
    cases h
    exact he
  exact ⟨fun c s t hc h => Edits.store_eq (hc ▸ chain h), fun c s t n h hn => (chain h).keeps_worn hn⟩

/-- Settles O57: every write of a part keeps the canonical form. -/
theorem stepKeepsCanonicalForm : Obligations.StepKeepsCanonicalForm := by
  intro s t hs h
  rcases step_edits h with rfl | ⟨c, rest, -, he⟩
  · exact hs
  · exact he.keeps_canonical hs

/-- The bounds do not look at the queue of commands. -/
theorem State.bounded_pending (hs : s.bounded) (rest : List Instr) : State.bounded { s with pending := rest } :=
  { hs with ports := hs.ports_of rfl rfl rfl }

/-- The bounds that rest on the books and on the sound table (R17, R157). -/
theorem State.countsWithin_of (ha : s.accounted) (ht : s.tableSound) : s.countsWithin := by
  obtain ⟨-, ⟨-, -, hflight, hcursor, hsum, hrehomed⟩, -, -⟩ := ha
  have hc : s.scan.cursor ≤ 4352 := hcursor
  have hr : s.scan.rehomed + (s.commits.queue.filter Commit.rehomes).length ≤ s.scan.cursor - 4096 := hrehomed
  exact ⟨ht.spillFits, hflight, by omega, by omega, by omega, by omega⟩

/-- Settles O58: every write of a part keeps the bounds; the counts follow from the books and the table. -/
theorem stepKeepsEveryBound : Obligations.StepKeepsEveryBound := by
  refine ⟨fun s t hs h => ?_, fun s => State.countsWithin_of⟩
  rw [State.withinBounds_iff] at hs ⊢
  rcases step_edits h with rfl | ⟨c, rest, -, he⟩
  · exact hs
  · have hb := State.bounded_pending hs rest
    exact he.keeps_bounded hb hb

end Sys2Proof.Machine
end

section
/-! The terms of the sound table: what it looks at, the sums over the hold table, and what is a member of its lists. -/

namespace Sys2Proof.Machine

variable {s t u : State}

/-! ### What the soundness of the table looks at -/

/-- Nothing that the soundness of the table looks at has changed, and no scan has begun to run. -/
structure State.sameTable (s t : State) : Prop where
  slots : t.engine.slots = s.engine.slots
  spill : t.engine.spillCounts = s.engine.spillCounts
  due : t.engine.clearDue = s.engine.clearDue
  holds : t.holds = s.holds
  commits : t.commits = s.commits
  store : t.store = s.store
  batch : t.batch = s.batch
  phase : t.phase = s.phase
  scan : t.scan.state = .running → s.scan.state = .running

theorem State.sameTable.trans (h : s.sameTable t) (h' : t.sameTable u) : s.sameTable u :=
  ⟨h'.slots.trans h.slots, h'.spill.trans h.spill, h'.due.trans h.due, h'.holds.trans h.holds,
    h'.commits.trans h.commits, h'.store.trans h.store, h'.batch.trans h.batch, h'.phase.trans h.phase,
    fun hr => h.scan (h'.scan hr)⟩

theorem State.sameTable_setPort (s : State) (p : Port) (x : PortState) : s.sameTable (s.setPort p x) := by
  cases p <;> exact ⟨rfl, rfl, rfl, rfl, rfl, rfl, rfl, rfl, id⟩

theorem State.sameTable_answer (s : State) (p : Port) (r : Request) (status : Status) (payload : List Byte) :
    s.sameTable (s.answer p r status payload) := s.sameTable_setPort _ _

theorem State.sameTable_answersTo {p : Port} {r : Request} (h : s.answersTo p r t) : s.sameTable t := by
  obtain ⟨status, payload, rfl⟩ := h
  exact s.sameTable_answer _ _ _ _

theorem State.sameTable_dequeue (s : State) (p : Port) : s.sameTable (s.dequeue p) := by
  cases p <;> exact ⟨rfl, rfl, rfl, rfl, rfl, rfl, rfl, rfl, id⟩

theorem State.sameTable_report (s : State) (o : Origin) (status : Status) (payload : List Byte) :
    s.sameTable (s.report o status payload) := by
  rcases State.report_cases o status payload (s := s) with h | ⟨p, x, h⟩
  · rw [h]; exact ⟨rfl, rfl, rfl, rfl, rfl, rfl, rfl, rfl, id⟩
  · rw [h]; exact s.sameTable_setPort _ _

theorem State.sameTable_setScan {x : Scan} (h : x.state = .running → s.scan.state = .running) :
    s.sameTable (s.setScan x) := ⟨rfl, rfl, rfl, rfl, rfl, rfl, rfl, rfl, h⟩

theorem State.sameTable_fillReserved (s : State) (p : Port) (kind tag : Byte) (status : Status) (payload : List Byte) :
    s.sameTable (s.fillReserved p kind tag status payload) := s.sameTable_report (.port p kind tag) status payload

theorem State.sameTable_endScan (s : State) : s.sameTable s.endScan :=
  (State.sameTable_setScan (x := { s.scan with state := .idle }) nofun).trans (State.sameTable_fillReserved _ _ _ _ _ _)

theorem State.sameTable_endWalk (s : State) : s.sameTable s.endWalk := by
  unfold State.endWalk
  split
  · exact s.sameTable_endScan
  · exact State.sameTable_setScan nofun

theorem State.sameTable_tellScan (s : State) (o : Origin) {count : Scan → Scan}
    (hc : ∀ x, (count x).state = x.state) : s.sameTable (s.tellScan o count) := by
  cases o with
  | scan =>
    have told : s.sameTable (s.setScan (count { s.scan with inFlight := s.scan.inFlight - 1 })) :=
      State.sameTable_setScan fun h => by rwa [hc] at h
    simp only [State.tellScan, State.scanCompletion]
    split
    · exact told.trans (State.sameTable_endScan _)
    · exact told
  | _ => exact ⟨rfl, rfl, rfl, rfl, rfl, rfl, rfl, rfl, id⟩

/-- The table is as sound as before where nothing it looks at has changed. -/
theorem State.sameTable.tableSound (h : s.sameTable t) (hs : s.tableSound) : t.tableSound := by
  obtain ⟨mp, tp0, tp1, ⟨slots, spill, due, ptr⟩, holds, commits, store, batch, scan, time, phase, low, inh, free, pend⟩ := s
  obtain ⟨mp', tp0', tp1', ⟨slots', spill', due', ptr'⟩, holds', commits', store', batch', scan', time', phase', low',
    inh', free', pend'⟩ := t
  obtain ⟨h1, h2, h3, h4, h5, h6, h7, h8, hscan⟩ := h
  dsimp only at h1 h2 h3 h4 h5 h6 h7 h8
  subst h1 h2 h3 h4 h5 h6 h7 h8
  exact
    { store := hs.store
      works := hs.works
      spillFits := hs.spillFits
      directory := fun hp =>
        have d := hs.directory hp
        ⟨d.images, d.alone, d.spill, d.reserved, d.claimsApart, d.claimsPlaced, d.newIds⟩
      holds := fun hp =>
        have d := hs.holds hp
        ⟨d.lie, d.within, d.settling, d.modifying, d.clearing, d.cleared⟩
      subjects := fun hp =>
        have d := hs.subjects hp
        ⟨d.apart, d.lie, d.single, d.fresh, d.living, fun c w hc hw =>
          have a := d.work c w hc hw
          ⟨a.inserts, a.writes, a.clears, a.moves, a.stages, a.promotes⟩⟩
      batch := fun hp =>
        have d := hs.batch hp
        ⟨d.apart, d.fresh, fun hl hr => d.noScan hl (hscan hr), d.recorded, d.named, d.stagedItems, d.fedWhole,
          d.stageWrites, d.order⟩ }

/-! ### Sums over the hold table -/

/-- Whether a place's hold is on a slot, as a number. -/
def holdCount (k : Nat) : Option Hold → Nat
  | some h => if h.slot = k then 1 else 0
  | none => 0

/-- The units that a place's hold holds on a slot. -/
def holdUnits (k : Nat) : Option Hold → Nat
  | some h => if h.slot = k then h.units else 0
  | none => 0

open Finset in
theorem State.openHolds_eq_sum (s : State) (k : Nat) :
    s.openHolds k = ∑ n ∈ range 32, holdCount k (s.place n).live := by
  have lists : ∀ l : List Nat,
      (((l.filterMap fun n => (s.place n).live.map fun h => (n, h)).map (·.2)).filter fun h => h.slot == k).length
        = (l.map fun n => holdCount k (s.place n).live).sum := by
    intro l
    induction l with
    | nil => rfl
    | cons n l ih =>
      cases hl : (s.place n).live with
      | none => simp [hl, ih, holdCount]
      | some h => by_cases hk : h.slot = k <;> simp [hl, hk, ih, holdCount, Nat.add_comm]
  exact lists (List.range 32)

open Finset in
theorem State.heldUnits_eq_sum (s : State) (k : Nat) :
    s.heldUnits k = ∑ n ∈ range 32, holdUnits k (s.place n).live := by
  have lists : ∀ l : List Nat,
      ((((l.filterMap fun n => (s.place n).live.map fun h => (n, h)).map (·.2)).filter fun h => h.slot == k).map
        (·.units)).sum = (l.map fun n => holdUnits k (s.place n).live).sum := by
    intro l
    induction l with
    | nil => rfl
    | cons n l ih =>
      cases hl : (s.place n).live with
      | none => simp [hl, ih, holdUnits]
      | some h => by_cases hk : h.slot = k <;> simp [hl, hk, ih, holdUnits]
  exact lists (List.range 32)

/-- Two sums that differ in one term. -/
theorem sum_range_of_one {f g : Nat → Nat} {n : Nat} (hn : n < 32) (h : ∀ m, m ≠ n → g m = f m) :
    ∑ m ∈ Finset.range 32, g m + f n = ∑ m ∈ Finset.range 32, f m + g n := by
  have hmem : n ∈ Finset.range 32 := Finset.mem_range.2 hn
  have same : ∑ m ∈ (Finset.range 32).erase n, g m = ∑ m ∈ (Finset.range 32).erase n, f m :=
    Finset.sum_congr rfl fun m hm => h m (Finset.ne_of_mem_erase hm)
  rw [← Finset.add_sum_erase _ f hmem, ← Finset.add_sum_erase _ g hmem, same]
  omega

/-- The open holds of an entry after one place was written (R22). -/
theorem State.openHolds_setPlace (s : State) {n : Nat} (hn : n < Config.holdPlaces) (x : HoldPlace) (k : Nat) :
    (s.setPlace n x).openHolds k + holdCount k (s.place n).live = s.openHolds k + holdCount k x.live := by
  have h := sum_range_of_one (f := fun m => holdCount k (s.place m).live)
    (g := fun m => holdCount k ((s.setPlace n x).place m).live) hn
    fun m hm => by simp only [State.place_setPlace, if_neg hm]
  simp only [State.place_setPlace_self] at h
  rw [State.openHolds_eq_sum, State.openHolds_eq_sum]
  exact h

/-- The held units of an entry after one place was written (R22). -/
theorem State.heldUnits_setPlace (s : State) {n : Nat} (hn : n < Config.holdPlaces) (x : HoldPlace) (k : Nat) :
    (s.setPlace n x).heldUnits k + holdUnits k (s.place n).live = s.heldUnits k + holdUnits k x.live := by
  have h := sum_range_of_one (f := fun m => holdUnits k (s.place m).live)
    (g := fun m => holdUnits k ((s.setPlace n x).place m).live) hn
    fun m hm => by simp only [State.place_setPlace, if_neg hm]
  simp only [State.place_setPlace_self] at h
  rw [State.heldUnits_eq_sum, State.heldUnits_eq_sum]
  exact h

/-- An entry has no open hold where no live hold is on its slot. -/
theorem State.openHolds_eq_zero {k : Nat} : s.openHolds k = 0 ↔
    ∀ n h, n < Config.holdPlaces → (s.place n).live = some h → h.slot ≠ k := by
  rw [State.openHolds_eq_sum, Finset.sum_eq_zero_iff]
  constructor
  · intro hz n h hn hl hk
    have := hz n (Finset.mem_range.2 hn)
    simp [hl, holdCount, hk] at this
  · intro hz n hn
    cases hl : (s.place n).live with
    | none => rfl
    | some h => simp [holdCount, hz n h (Finset.mem_range.1 hn) hl]

/-- No open holds, no held units. -/
theorem State.heldUnits_eq_zero {k : Nat} (h : s.openHolds k = 0) : s.heldUnits k = 0 := by
  rw [State.heldUnits_eq_sum, Finset.sum_eq_zero_iff]
  intro n hn
  cases hl : (s.place n).live with
  | none => rfl
  | some x => simp [holdUnits, State.openHolds_eq_zero.1 h n x (Finset.mem_range.1 hn) hl]

/-- Open holds and held units read the holds of the places alone. -/
theorem State.holds_congr (h : ∀ n, (t.place n).live = (s.place n).live) (k : Nat) :
    t.openHolds k = s.openHolds k ∧ t.heldUnits k = s.heldUnits k := by
  simp only [State.openHolds_eq_sum, State.heldUnits_eq_sum, h, and_self]

/-- Open holds and held units of a slot read the slots and units of the holds. -/
theorem State.holds_congr_of_terms {j k : Nat} (h : ∀ n, holdCount j (t.place n).live = holdCount k (s.place n).live ∧
    holdUnits j (t.place n).live = holdUnits k (s.place n).live) :
    t.openHolds j = s.openHolds k ∧ t.heldUnits j = s.heldUnits k := by
  simp only [State.openHolds_eq_sum, State.heldUnits_eq_sum, (h _).1, (h _).2, and_self]

/-! ### Entries and their marks -/

theorem State.entryAt_eq_some {n : Nat} {e : Entry} : s.entryAt n = some e ↔ (s.slot n).content = .occupied e := by
  unfold State.entryAt SlotContent.entry?
  cases (s.slot n).content <;> simp

theorem State.entryAt_congr {n : Nat} (h : t.slot n = s.slot n) : t.entryAt n = s.entryAt n := by
  unfold State.entryAt; rw [h]

theorem State.slotRetiring_congr {n : Nat} (h : t.slot n = s.slot n) : t.slotRetiring n = s.slotRetiring n := by
  unfold State.slotRetiring State.isRetiring; rw [State.entryAt_congr h, h]

theorem State.slotRetiring_of_entry {n : Nat} (he : t.entryAt n = s.entryAt n)
    (hm : (t.slot n).retireMark = (s.slot n).retireMark) : t.slotRetiring n = s.slotRetiring n := by
  unfold State.slotRetiring State.isRetiring; rw [he, hm]

theorem State.slotRetiring_eq {n : Nat} {e : Entry} (he : s.entryAt n = some e) :
    s.slotRetiring n = (decide (e.state = .retiring) || (s.slot n).retireMark) := by
  unfold State.slotRetiring State.isRetiring; rw [he]

theorem State.slotRetiring_of_none {n : Nat} (he : s.entryAt n = none) : s.slotRetiring n = false := by
  unfold State.slotRetiring; rw [he]

/-- A RETIRING entry is one. -/
theorem State.entryAt_of_slotRetiring {n : Nat} (h : s.slotRetiring n = true) : ∃ e, s.entryAt n = some e := by
  cases he : s.entryAt n with
  | none => rw [State.slotRetiring_of_none he] at h; cases h
  | some e => exact ⟨e, rfl⟩

/-- A reserved slot holds no entry. -/
theorem State.entryAt_of_reserved {n : Nat} {id : List Byte} {x : Holder} (h : (s.slot n).content = .reserved id x) :
    s.entryAt n = none := by
  unfold State.entryAt; rw [h]; rfl

/-! ### Which commits are for an entry -/

/-- A commit is for an entry as its single subject, as its stage write, or as the PROMOTE of a batch that names it (R23). -/
theorem Change.isFor_iff {locked : List Nat} {n : Nat} {c : Change} : c.isFor locked n = true ↔
    c.subject = some n ∨ (∃ i, c = .stageItem i n) ∨ (c = .promoteBatch ∧ n ∈ locked) := by
  cases c <;> simp [Change.isFor, Change.subject]

theorem State.isPending_eq_false {n : Nat} : s.isPending n = false ↔
    ∀ c ∈ s.commits.queue, c.change.isFor s.batch.lockedSlots n = false := by
  unfold State.isPending State.pendingChange
  rw [Option.isSome_map, ← Bool.not_eq_true, List.find?_isSome]
  simp

theorem State.locked_eq_true {n : Nat} : s.locked n = true ↔ s.batch.isLocked = true ∧ n ∈ s.batch.lockedSlots := by
  simp [State.locked]

theorem State.clearQueued_iff {n : Nat} : s.clearQueued n = true ↔ ∃ c ∈ s.commits.queue, c.change = .clearEntry n := by
  simp [State.clearQueued]

/-! ### Claims and subjects -/

/-- The slots of a batch's reservations with their IDs. -/
def Batch.claims (b : Batch) : List (Nat × List Byte × Holder) :=
  if b.isLocked = true then
    (b.recorded.filter fun x => x.1.isInsert).map fun x => (x.2.slot, x.1.id, Holder.batchInsert)
  else []

/-- The slots of the entries that a batch locks, while it is locked. -/
def Batch.subjects (b : Batch) : List Nat := if b.isLocked = true then b.lockedSlots else []

theorem State.claims_eq (s : State) :
    s.claims = s.commits.queue.filterMap (fun c => s.claimOf c.change) ++ s.batch.claims := rfl

theorem State.subjects_eq (s : State) :
    s.subjects = s.commits.queue.filterMap (fun c => c.change.subject) ++ s.batch.subjects := rfl

theorem State.mem_claims {x : Nat × List Byte × Holder} :
    x ∈ s.claims ↔ (∃ c ∈ s.commits.queue, s.claimOf c.change = some x) ∨ x ∈ s.batch.claims := by
  rw [State.claims_eq, List.mem_append, List.mem_filterMap]

theorem State.mem_subjects {n : Nat} :
    n ∈ s.subjects ↔ (∃ c ∈ s.commits.queue, c.change.subject = some n) ∨ n ∈ s.batch.subjects := by
  rw [State.subjects_eq, List.mem_append, List.mem_filterMap]

theorem Batch.mem_lockedSlots {b : Batch} {n : Nat} :
    n ∈ b.lockedSlots ↔ ∃ x r, (x, r) ∈ b.recorded ∧ x.isInsert = false ∧ r.slot = n := by
  simp only [Batch.lockedSlots, List.mem_map, List.mem_filter, Bool.not_eq_true']
  constructor
  · rintro ⟨⟨x, r⟩, ⟨hm, hi⟩, rfl⟩; exact ⟨x, r, hm, hi, rfl⟩
  · rintro ⟨x, r, hm, hi, rfl⟩; exact ⟨(x, r), ⟨hm, hi⟩, rfl⟩

theorem Batch.mem_subjects {b : Batch} {n : Nat} : n ∈ b.subjects ↔ b.isLocked = true ∧ n ∈ b.lockedSlots := by
  unfold Batch.subjects
  split <;> simp_all

theorem Batch.mem_claims {b : Batch} {y : Nat × List Byte × Holder} : y ∈ b.claims ↔
    b.isLocked = true ∧ ∃ x r, (x, r) ∈ b.recorded ∧ x.isInsert = true ∧ y = (r.slot, x.id, .batchInsert) := by
  unfold Batch.claims
  split
  · rename_i hl
    simp only [List.mem_map, List.mem_filter, hl, true_and]
    constructor
    · rintro ⟨⟨x, r⟩, ⟨hm, hi⟩, rfl⟩; exact ⟨x, r, hm, hi, rfl⟩
    · rintro ⟨x, r, hm, hi, rfl⟩; exact ⟨(x, r), ⟨hm, hi⟩, rfl⟩
  · rename_i hl
    simp [hl]

/-- An item stands beside its record. -/
theorem Batch.mem_recorded {b : Batch} {x : Item} {r : ItemRecord} :
    (x, r) ∈ b.recorded ↔ ∃ i : Nat, b.items[i]? = some x ∧ b.records[i]? = some r := by
  unfold Batch.recorded
  rw [List.mem_iff_getElem?]
  simp only [List.getElem?_zip_eq_some]

/-- A batch that is not locked has neither claims nor subjects. -/
theorem Batch.claims_of_unlocked {b : Batch} (h : b.isLocked = false) : b.claims = [] := by
  unfold Batch.claims; simp [h]

theorem Batch.subjects_of_unlocked {b : Batch} (h : b.isLocked = false) : b.subjects = [] := by
  unfold Batch.subjects; simp [h]

/-- Two batches with the same plan: locked alike, with the same items and records. -/
structure Batch.samePlan (b b' : Batch) : Prop where
  locked : b'.isLocked = b.isLocked
  items : b'.items = b.items
  records : b'.records = b.records

theorem Batch.samePlan.recorded {b b' : Batch} (h : b.samePlan b') : b'.recorded = b.recorded := by
  unfold Batch.recorded; rw [h.items, h.records]

theorem Batch.samePlan.lockedSlots {b b' : Batch} (h : b.samePlan b') : b'.lockedSlots = b.lockedSlots := by
  unfold Batch.lockedSlots; rw [h.recorded]

theorem Batch.samePlan.claims {b b' : Batch} (h : b.samePlan b') : b'.claims = b.claims := by
  unfold Batch.claims; rw [h.locked, h.recorded]

theorem Batch.samePlan.subjects {b b' : Batch} (h : b.samePlan b') : b'.subjects = b.subjects := by
  unfold Batch.subjects; rw [h.locked, h.lockedSlots]

end Sys2Proof.Machine
end

section
/-! What holds while intake is open, all in one place; and the facts about slots, claims and subjects that follow. -/

namespace Sys2Proof.Machine

variable {s t u : State}

/-! ### The running machine -/

/-- All that is known of a state while intake is open. -/
structure State.runs (s : State) : Prop where
  phase : s.phase = .running
  wf : Table.wf emptySlot s.engine.slots = true
  unmarked : ∀ n, (s.store.slot n).moveTarget = false
  formed : s.commitsFormed
  once : s.promoteOnce
  store : s.store.sound
  works : ∀ w, s.commits.work = some w → ∀ k, (w.updates k s.store).sound
  directory : s.directorySound
  holds : s.holdsSound
  subjects : s.subjectsSound
  batch : s.batchSound

theorem State.runs_of (hp : s.phase = .running) (hc : s.canonical) (hm : s.marksSettled) (ha : s.accounted)
    (ht : s.tableSound) : s.runs where
  phase := hp
  wf := hc.1
  unmarked := hm.1 (.inr hp)
  formed := ha.1
  once := ha.2.2.1
  store := ht.store
  works := ht.works
  directory := ht.directory hp
  holds := ht.holds hp
  subjects := ht.subjects hp
  batch := ht.batch hp

/-! ### Spill counts (R17) -/

/-- The OCCUPIED spill slots whose entry has this bucket as home. -/
def State.spillResidents (s : State) (b : Nat) : Nat :=
  (spillArea.filter fun n => match s.entryAt n with
    | some e => decide (homeBucket e.id = b)
    | none => false).length

/-- Every spill count is the number of its OCCUPIED spill slots. -/
def State.spillSound (s : State) : Prop := ∀ b, s.spillCount b = s.spillResidents b

/-- The part that an entry in a spill slot has in the count of a bucket. -/
def spillPart (n b : Nat) (e : Option Entry) : Nat :=
  match e with
  | some e => if inSpill n = true ∧ homeBucket e.id = b then 1 else 0
  | none => 0

theorem State.spillResidents_eq_sum (s : State) (b : Nat) :
    s.spillResidents b = ∑ n ∈ spillArea.toFinset, spillPart n b (s.entryAt n) := by
  have nodup : spillArea.Nodup := spillArea_pairwise.imp fun h => Nat.ne_of_lt h
  have lists : ∀ l : List Nat, (∀ n ∈ l, inSpill n = true) → (l.filter fun n => match s.entryAt n with
      | some e => decide (homeBucket e.id = b)
      | none => false).length = (l.map fun n => spillPart n b (s.entryAt n)).sum := by
    intro l
    induction l with
    | nil => exact fun _ => rfl
    | cons n l ih =>
      intro hl
      have ih := ih fun m hm => hl m (List.mem_cons_of_mem _ hm)
      have hn := hl n List.mem_cons_self
      cases he : s.entryAt n with
      | none => simp [he, ih, spillPart]
      | some e => by_cases hb : homeBucket e.id = b <;> simp [he, hb, hn, ih, spillPart, Nat.add_comm]
  rw [List.sum_toFinset _ nodup]
  exact lists _ fun n hn => mem_spillArea_iff_inSpill.1 hn

/-- The residents after one slot changed what it holds. -/
theorem State.spillResidents_of_one {n : Nat} (h : ∀ m, m ≠ n → t.entryAt m = s.entryAt m) (b : Nat) :
    t.spillResidents b + spillPart n b (s.entryAt n) = s.spillResidents b + spillPart n b (t.entryAt n) := by
  rw [State.spillResidents_eq_sum, State.spillResidents_eq_sum]
  by_cases hn : n ∈ spillArea.toFinset
  · have same : ∑ m ∈ spillArea.toFinset.erase n, spillPart m b (t.entryAt m)
        = ∑ m ∈ spillArea.toFinset.erase n, spillPart m b (s.entryAt m) :=
      Finset.sum_congr rfl fun m hm => by rw [h m (Finset.ne_of_mem_erase hm)]
    rw [← Finset.add_sum_erase _ (fun m => spillPart m b (s.entryAt m)) hn,
      ← Finset.add_sum_erase _ (fun m => spillPart m b (t.entryAt m)) hn, same]
    omega
  · have off : inSpill n = false :=
      Bool.eq_false_iff.2 fun hs => hn (List.mem_toFinset.2 (mem_spillArea_iff_inSpill.2 hs))
    have zero : ∀ e, spillPart n b e = 0 := by rintro (_ | e) <;> simp [spillPart, off]
    rw [zero, zero]
    exact congrArg (· + 0) (Finset.sum_congr rfl fun m hm => by rw [h m fun he => hn (he ▸ hm)])

theorem State.spillResidents_congr (h : ∀ n, (t.entryAt n).map (·.id) = (s.entryAt n).map (·.id)) (b : Nat) :
    t.spillResidents b = s.spillResidents b := by
  simp only [State.spillResidents_eq_sum]
  refine Finset.sum_congr rfl fun n _ => ?_
  have hn := h n
  cases hs : s.entryAt n <;> cases ht : t.entryAt n <;> simp_all [spillPart]

theorem State.spillSound_congr (hc : t.engine.spillCounts = s.engine.spillCounts)
    (h : ∀ n, (t.entryAt n).map (·.id) = (s.entryAt n).map (·.id)) (hs : s.spillSound) : t.spillSound := by
  intro b
  rw [State.spillResidents_congr h, ← hs b]
  unfold State.spillCount
  rw [hc]

/-- A slot write that leaves the ID in it keeps the counts sound. -/
theorem State.spillSound_setSlot (hs : s.spillSound) {n : Nat} {w : WorkingSlot}
    (hw : (w.content.entry?).map (·.id) = (s.entryAt n).map (·.id)) : (s.setSlot n w).spillSound := by
  refine State.spillSound_congr (s := s) rfl (fun m => ?_) hs
  rw [State.entryAt_setSlot]
  split
  · rename_i h; rw [h]; exact hw
  · rfl

theorem State.entryAt_clearSlot (s : State) (n m : Nat) :
    (s.clearSlot n).entryAt m = if m = n then none else s.entryAt m := by
  unfold State.entryAt
  rw [State.slot_clearSlot]
  split <;> rfl

/-- A clear keeps the counts sound. -/
theorem State.spillSound_clearSlot (hs : s.spillSound) (n : Nat) : (s.clearSlot n).spillSound := by
  intro b
  have one := State.spillResidents_of_one (s := s) (t := s.clearSlot n) (n := n)
    (fun m hm => by rw [State.entryAt_clearSlot, if_neg hm]) b
  rw [State.entryAt_clearSlot, if_pos rfl] at one
  have hb := hs b
  cases he : s.entryAt n with
  | none =>
    have same : (s.clearSlot n).spillCount b = s.spillCount b := by
      unfold State.clearSlot; rw [he]; rfl
    rw [he] at one
    simp only [spillPart] at one
    omega
  | some e =>
    rw [State.spillCount_clearSlot he]
    rw [he] at one
    simp only [spillPart, eq_comm (b := b)] at one
    omega

theorem State.slot_occupySlot (s : State) (n : Nat) (e : Entry) (m : Nat) :
    (s.occupySlot n e).slot m = if m = n then { s.slot n with content := .occupied e } else s.slot m := by
  unfold State.occupySlot State.setEntry
  rw [State.slot_spillGain, State.slot_setSlot]

theorem State.entryAt_occupySlot (s : State) (n : Nat) (e : Entry) (m : Nat) :
    (s.occupySlot n e).entryAt m = if m = n then some e else s.entryAt m := by
  unfold State.entryAt
  rw [State.slot_occupySlot]
  split <;> rfl

/-- An entry that joins a slot without one keeps the counts sound. -/
theorem State.spillSound_occupySlot (hs : s.spillSound) {n : Nat} (he : s.entryAt n = none) (e : Entry) :
    (s.occupySlot n e).spillSound := by
  intro b
  have one := State.spillResidents_of_one (s := s) (t := s.occupySlot n e) (n := n)
    (fun m hm => by rw [State.entryAt_occupySlot, if_neg hm]) b
  rw [State.entryAt_occupySlot, if_pos rfl, he] at one
  have count : (s.occupySlot n e).spillCount b
      = s.spillCount b + (if inSpill n = true ∧ b = homeBucket e.id then 1 else 0) :=
    State.spillCount_spillGain _ _ _ _
  have hb := hs b
  simp only [spillPart, eq_comm (b := b)] at one
  omega

/-- A sound spill count is at most 256. -/
theorem State.spillSound.fits (h : s.spillSound) (b : Nat) : s.spillCount b ≤ Config.spillSlots := by
  rw [h b]
  refine (List.length_filter_le _ _).trans ?_
  simp [spillArea]

/-! ### Claims (R14, R19) -/

/-- The reservations of the directory are those of the list, apart from one another and from the entries (R14, R19). -/
structure State.claimsSound (s : State) (C : List (Nat × List Byte × Holder)) : Prop where
  reserved : ∀ n id x, (s.slot n).content = .reserved id x ↔ (n, id, x) ∈ C
  slots : (C.map (·.1)).Nodup
  ids : (C.map (·.2.1)).Nodup
  placed : ∀ n id x, (n, id, x) ∈ C → liesRight n id
  newIds : ∀ n id x, (n, id, x) ∈ C → x ≠ .move → ∀ m e, s.entryAt m = some e → e.id ≠ id

theorem State.directorySound.claims (h : s.directorySound) : s.claimsSound s.claims :=
  ⟨h.reserved, h.claimsApart.1, h.claimsApart.2, h.claimsPlaced, h.newIds⟩

theorem State.claimsSound.perm {C D : List (Nat × List Byte × Holder)} (h : s.claimsSound C) (hp : C.Perm D) :
    s.claimsSound D :=
  ⟨fun n id x => (h.reserved n id x).trans hp.mem_iff, (hp.map _).nodup_iff.1 h.slots, (hp.map _).nodup_iff.1 h.ids,
    fun n id x hm => h.placed n id x (hp.mem_iff.2 hm), fun n id x hm => h.newIds n id x (hp.mem_iff.2 hm)⟩

/-- What a working directory, its store, its counts and its claims make up. -/
theorem State.directorySound_of (hstore : s.store.sound) (hmarks : ∀ n, (s.store.slot n).moveTarget = false)
    (images : ∀ n, s.entryAt n = (s.store.slot n).image ∧ (s.slot n).worn = (s.store.slot n).worn ∧
      (s.slot n).retireMark = (s.store.slot n).retireMark)
    (spill : s.spillSound) (claims : s.claimsSound s.claims) : s.directorySound where
  images := images
  alone m n x y hx hy hid := by
    rw [(images m).1] at hx
    rw [(images n).1] at hy
    rcases hstore.alone m n x y hx hy hid with h | h | h
    · exact h
    · rw [hmarks m] at h; cases h
    · rw [hmarks n] at h; cases h
  spill := spill
  reserved := claims.reserved
  claimsApart := ⟨claims.slots, claims.ids⟩
  claimsPlaced := claims.placed
  newIds := claims.newIds

theorem State.tableSound_of (store : s.store.sound)
    (works : ∀ w, s.commits.work = some w → ∀ k, (w.updates k s.store).sound) (directory : s.directorySound)
    (holds : s.holdsSound) (subjects : s.subjectsSound) (batch : s.batchSound) : s.tableSound where
  store := store
  works := works
  spillFits := State.spillSound.fits directory.spill
  directory _ := directory
  holds _ := holds
  subjects _ := subjects
  batch _ := batch

/-! ### What follows while intake is open -/

/-- An entry lies where its ID may (R20, R21). -/
theorem State.runs.entry_liesRight (h : s.runs) {n : Nat} {e : Entry} (he : s.entryAt n = some e) :
    liesRight n e.id := h.store.placed n e ((h.directory.images n).1 ▸ he)

/-- A slot without an entry has no retire mark (R9). -/
theorem State.runs.retireMark (h : s.runs) {n : Nat} (he : s.entryAt n = none) : (s.slot n).retireMark = false := by
  obtain ⟨hi, -, hm⟩ := h.directory.images n
  rw [hm]
  exact h.store.unmarked n (hi ▸ he)

/-- A lookup that finds nothing means that the table holds no entry of the ID (R18). -/
theorem State.runs.absent (h : s.runs) {id : List Byte} (hl : s.lookup id = none) {m : Nat} {e : Entry}
    (he : s.entryAt m = some e) : e.id ≠ id := by
  obtain ⟨hw, hs⟩ := State.lookup_eq_none hl
  intro hid
  rcases h.entry_liesRight he with hm | hm
  · exact hw m (hid ▸ hm) e he hid
  · have hm := mem_spillArea_iff_inSpill.2 hm
    refine hs ?_ m hm e he hid
    rw [h.directory.spill]
    refine List.length_pos_of_mem (List.mem_filter.2 ⟨hm, ?_⟩)
    simp [he, hid]

/-- A number that does not read as the default is listed with what it reads. -/
theorem Table.mem_of_get {α : Type} {d : α} {l : Table α} {k : Nat} (h : Table.get d l k ≠ d) :
    (k, Table.get d l k) ∈ l := by
  induction l with
  | nil => exact absurd rfl h
  | cons x rest ih =>
    obtain ⟨j, v⟩ := x
    by_cases hj : j = k
    · rw [Table.get, if_pos hj, hj]; exact List.mem_cons_self
    · rw [Table.get, if_neg hj] at h ⊢
      exact List.mem_cons_of_mem _ (ih h)

/-- An ID that is not reserved is in no reservation (R19). -/
theorem State.reservedFor_eq_none {id : List Byte} (h : s.reservedFor id = none) {n : Nat} {i : List Byte} {x : Holder}
    (hr : (s.slot n).content = .reserved i x) : i ≠ id := by
  intro hid
  have listed : (n, s.slot n) ∈ s.engine.slots := Table.mem_of_get fun hd => by
    change s.slot n = emptySlot at hd
    rw [hd] at hr
    cases hr
  have := List.find?_eq_none.1 (Option.map_eq_none_iff.1 h) _ listed
  simp [hr, hid] at this

/-- A reserved slot is neither placeable nor OCCUPIED. -/
theorem State.claimsSound.not_placeable {C : List (Nat × List Byte × Holder)} (h : s.claimsSound C) {n : Nat}
    (hp : s.placeable n = true) : ∀ x ∈ C, x.1 ≠ n := by
  rintro ⟨m, id, x⟩ hm rfl
  have := (h.reserved m id x).2 hm
  rw [(State.placeable_iff.1 hp).1] at this
  cases this

theorem State.claimsSound.no_entry {C : List (Nat × List Byte × Holder)} (h : s.claimsSound C)
    {y : Nat × List Byte × Holder} (hy : y ∈ C) : s.entryAt y.1 = none :=
  State.entryAt_of_reserved ((h.reserved y.1 y.2.1 y.2.2).2 hy)

/-- A reservation of a placeable slot for an ID that is not reserved joins the claims (R14, R19). -/
theorem State.claimsSound.reserve {C : List (Nat × List Byte × Holder)} (h : s.claimsSound C) {n : Nat} {id : List Byte}
    {x : Holder} (hp : s.placeable n = true) (hl : liesRight n id) (hid : id ∉ C.map (·.2.1))
    (hnew : x ≠ .move → ∀ m e, s.entryAt m = some e → e.id ≠ id) :
    (s.reserveSlot n id x).claimsSound (C ++ [(n, id, x)]) := by
  have slot : ∀ m, (s.reserveSlot n id x).slot m = if m = n then { s.slot n with content := .reserved id x } else s.slot m :=
    fun m => State.slot_setSlot _ _ _ _
  have entry : ∀ m e, (s.reserveSlot n id x).entryAt m = some e → s.entryAt m = some e := by
    intro m e he
    rw [State.entryAt_eq_some, slot] at he
    split at he
    · cases he
    · exact State.entryAt_eq_some.2 he
  have fresh := h.not_placeable hp
  refine ⟨fun m i y => ?_, ?_, ?_, fun m i y hm => ?_, fun m i y hm hy k e he => ?_⟩
  · rw [slot, List.mem_append, List.mem_singleton]
    split
    · rename_i hmn
      subst hmn
      simp only [SlotContent.reserved.injEq, Prod.mk.injEq, true_and]
      constructor
      · rintro ⟨rfl, rfl⟩; exact .inr ⟨rfl, rfl⟩
      · rintro (hm | ⟨rfl, rfl⟩)
        · exact absurd rfl (fresh _ hm)
        · exact ⟨rfl, rfl⟩
    · rename_i hmn
      rw [h.reserved]
      simp [hmn]
  · rw [List.map_append]
    refine List.nodup_append'.2 ⟨h.slots, List.nodup_singleton _, ?_⟩
    intro m hm hm'
    obtain ⟨y, hy, rfl⟩ := List.mem_map.1 hm
    exact fresh y hy (by simpa using hm')
  · rw [List.map_append]
    refine List.nodup_append'.2 ⟨h.ids, List.nodup_singleton _, ?_⟩
    intro i hi hi'
    rw [List.map_singleton, List.mem_singleton] at hi'
    subst hi'
    exact hid hi
  · rcases List.mem_append.1 hm with hm | hm
    · exact h.placed m i y hm
    · cases List.mem_singleton.1 hm; exact hl
  · rcases List.mem_append.1 hm with hm | hm
    · exact h.newIds m i y hm hy k e (entry k e he)
    · cases List.mem_singleton.1 hm; exact hnew hy k e (entry k e he)

end Sys2Proof.Machine
end

section
/-! The end of commits: what stays sound when some commits leave the queue and only the slots of what has ended are
touched. Every completion is a case of it. -/

namespace Sys2Proof.Machine

variable {s t : State} {N : Nat → Prop}

/-- `t` is `s` after some commits, and with them claims and subjects, have ended; slots outside `N` are untouched, and
nothing that goes on has its slot in `N`. -/
structure State.endsOn (s t : State) (N : Nat → Prop) : Prop where
  work : t.commits.work = none
  queue : t.commits.queue.Sublist s.commits.queue
  kept : ∀ c ∈ s.commits.queue, c ∈ t.commits.queue ∨ ∀ n, c.change.subject = some n → N n
  locked : ∀ n ∈ t.batch.lockedSlots, n ∈ s.batch.lockedSlots
  claims : t.claims.Sublist s.claims
  claimsKept : ∀ y ∈ s.claims, ¬ N y.1 → y ∈ t.claims
  claimsOff : ∀ y ∈ t.claims, ¬ N y.1
  subjects : t.subjects.Sublist s.subjects
  subjectsOff : ∀ n ∈ t.subjects, ¬ N n
  slots : ∀ n, ¬ N n → t.slot n = s.slot n
  stored : ∀ n, ¬ N n → (t.store.slot n).image = (s.store.slot n).image ∧ (t.store.slot n).worn = (s.store.slot n).worn ∧
    (t.store.slot n).retireMark = (s.store.slot n).retireMark
  holds : ∀ n, ¬ N n → t.openHolds n = s.openHolds n ∧ t.heldUnits n = s.heldUnits n
  places : ∀ p h, (s.place p).live = some h → ¬ N h.slot → (t.place p).live = some h
  due : ∀ n, ¬ N n → (n ∈ t.engine.clearDue ↔ n ∈ s.engine.clearDue)

/-- The slots of what has ended are as they should be. -/
structure State.endsWell (s t : State) (N : Nat → Prop) : Prop where
  store : t.store.sound
  unmarked : ∀ n, (t.store.slot n).moveTarget = false
  images : ∀ n, N n → t.entryAt n = (t.store.slot n).image ∧ (t.slot n).worn = (t.store.slot n).worn ∧
    (t.slot n).retireMark = (t.store.slot n).retireMark
  unreserved : ∀ n, N n → ∀ id x, (t.slot n).content ≠ .reserved id x
  spill : t.spillSound
  known : ∀ n e, N n → t.entryAt n = some e →
    (∃ m d, s.entryAt m = some d ∧ d.id = e.id) ∨ ∃ m x, (m, e.id, x) ∈ s.claims ∧ N m
  live : ∀ p h, (t.place p).live = some h → p < Config.holdPlaces ∧ ∃ e, t.entryAt h.slot = some e
  within : ∀ n e b, N n → t.entryAt n = some e → e.balance = some b → t.heldUnits n ≤ b
  due : ∀ n, N n → (n ∈ t.engine.clearDue ↔ t.slotRetiring n = true ∧ t.openHolds n = 0)

/-- A commit for an entry is for a subject or for a claim, where stage writes stand in a batch's records (R23). -/
theorem State.known_of_isFor (stages : ∀ c ∈ s.commits.queue, ∀ i n, c.change = .stageItem i n →
      s.batch.isLocked = true ∧ s.batch.records[i]? = some ⟨n, true⟩)
    (promote : ∀ c ∈ s.commits.queue, c.change = .promoteBatch → s.batch.isLocked = true)
    (recorded : s.batch.isLocked = true → s.batch.records.length = s.batch.items.length)
    {c : Commit} (hc : c ∈ s.commits.queue) {n : Nat} (hf : c.change.isFor s.batch.lockedSlots n = true) :
    n ∈ s.subjects ∨ ∃ y ∈ s.claims, y.1 = n := by
  rcases Change.isFor_iff.1 hf with h | ⟨i, h⟩ | ⟨h, hn⟩
  · exact .inl (State.mem_subjects.2 (.inl ⟨c, hc, h⟩))
  · obtain ⟨hl, hr⟩ := stages c hc i n h
    have hlt : i < s.batch.items.length := by
      rw [← recorded hl]
      exact (List.getElem?_eq_some_iff.1 hr).1
    have hm : (s.batch.items[i], (⟨n, true⟩ : ItemRecord)) ∈ s.batch.recorded :=
      Batch.mem_recorded.2 ⟨i, List.getElem?_eq_getElem hlt, hr⟩
    cases hx : s.batch.items[i].isInsert with
    | true => exact .inr ⟨_, State.mem_claims.2 (.inr (Batch.mem_claims.2 ⟨hl, _, _, hm, hx, rfl⟩)), rfl⟩
    | false =>
      exact .inl (State.mem_subjects.2 (.inr (Batch.mem_subjects.2 ⟨hl, Batch.mem_lockedSlots.2 ⟨_, _, hm, hx, rfl⟩⟩)))
  · exact .inl (State.mem_subjects.2 (.inr (Batch.mem_subjects.2 ⟨promote c hc h, hn⟩)))

theorem State.endsOn.directory (he : s.endsOn t N) (hw : s.endsWell t N) (hs : s.runs) : t.directorySound := by
  refine State.directorySound_of hw.store hw.unmarked (fun n => ?_) hw.spill ⟨fun n id x => ?_, ?_, ?_,
    fun n id x hm => ?_, fun n id x hm hx m e hme hid => ?_⟩
  · by_cases hn : N n
    · exact hw.images n hn
    · obtain ⟨h1, h2, h3⟩ := he.stored n hn
      rw [State.entryAt_congr (he.slots n hn), he.slots n hn, h1, h2, h3]
      exact hs.directory.images n
  · by_cases hn : N n
    · exact ⟨fun h => absurd h (hw.unreserved n hn id x), fun h => absurd hn (he.claimsOff _ h)⟩
    · rw [he.slots n hn, hs.directory.reserved]
      exact ⟨fun h => he.claimsKept _ h hn, fun h => he.claims.subset h⟩
  · exact hs.directory.claimsApart.1.sublist (he.claims.map _)
  · exact hs.directory.claimsApart.2.sublist (he.claims.map _)
  · exact hs.directory.claimsPlaced n id x (he.claims.subset hm)
  · have hold := he.claims.subset hm
    by_cases hN : N m
    · rcases hw.known m e hN hme with ⟨k, d, hd, hdid⟩ | ⟨k, y, hk, hkN⟩
      · exact hs.directory.newIds n id x hold hx k d hd (hdid.trans hid)
      · have same := List.inj_on_of_nodup_map hs.directory.claimsApart.2 hk hold hid
        cases same
        exact he.claimsOff _ hm hkN
    · exact hs.directory.newIds n id x hold hx m e (State.entryAt_congr (he.slots m hN) ▸ hme) hid

theorem State.endsOn.holdsSound (he : s.endsOn t N) (hw : s.endsWell t N) (hs : s.runs) : t.holdsSound := by
  have subject : ∀ c ∈ t.commits.queue, ∀ n, c.change.subject = some n → ¬ N n := fun c hc n hn =>
    he.subjectsOff n (State.mem_subjects.2 (.inl ⟨c, hc, hn⟩))
  have queued : ∀ n, ¬ N n → t.clearQueued n = s.clearQueued n := by
    intro n hn
    rw [Bool.eq_iff_iff, State.clearQueued_iff, State.clearQueued_iff]
    constructor
    · rintro ⟨c, hc, hcn⟩; exact ⟨c, he.queue.subset hc, hcn⟩
    · rintro ⟨c, hc, hcn⟩
      rcases he.kept c hc with h | h
      · exact ⟨c, h, hcn⟩
      · exact absurd (h n (by rw [hcn]; rfl)) hn
  have unqueued : ∀ n, N n → t.clearQueued n = false := by
    intro n hn
    rw [← Bool.not_eq_true, State.clearQueued_iff]
    rintro ⟨c, hc, hcn⟩
    exact subject c hc n (by rw [hcn]; rfl) hn
  refine ⟨hw.live, fun n e b hne hb => ?_, fun c hc n place u hcn => ?_, fun c hc n f b hcn hb => ?_, fun n => ?_,
    fun n hn => ?_⟩
  · by_cases hn : N n
    · exact hw.within n e b hn hne hb
    · rw [(he.holds n hn).2]
      exact hs.holds.within n e b (State.entryAt_congr (he.slots n hn) ▸ hne) hb
  · obtain ⟨h, hl, hsl, hst, hu⟩ := hs.holds.settling c (he.queue.subset hc) n place u hcn
    exact ⟨h, he.places place h hl (hsl ▸ subject c hc n (by rw [hcn]; rfl)), hsl, hst, hu⟩
  · rw [(he.holds n (subject c hc n (by rw [hcn]; rfl))).2]
    exact hs.holds.modifying c (he.queue.subset hc) n f b hcn hb
  · by_cases hn : N n
    · rw [unqueued n hn, hw.due n hn]
      simp
    · rw [queued n hn, he.due n hn, (he.holds n hn).1, State.slotRetiring_congr (he.slots n hn)]
      exact hs.holds.clearing n
  · by_cases hN : N n
    · exact unqueued n hN
    · rw [queued n hN]
      exact hs.holds.cleared n ((he.due n hN).1 hn)

theorem State.endsOn.subjectsSound (he : s.endsOn t N) (hs : s.runs)
    (known : ∀ c ∈ t.commits.queue, ∀ n, c.change.isFor t.batch.lockedSlots n = true →
      n ∈ t.subjects ∨ ∃ y ∈ t.claims, y.1 = n) : t.subjectsSound := by
  have off : ∀ c ∈ t.commits.queue, ∀ n, c.change.isFor t.batch.lockedSlots n = true → ¬ N n := by
    intro c hc n hf
    rcases known c hc n hf with h | ⟨y, hy, rfl⟩
    · exact he.subjectsOff n h
    · exact he.claimsOff y hy
  refine ⟨hs.subjects.apart.sublist he.subjects, fun n hn => ?_, fun n e hne => ?_,
    fun c hc => hs.subjects.fresh c (he.queue.subset hc), fun c hc n hcn => ?_, fun c w _ hw => ?_⟩
  · rw [State.entryAt_congr (he.slots n (he.subjectsOff n hn))]
    exact hs.subjects.lie n (he.subjects.subset hn)
  · by_cases hn : N n
    · rw [List.filter_eq_nil_iff.2 fun c hc hf => off c hc n hf hn]
      exact Nat.zero_le _
    · have one := hs.subjects.single n e (State.entryAt_congr (he.slots n hn) ▸ hne)
      refine le_trans (List.Sublist.length_le ?_) one
      refine (List.monotone_filter_right _ fun c hf => ?_).trans (he.queue.filter _)
      rcases Change.isFor_iff.1 hf with h | h | ⟨h, hl⟩
      · exact Change.isFor_iff.2 (.inl h)
      · exact Change.isFor_iff.2 (.inr (.inl h))
      · exact Change.isFor_iff.2 (.inr (.inr ⟨h, he.locked n hl⟩))
  · have hsub : c.change.subject = some n := by
      cases hch : c.change <;> simp_all [Change.needsLiving, Change.subject]
    rw [State.slotRetiring_congr (he.slots n (he.subjectsOff n (State.mem_subjects.2 (.inl ⟨c, hc, hsub⟩))))]
    exact hs.subjects.living c (he.queue.subset hc) n hcn
  · rw [he.work] at hw
    cases hw

/-- What stays sound where commits end well. -/
theorem State.endsOn.tableSound (he : s.endsOn t N) (hw : s.endsWell t N) (hs : s.runs) (batch : t.batchSound)
    (promote : ∀ c ∈ t.commits.queue, c.change = .promoteBatch → t.batch.isLocked = true) : t.tableSound :=
  State.tableSound_of hw.store (fun w h => by rw [he.work] at h; cases h) (he.directory hw hs) (he.holdsSound hw hs)
    (he.subjectsSound hs fun c hc n hf => State.known_of_isFor
      (fun c hc i n hi => have h := batch.stageWrites c hc i n hi; ⟨h.1, h.2.2⟩) promote batch.recorded hc hf) batch

end Sys2Proof.Machine
end

section
/-! The end of the commit in progress: the durable effects of the works slot by slot, and what a completion that leaves the
batch alone has to show. -/

namespace Sys2Proof.Machine

variable {s t : State} {st st' : Store}

/-! ### Durable effects, slot by slot -/

/-- The soundness of a store looks at images, move-target marks and retire marks alone. -/
theorem Store.sound_congr (h : ∀ n, (st'.slot n).image = (st.slot n).image ∧
      (st'.slot n).moveTarget = (st.slot n).moveTarget ∧ (st'.slot n).retireMark = (st.slot n).retireMark)
    (hs : st.sound) : st'.sound where
  placed n e he := hs.placed n e ((h n).1 ▸ he)
  alone m n x y hx hy hid := by
    rw [(h m).2.1, (h n).2.1]
    exact hs.alone m n x y ((h m).1 ▸ hx) ((h n).1 ▸ hy) hid
  unmarked n hn := by
    rw [(h n).2.2]
    exact hs.unmarked n ((h n).1 ▸ hn)

theorem Store.slot_writeImage (st : Store) (n : Nat) (e : Entry) (m : Nat) :
    (st.writeImage n e).slot m = if m = n then { st.slot n with image := some e } else st.slot m := Store.slot_setSlot _ _ _ _

theorem Store.slot_clear (st : Store) (n m : Nat) : (st.clear n).slot m =
    if m = n then { st.slot n with image := none, moveTarget := false, retireMark := false } else st.slot m :=
  Store.slot_setSlot _ _ _ _

theorem Store.slot_wear (st : Store) (n m : Nat) :
    (st.wear n).slot m = if m = n then { st.slot n with worn := true } else st.slot m := Store.slot_setSlot _ _ _ _

/-- A discard of the staged versions writes staging positions alone (R153). -/
theorem Store.slot_discardStaged (st : Store) (m : Nat) : ∃ x, st.discardStaged.slot m = { st.slot m with staged := x } := by
  have fold : ∀ (l : List Nat) (u : Store),
      ∃ x, (l.foldl (fun x n => x.setSlot n { x.slot n with staged := none }) u).slot m = { u.slot m with staged := x } := by
    intro l
    induction l with
    | nil => exact fun u => ⟨(u.slot m).staged, rfl⟩
    | cons n l ih =>
      intro u
      obtain ⟨x, hx⟩ := ih (u.setSlot n { u.slot n with staged := none })
      refine ⟨x, hx.trans ?_⟩
      rw [Store.slot_setSlot]
      split
      · rename_i h; rw [h]
      · rfl
  exact fold _ st

/-- The store after the three updates of a MOVE (R112). -/
theorem Work.slot_moved {a b : Nat} (hab : b ≠ a) (e : Entry) (m : Nat) :
    ((Work.moveImage a b e).updates 3 st).slot m =
      if m = b then { st.slot b with image := some e, moveTarget := false }
      else if m = a then { st.slot a with image := none, moveTarget := false, retireMark := false }
      else st.slot m := by
  have h1 : ¬ (3 ≤ 1) := by decide
  have h2 : ¬ (3 ≤ 2) := by decide
  simp only [Work.updates, h1, h2, if_false, Store.slot_setSlot, Store.slot_clear, if_neg hab, if_neg (Ne.symm hab), if_true]
  split <;> rfl

/-- A write whose verify fails leaves images, move-target marks and retire marks alone (R109). -/
theorem Work.slot_faulted (w : Work) (st : Store) (m : Nat) : ((w.faulted st).slot m).image = (st.slot m).image ∧
    ((w.faulted st).slot m).moveTarget = (st.slot m).moveTarget ∧
    ((w.faulted st).slot m).retireMark = (st.slot m).retireMark := by
  have wear : ∀ (u : Store) (n : Nat), ((u.wear n).slot m).image = (u.slot m).image ∧
      ((u.wear n).slot m).moveTarget = (u.slot m).moveTarget ∧ ((u.wear n).slot m).retireMark = (u.slot m).retireMark := by
    intro u n
    rw [Store.slot_wear]
    split
    · rename_i h; rw [h]; exact ⟨rfl, rfl, rfl⟩
    · exact ⟨rfl, rfl, rfl⟩
  cases w with
  | writeImage n e => exact wear st n
  | writeStaged n e =>
    obtain ⟨x, hx⟩ := (st.wear n).slot_discardStaged m
    change ((st.wear n).discardStaged.slot m).image = _ ∧ _
    exact hx ▸ wear st n
  | moveImage a b e => exact wear st b
  | _ => exact ⟨rfl, rfl, rfl⟩

theorem Work.sound_faulted (w : Work) (h : st.sound) : (w.faulted st).sound := Store.sound_congr (w.slot_faulted st) h

/-- A completed work leaves the store sound (R108 to R112). -/
theorem Work.sound_complete (w : Work) (v : Verify) (h : st.sound) (hw : ∀ k, (w.updates k st).sound) :
    (w.complete v st).sound := by
  unfold Work.complete
  split
  · exact hw 3
  · exact w.sound_faulted h

/-- No update of a promotion sets a move-target mark. -/
theorem Store.promoteSlot_unmarked (h : ∀ n, (st.slot n).moveTarget = false) (x : Nat × Promotion) (n : Nat) :
    ((st.promoteSlot x).slot n).moveTarget = false := by
  obtain ⟨k, u⟩ := x
  cases u with
  | clear =>
    simp only [Store.promoteSlot, Store.slot_setSlot]
    split
    · rfl
    · exact h n
  | _ =>
    simp only [Store.promoteSlot, Store.slot_setSlot]
    split
    · exact h k
    · exact h n

theorem Store.promoteSlots_unmarked (h : ∀ n, (st.slot n).moveTarget = false) (ups : List (Nat × Promotion)) (n : Nat) :
    ((ups.foldl Store.promoteSlot st).slot n).moveTarget = false := by
  induction ups generalizing st with
  | nil => exact h n
  | cons x ups ih => exact ih (Store.promoteSlot_unmarked h x)

/-- A completed work leaves no move-target mark where there was none (R112). -/
theorem Work.unmarked_complete (w : Work) (v : Verify) (h : ∀ n, (st.slot n).moveTarget = false) (n : Nat) :
    ((w.complete v st).slot n).moveTarget = false := by
  unfold Work.complete
  split
  · cases w with
    | writeImage k e =>
      simp only [Work.updates, Store.slot_writeImage]
      split
      · exact h k
      · exact h n
    | writeStaged k e =>
      simp only [Work.updates, Store.slot_setSlot]
      split
      · exact h k
      · exact h n
    | moveImage a b e =>
      by_cases hab : b = a
      · subst hab
        have h1 : ¬ (3 ≤ 1) := by decide
        have h2 : ¬ (3 ≤ 2) := by decide
        simp only [Work.updates, h1, h2, if_false, Store.slot_setSlot, Store.slot_clear]
        split
        · rfl
        · rename_i hn; exact h n
      · rw [Work.slot_moved hab]
        split
        · rfl
        · split
          · rfl
          · exact h n
    | writeClass c r => exact h n
    | clear k =>
      simp only [Work.updates, Store.slot_clear]
      split
      · rfl
      · exact h n
    | mark k =>
      simp only [Work.updates, Store.slot_setSlot]
      split
      · exact h k
      · exact h n
    | promote ups =>
      exact Store.promoteSlots_unmarked h ups n
  · rw [(w.slot_faulted st n).2.1]
    exact h n

/-! ### The end of one commit -/

/-- The slots that a commit is about: its subject's, and the one it has reserved. -/
def State.touched (s : State) (c : Change) (n : Nat) : Prop := c.subject = some n ∨ ∃ y, s.claimOf c = some y ∧ y.1 = n

/-- The head of the queue is gone and the batch goes on as it was; only the slots that the commit was about are touched. -/
structure State.completes (s t : State) (c : Commit) (rest : List Commit) : Prop where
  commits : t.commits = ⟨rest, none⟩
  scan : t.scan.state = .running → s.scan.state = .running
  slots : ∀ n, ¬ s.touched c.change n → t.slot n = s.slot n
  stored : ∀ n, ¬ s.touched c.change n → (t.store.slot n).image = (s.store.slot n).image ∧
    (t.store.slot n).worn = (s.store.slot n).worn ∧ (t.store.slot n).retireMark = (s.store.slot n).retireMark
  holds : ∀ n, ¬ s.touched c.change n → t.openHolds n = s.openHolds n ∧ t.heldUnits n = s.heldUnits n
  places : ∀ p h, (s.place p).live = some h → ¬ s.touched c.change h.slot → (t.place p).live = some h
  due : ∀ n, ¬ s.touched c.change n → (n ∈ t.engine.clearDue ↔ n ∈ s.engine.clearDue)

variable {c : Commit} {rest : List Commit} {w : Option Work}

theorem State.subjects_cons (hc : s.commits = ⟨c :: rest, w⟩) :
    s.subjects = c.change.subject.toList ++ (rest.filterMap (fun d => d.change.subject) ++ s.batch.subjects) := by
  rw [State.subjects_eq, hc, ← List.append_assoc]
  cases h : c.change.subject <;> simp [h]

theorem State.claims_cons (hc : s.commits = ⟨c :: rest, w⟩) :
    s.claims = (s.claimOf c.change).toList ++ (rest.filterMap (fun d => s.claimOf d.change) ++ s.batch.claims) := by
  rw [State.claims_eq, hc, ← List.append_assoc]
  cases h : s.claimOf c.change <;> simp [h]

/-- A subject holds an entry, and the slot of a claim does not. -/
theorem State.runs.subject_ne_claim (hs : s.runs) {n : Nat} (hn : n ∈ s.subjects) {y : Nat × List Byte × Holder}
    (hy : y ∈ s.claims) : y.1 ≠ n := by
  rintro rfl
  obtain ⟨e, he⟩ := hs.subjects.lie _ hn
  rw [hs.directory.claims.no_entry hy] at he
  cases he

/-- What goes on when the head of the queue ends has no slot in common with it. -/
theorem State.runs.rest_untouched (hs : s.runs) (hc : s.commits = ⟨c :: rest, w⟩) :
    (∀ n ∈ rest.filterMap (fun d => d.change.subject) ++ s.batch.subjects, ¬ s.touched c.change n) ∧
      ∀ y ∈ rest.filterMap (fun d => s.claimOf d.change) ++ s.batch.claims, ¬ s.touched c.change y.1 := by
  have hsub := State.subjects_cons hc
  have hcl := State.claims_cons hc
  have nodup := hs.subjects.apart
  rw [hsub] at nodup
  have nodupC := hs.directory.claimsApart.1
  rw [hcl, List.map_append] at nodupC
  constructor
  · rintro n hn (h | ⟨y, hy, rfl⟩)
    · exact (List.nodup_append'.1 nodup).2.2 (by simp [h]) hn
    · refine hs.subject_ne_claim (n := y.1) ?_ ?_ rfl (y := y)
      · rw [hsub]; exact List.mem_append_right _ hn
      · rw [hcl]; exact List.mem_append_left _ (by simp [hy])
  · rintro y hy (h | ⟨z, hz, hzy⟩)
    · refine hs.subject_ne_claim (n := y.1) ?_ ?_ rfl (y := y)
      · rw [hsub]; exact List.mem_append_left _ (by simp [h])
      · rw [hcl]; exact List.mem_append_right _ hy
    · have disjoint := (List.nodup_append'.1 nodupC).2.2
      exact disjoint (List.mem_map.2 ⟨z, Option.mem_toList.2 hz, hzy⟩) (List.mem_map_of_mem hy)

/-- A claim reads the ID of the entry that a MOVE is for. -/
theorem State.claimOf_congr {d : Change} (h : ∀ n, d.subject = some n → (t.entryAt n).map (·.id) = (s.entryAt n).map (·.id)) :
    t.claimOf d = s.claimOf d := by
  cases d with
  | moveEntry a b =>
    have := h a rfl
    simp only [State.claimOf]
    cases hs : s.entryAt a <;> cases ht : t.entryAt a <;> simp_all
  | _ => rfl

theorem State.completes.endsOn (h : s.completes t c rest) (hs : s.runs) (hc : s.commits = ⟨c :: rest, w⟩)
    (plan : s.batch.samePlan t.batch) : s.endsOn t (s.touched c.change) := by
  obtain ⟨offS, offC⟩ := hs.rest_untouched hc
  have queue : t.commits.queue = rest := by rw [h.commits]
  have claimOf : ∀ d ∈ rest, t.claimOf d.change = s.claimOf d.change := fun d hd =>
    State.claimOf_congr fun n hn => by
      rw [State.entryAt_congr (h.slots n (offS n (List.mem_append_left _ (List.mem_filterMap.2 ⟨d, hd, hn⟩))))]
  have claims : t.claims = rest.filterMap (fun d => s.claimOf d.change) ++ s.batch.claims := by
    rw [State.claims_eq, queue, plan.claims, List.filterMap_congr claimOf]
  have subjects : t.subjects = rest.filterMap (fun d => d.change.subject) ++ s.batch.subjects := by
    rw [State.subjects_eq, queue, plan.subjects]
  exact
    { work := by rw [h.commits]
      queue := by rw [queue, hc]; exact List.sublist_cons_self _ _
      kept := fun d hd => by
        rw [hc] at hd
        rw [queue]
        rcases List.mem_cons.1 hd with rfl | hd
        · exact .inr fun n hn => .inl hn
        · exact .inl hd
      locked := fun n hn => plan.lockedSlots ▸ hn
      claims := by rw [claims, State.claims_cons hc]; exact List.sublist_append_right _ _
      claimsKept := fun y hy hn => by
        rw [State.claims_cons hc] at hy
        rw [claims]
        rcases List.mem_append.1 hy with hy | hy
        · exact absurd (.inr ⟨y, Option.mem_toList.1 hy, rfl⟩) hn
        · exact hy
      claimsOff := by rw [claims]; exact offC
      subjects := by rw [subjects, State.subjects_cons hc]; exact List.sublist_append_right _ _
      subjectsOff := by rw [subjects]; exact offS
      slots := h.slots
      stored := h.stored
      holds := h.holds
      places := h.places
      due := h.due }

/-- The plan and the feed of the batch are as they were. -/
structure Batch.sameFeed (b b' : Batch) : Prop extends Batch.samePlan b b' where
  fed : b'.fed = b.fed
  promoteFed : b'.promoteFed = b.promoteFed

theorem Batch.sameFeed.refl (b : Batch) : b.sameFeed b := ⟨⟨rfl, rfl, rfl⟩, rfl, rfl⟩

/-- The slot of a record is a subject's or a claim's, while the batch is locked. -/
theorem State.recorded_slot (hl : s.batch.isLocked = true) {x : Item} {r : ItemRecord} (hm : (x, r) ∈ s.batch.recorded) :
    (x.isInsert = false → r.slot ∈ s.batch.subjects) ∧
      (x.isInsert = true → (r.slot, x.id, Holder.batchInsert) ∈ s.batch.claims) :=
  ⟨fun hx => Batch.mem_subjects.2 ⟨hl, Batch.mem_lockedSlots.2 ⟨x, r, hm, hx, rfl⟩⟩,
    fun hx => Batch.mem_claims.2 ⟨hl, x, r, hm, hx, rfl⟩⟩

theorem State.stagedImage_congr {n : Nat} (h : t.entryAt n = s.entryAt n) (x : Item) :
    t.stagedImage n x = s.stagedImage n x := by
  cases x <;> simp only [State.stagedImage, h]

/-- The batch stays sound through a completion that leaves its plan and feed alone. -/
theorem State.completes.batchSound (h : s.completes t c rest) (hs : s.runs) (hc : s.commits = ⟨c :: rest, w⟩)
    (feed : s.batch.sameFeed t.batch)
    (staged : ∀ (i : Nat) (x : Item) (r : ItemRecord), s.batch.items[i]? = some x → s.batch.records[i]? = some r →
      s.batch.isLocked = true → r.needsStage = true → i < s.batch.fed →
      (∀ d ∈ rest, d.change ≠ .stageItem i r.slot) → (t.store.slot r.slot).staged = s.stagedImage r.slot x) :
    t.batchSound := by
  obtain ⟨offS, offC⟩ := hs.rest_untouched hc
  have queue : t.commits.queue = rest := by rw [h.commits]
  have hq : s.commits.queue = c :: rest := by rw [hc]
  have off : s.batch.isLocked = true → ∀ (i : Nat) (x : Item) (r : ItemRecord), s.batch.items[i]? = some x →
      s.batch.records[i]? = some r → ¬ s.touched c.change r.slot := by
    intro hl i x r hx hr
    have hm := State.recorded_slot hl (Batch.mem_recorded.2 ⟨i, hx, hr⟩)
    cases hi : x.isInsert with
    | false => exact offS _ (List.mem_append_right _ (hm.1 hi))
    | true => exact offC _ (List.mem_append_right _ (hm.2 hi))
  refine
    { apart := by rw [feed.items]; exact hs.batch.apart
      fresh := by rw [feed.items]; exact hs.batch.fresh
      noScan := fun hl hr => hs.batch.noScan (feed.locked ▸ hl) (h.scan hr)
      recorded := by rw [feed.locked, feed.items, feed.records]; exact hs.batch.recorded
      named := ?_
      stagedItems := ?_
      fedWhole := by rw [feed.promoteFed, feed.records, feed.fed]; exact hs.batch.fedWhole
      stageWrites := ?_
      order := ?_ }
  · rw [feed.locked, feed.items, feed.records]
    intro hl i x r hx hr
    have hoff := off hl i x r hx hr
    rw [State.entryAt_congr (h.slots _ hoff), State.slotRetiring_congr (h.slots _ hoff), (h.holds _ hoff).2]
    exact hs.batch.named hl i x r hx hr
  · rw [feed.locked, feed.items, feed.records, feed.fed]
    intro hl i x r hx hr
    have hoff := off hl i x r hx hr
    rw [(h.holds _ hoff).1, h.slots _ hoff, queue, State.stagedImage_congr (State.entryAt_congr (h.slots _ hoff))]
    exact ⟨(hs.batch.stagedItems hl i x r hx hr).1, staged i x r hx hr hl⟩
  · rw [feed.locked, feed.records, feed.fed, queue]
    exact fun d hd => hs.batch.stageWrites d (hq ▸ List.mem_cons_of_mem _ hd)
  · rw [queue]
    intro front d back hf hd
    exact hs.batch.order (c :: front) d back (by rw [hq, hf]; rfl) hd

/-- What a completion that is not a stage write's or the PROMOTE's has to show. -/
theorem State.completes.tableSound (h : s.completes t c rest) (hs : s.runs) (hc : s.commits = ⟨c :: rest, w⟩)
    (hb : t.batch = s.batch) (hi : ∀ i n, c.change ≠ .stageItem i n)
    (staged : ∀ n, ¬ s.touched c.change n → (t.store.slot n).staged = (s.store.slot n).staged)
    (well : s.endsWell t (s.touched c.change)) : t.tableSound := by
  have feed : s.batch.sameFeed t.batch := by rw [hb]; exact .refl _
  have queue : t.commits.queue = rest := by rw [h.commits]
  refine (h.endsOn hs hc feed.tosamePlan).tableSound well hs (h.batchSound hs hc feed ?_) ?_
  · intro i x r hx hr hl hneed hfed hrest
    have hm := State.recorded_slot hl (Batch.mem_recorded.2 ⟨i, hx, hr⟩)
    obtain ⟨offS, offC⟩ := hs.rest_untouched hc
    have hoff : ¬ s.touched c.change r.slot := by
      cases hins : x.isInsert with
      | false => exact offS _ (List.mem_append_right _ (hm.1 hins))
      | true => exact offC _ (List.mem_append_right _ (hm.2 hins))
    rw [staged _ hoff]
    refine (hs.batch.stagedItems hl i x r hx hr).2 hneed hfed fun d hd => ?_
    rw [hc] at hd
    rcases List.mem_cons.1 hd with rfl | hd
    · exact hi _ _
    · exact hrest d hd
  · rw [queue, hb]
    intro d hd hp
    exact (hs.once.2 d (by rw [hc]; exact List.mem_cons_of_mem _ hd) hp hs.phase).1

/-- A subject of another commit than its SLOT_CLEAR is not queued for a clear, so it is on the clear-due list exactly while it is
RETIRING with no open hold (R25). -/
theorem State.runs.due_of_subject (hs : s.runs) (hc : s.commits = ⟨c :: rest, w⟩) {n : Nat}
    (hn : c.change.subject = some n) (hk : c.change ≠ .clearEntry n) :
    n ∈ s.engine.clearDue ↔ s.slotRetiring n = true ∧ s.openHolds n = 0 := by
  have unqueued : s.clearQueued n = false := by
    rw [← Bool.not_eq_true, State.clearQueued_iff]
    rintro ⟨d, hd, hdn⟩
    rw [hc] at hd
    rcases List.mem_cons.1 hd with rfl | hd
    · exact hk hdn
    · exact (hs.rest_untouched hc).1 n
        (List.mem_append_left _ (List.mem_filterMap.2 ⟨d, hd, by rw [hdn]; rfl⟩)) (.inl hn)
  have := hs.holds.clearing n
  rw [unqueued] at this
  simpa using this

end Sys2Proof.Machine
end

section
/-! Which slots an operation touches: one rule per operation on the working state and per work on the store. -/

namespace Sys2Proof.Machine

variable {s t u : State} {N : Nat → Prop}

/-! ### The working state -/

/-- `t` differs from `s` in slots of `N`, in the holds on them and in their places on the clear-due list. -/
structure State.touchesOnly (s t : State) (N : Nat → Prop) : Prop where
  slots : ∀ n, ¬ N n → t.slot n = s.slot n
  places : ∀ p h, ¬ N h.slot → ((t.place p).live = some h ↔ (s.place p).live = some h)
  due : ∀ n, ¬ N n → (n ∈ t.engine.clearDue ↔ n ∈ s.engine.clearDue)
  commits : t.commits = s.commits
  store : t.store = s.store
  batch : t.batch = s.batch
  phase : t.phase = s.phase
  scan : t.scan.state = .running → s.scan.state = .running

theorem State.touchesOnly.refl (s : State) (N : Nat → Prop) : s.touchesOnly s N :=
  ⟨fun _ _ => rfl, fun _ _ _ => Iff.rfl, fun _ _ => Iff.rfl, rfl, rfl, rfl, rfl, id⟩

theorem State.touchesOnly.trans (h : s.touchesOnly t N) (h' : t.touchesOnly u N) : s.touchesOnly u N :=
  ⟨fun n hn => (h'.slots n hn).trans (h.slots n hn), fun p x hx => (h'.places p x hx).trans (h.places p x hx),
    fun n hn => (h'.due n hn).trans (h.due n hn), h'.commits.trans h.commits, h'.store.trans h.store,
    h'.batch.trans h.batch, h'.phase.trans h.phase, fun hr => h.scan (h'.scan hr)⟩

theorem State.touchesOnly.mono {M : Nat → Prop} (h : s.touchesOnly t M) (hm : ∀ n, M n → N n) : s.touchesOnly t N :=
  ⟨fun n hn => h.slots n (hn ∘ hm n), fun p x hx => h.places p x (hx ∘ hm _), fun n hn => h.due n (hn ∘ hm n),
    h.commits, h.store, h.batch, h.phase, h.scan⟩

theorem State.touchesOnly.entryAt (h : s.touchesOnly t N) {n : Nat} (hn : ¬ N n) : t.entryAt n = s.entryAt n :=
  State.entryAt_congr (h.slots n hn)

/-- Holds on other slots are counted as before (R22). -/
theorem State.touchesOnly.holds (h : s.touchesOnly t N) {n : Nat} (hn : ¬ N n) :
    t.openHolds n = s.openHolds n ∧ t.heldUnits n = s.heldUnits n := by
  refine State.holds_congr_of_terms fun p => ?_
  have same : ∀ x : Hold, x.slot = n → ((t.place p).live = some x ↔ (s.place p).live = some x) :=
    fun x hx => h.places p x (hx ▸ hn)
  cases ht : (t.place p).live with
  | some x =>
    by_cases hx : x.slot = n
    · rw [(same x hx).1 ht]; exact ⟨rfl, rfl⟩
    · cases hs : (s.place p).live with
      | none => simp [holdCount, holdUnits, hx]
      | some y =>
        have hy : y.slot ≠ n := by
          intro hy
          have := (same y hy).2 hs
          rw [ht] at this
          cases this
          exact hx hy
        simp [holdCount, holdUnits, hx, hy]
  | none =>
    cases hs : (s.place p).live with
    | none => exact ⟨rfl, rfl⟩
    | some y =>
      have hy : y.slot ≠ n := by
        intro hy
        have := (same y hy).2 hs
        rw [ht] at this
        cases this
      simp [holdCount, holdUnits, hy]

theorem State.touchesOnly_setSlot (s : State) {n : Nat} (w : WorkingSlot) (hn : N n) : s.touchesOnly (s.setSlot n w) N where
  slots m hm := by
    rw [State.slot_setSlot, if_neg fun h : m = n => hm (h ▸ hn)]
  places _ _ _ := Iff.rfl
  due _ _ := Iff.rfl
  commits := rfl
  store := rfl
  batch := rfl
  phase := rfl
  scan := id

theorem State.touchesOnly_setEntry (s : State) {n : Nat} (e : Entry) (hn : N n) : s.touchesOnly (s.setEntry n e) N :=
  s.touchesOnly_setSlot _ hn

theorem State.touchesOnly_setSpillCount (s : State) (b v : Nat) : s.touchesOnly (s.setSpillCount b v) N :=
  ⟨fun _ _ => rfl, fun _ _ _ => Iff.rfl, fun _ _ => Iff.rfl, rfl, rfl, rfl, rfl, id⟩

theorem State.touchesOnly_clearSlot (s : State) {n : Nat} (hn : N n) : s.touchesOnly (s.clearSlot n) N := by
  unfold State.clearSlot State.spillLoss
  split
  · split
    · exact (s.touchesOnly_setSlot _ hn).trans (State.touchesOnly_setSpillCount _ _ _)
    · exact s.touchesOnly_setSlot _ hn
  · exact s.touchesOnly_setSlot _ hn

theorem State.touchesOnly_occupySlot (s : State) {n : Nat} (e : Entry) (hn : N n) : s.touchesOnly (s.occupySlot n e) N := by
  unfold State.occupySlot State.spillGain
  split
  · exact (s.touchesOnly_setSlot _ hn).trans (State.touchesOnly_setSpillCount _ _ _)
  · exact s.touchesOnly_setSlot _ hn

theorem State.touchesOnly_joinClearDue (s : State) {n : Nat} (hn : N n) : s.touchesOnly (s.joinClearDue n) N where
  slots _ _ := rfl
  places _ _ _ := Iff.rfl
  due m hm := by
    simp only [State.joinClearDue, mem_insertRising]
    exact or_iff_right fun h => hm (h ▸ hn)
  commits := rfl
  store := rfl
  batch := rfl
  phase := rfl
  scan := id

theorem State.touchesOnly_leaveClearDue (s : State) {n : Nat} (hn : N n) : s.touchesOnly (s.leaveClearDue n) N where
  slots _ _ := rfl
  places _ _ _ := Iff.rfl
  due m hm := by
    simp only [State.leaveClearDue, List.mem_filter]
    exact and_iff_left (by simpa using fun h : m = n => hm (h ▸ hn))
  commits := rfl
  store := rfl
  batch := rfl
  phase := rfl
  scan := id

/-- A place is written whose hold, before and after, is on a slot of `N`. -/
theorem State.touchesOnly_setPlace (s : State) {p : Nat} {x : HoldPlace} (hs : ∀ h, (s.place p).live = some h → N h.slot)
    (hx : ∀ h, x.live = some h → N h.slot) : s.touchesOnly (s.setPlace p x) N where
  slots _ _ := rfl
  places q h hh := by
    rw [State.place_setPlace]
    split
    · rename_i hq
      rw [hq]
      exact ⟨fun hl => absurd (hx h hl) hh, fun hl => absurd (hs h hl) hh⟩
    · exact Iff.rfl
  due _ _ := Iff.rfl
  commits := rfl
  store := rfl
  batch := rfl
  phase := rfl
  scan := id

theorem State.touchesOnly_settleRetiring (s : State) {n : Nat} (hn : N n) : s.touchesOnly (s.settleRetiring n) N := by
  unfold State.settleRetiring
  split
  · exact s.touchesOnly_joinClearDue hn
  · exact .refl _ _

theorem State.touchesOnly_handOver (s : State) {n : Nat} (hn : N n) : s.touchesOnly (s.handOver n) N := by
  unfold State.handOver
  split
  · exact s.touchesOnly_joinClearDue hn
  · exact .refl _ _

theorem State.touchesOnly_endHold (s : State) {p : Nat} {h : Hold} (hl : (s.place p).live = some h) (hn : N h.slot)
    (o : HoldOutcome) : s.touchesOnly (s.endHold p o) N := by
  unfold State.endHold
  rw [hl]
  exact (s.touchesOnly_setPlace (fun x hx => by rw [hl] at hx; cases hx; exact hn) nofun).trans
    (State.touchesOnly_handOver _ hn)

theorem State.touchesOnly_foldl {α : Type} {f : State → α → State} (l : List α)
    (h : ∀ s : State, ∀ x ∈ l, s.touchesOnly (f s x) N) (s : State) : s.touchesOnly (l.foldl f s) N := by
  induction l generalizing s with
  | nil => exact .refl _ _
  | cons x l ih =>
    exact (h s x List.mem_cons_self).trans (ih (fun s y hy => h s y (List.mem_cons_of_mem _ hy)) _)

/-! ### The clear-due list after an entry became RETIRING or a hold on it ended (R25) -/

theorem State.mem_clearDue_settleRetiring (s : State) (n : Nat) :
    n ∈ (s.settleRetiring n).engine.clearDue ↔ n ∈ s.engine.clearDue ∨ s.openHolds n = 0 := by
  unfold State.settleRetiring
  split
  · rename_i h; simp [State.joinClearDue, h]
  · rename_i h; simp [h]

theorem State.mem_clearDue_handOver (s : State) (n : Nat) : n ∈ (s.handOver n).engine.clearDue ↔
    n ∈ s.engine.clearDue ∨ (s.slotRetiring n = true ∧ s.openHolds n = 0) := by
  unfold State.handOver
  split
  · rename_i h; simp [State.joinClearDue, h]
  · rename_i h; simp only [or_iff_left fun hb => h (And.symm hb)]

theorem State.handOver_slot (s : State) (n m : Nat) : (s.handOver n).slot m = s.slot m := by
  unfold State.handOver; split <;> rfl

theorem State.handOver_place (s : State) (n p : Nat) : (s.handOver n).place p = s.place p := by
  unfold State.handOver; split <;> rfl

theorem State.handOver_spillCounts (s : State) (n : Nat) : (s.handOver n).engine.spillCounts = s.engine.spillCounts := by
  unfold State.handOver; split <;> rfl

/-- The end of a hold leaves the slots alone. -/
theorem State.endHold_slot (s : State) (p : Nat) (o : HoldOutcome) (m : Nat) : (s.endHold p o).slot m = s.slot m := by
  unfold State.endHold
  split
  · rw [State.handOver_slot]; rfl
  · rfl

theorem State.endHold_spillCounts (s : State) (p : Nat) (o : HoldOutcome) :
    (s.endHold p o).engine.spillCounts = s.engine.spillCounts := by
  unfold State.endHold
  split
  · rw [State.handOver_spillCounts]; rfl
  · rfl

/-- After the end of a hold its place holds none, and every other place what it held (R74). -/
theorem State.endHold_live (s : State) (p : Nat) (o : HoldOutcome) (q : Nat) :
    ((s.endHold p o).place q).live = if q = p then none else (s.place q).live := by
  unfold State.endHold
  split
  · rw [State.handOver_place, State.place_setPlace]
    split <;> rfl
  · rename_i h
    split
    · rename_i hq; rw [hq, h]
    · rfl

/-- The end of a hold takes it off the counts of its entry (R22). -/
theorem State.endHold_holds {p : Nat} {h : Hold} (hl : (s.place p).live = some h) (hp : p < Config.holdPlaces)
    (o : HoldOutcome) (k : Nat) : (s.endHold p o).openHolds k + holdCount k (some h) = s.openHolds k ∧
      (s.endHold p o).heldUnits k + holdUnits k (some h) = s.heldUnits k := by
  have same := State.holds_congr (t := s.endHold p o) (s := s.setPlace p ⟨(s.place p).generation, none, none⟩)
    (fun q => by rw [State.endHold_live, State.place_setPlace]; split <;> rfl) k
  have ho := State.openHolds_setPlace s hp ⟨(s.place p).generation, none, none⟩ k
  have hu := State.heldUnits_setPlace s hp ⟨(s.place p).generation, none, none⟩ k
  rw [hl] at ho hu
  rw [same.1, same.2]
  exact ⟨by simpa [holdCount] using ho, by simpa [holdUnits] using hu⟩

/-- After the end of a hold its entry is clear due where it was before, and where it is RETIRING with no open hold left
(R95). -/
theorem State.mem_clearDue_endHold {p : Nat} {h : Hold} (hl : (s.place p).live = some h) (o : HoldOutcome) :
    h.slot ∈ (s.endHold p o).engine.clearDue ↔
      h.slot ∈ s.engine.clearDue ∨ ((s.endHold p o).slotRetiring h.slot = true ∧ (s.endHold p o).openHolds h.slot = 0) := by
  have slot := s.endHold_slot p o h.slot
  rw [State.slotRetiring_congr slot]
  unfold State.endHold
  rw [hl]
  simp only
  rw [State.mem_clearDue_handOver, (State.holds_congr (fun q => by rw [State.handOver_place]) h.slot).1]
  rfl

/-! ### The store -/

/-- The slots that a work writes. -/
def Work.writesTo : Work → List Nat
  | .writeImage n _ => [n]
  | .writeStaged n _ => [n]
  | .moveImage a b _ => [a, b]
  | .writeClass _ _ => []
  | .clear n => [n]
  | .mark n => [n]
  | .promote ups => ups.map (·.1)

/-- A PROMOTE leaves every slot alone that it does not name (R114). -/
theorem Store.slot_promoteSlots_other (ups : List (Nat × Promotion)) (st : Store) {n : Nat} (hn : n ∉ ups.map (·.1)) :
    (ups.foldl Store.promoteSlot st).slot n = st.slot n := by
  induction ups generalizing st with
  | nil => rfl
  | cons x ups ih =>
    obtain ⟨k, v⟩ := x
    rw [List.map_cons, List.mem_cons, not_or] at hn
    rw [List.foldl_cons, ih _ hn.2]
    cases v <;> exact (Store.slot_setSlot _ _ _ _).trans (if_neg hn.1)

/-- A work's updates leave every other slot as it was. -/
theorem Work.slot_updates_other (w : Work) (k : Nat) (st : Store) {n : Nat} (hn : n ∉ w.writesTo) :
    (w.updates k st).slot n = st.slot n := by
  cases w with
  | moveImage a b e =>
    simp only [Work.writesTo, List.mem_cons, List.not_mem_nil, or_false, not_or] at hn
    simp only [Work.updates]
    split
    · rw [Store.slot_setSlot, if_neg hn.2]
    · split
      · rw [Store.slot_clear, if_neg hn.1, Store.slot_setSlot, if_neg hn.2]
      · rw [Store.slot_setSlot, if_neg hn.2, Store.slot_clear, if_neg hn.1, Store.slot_setSlot, if_neg hn.2]
  | writeClass c r => rfl
  | promote ups => exact Store.slot_promoteSlots_other ups st hn
  | writeImage m e => exact (Store.slot_setSlot _ _ _ _).trans (if_neg (by simpa [Work.writesTo] using hn))
  | writeStaged m e => exact (Store.slot_setSlot _ _ _ _).trans (if_neg (by simpa [Work.writesTo] using hn))
  | clear m => exact (Store.slot_setSlot _ _ _ _).trans (if_neg (by simpa [Work.writesTo] using hn))
  | mark m => exact (Store.slot_setSlot _ _ _ _).trans (if_neg (by simpa [Work.writesTo] using hn))

/-- A completion leaves every other slot as it was, but for the staging positions that a faulted stage write empties (R153). -/
theorem Work.slot_complete_other (w : Work) (v : Verify) (st : Store) {n : Nat} (hn : n ∉ w.writesTo) :
    ∃ x, (w.complete v st).slot n = { st.slot n with staged := x } ∧
      ((∀ m e, w ≠ .writeStaged m e) → x = (st.slot n).staged) := by
  have worn : ∀ m, m ∈ w.writesTo → (st.wear m).slot n = st.slot n := fun m hm =>
    (Store.slot_setSlot _ _ _ _).trans (if_neg fun h : n = m => hn (h ▸ hm))
  unfold Work.complete
  split
  · exact ⟨_, w.slot_updates_other 3 st hn, fun _ => rfl⟩
  · cases w with
    | writeImage m e => exact ⟨_, worn m List.mem_cons_self, fun _ => rfl⟩
    | writeStaged m e =>
      obtain ⟨x, hx⟩ := (st.wear m).slot_discardStaged n
      exact ⟨x, by rw [← worn m List.mem_cons_self]; exact hx, fun h => absurd rfl (h m e)⟩
    | moveImage a b e => exact ⟨_, worn b (List.mem_cons_of_mem _ List.mem_cons_self), fun _ => rfl⟩
    | _ => exact ⟨_, rfl, fun _ => rfl⟩

/-- A completion whose work writes touched slots alone, with an effect on touched slots alone. -/
theorem State.touchesOnly.completes {c : Commit} {rest : List Commit} {w : Work} {v : Verify}
    (h : (s.ended rest (w.complete v s.store)).touchesOnly t (s.touched c.change))
    (hw : ∀ n ∈ w.writesTo, s.touched c.change n) : s.completes t c rest where
  commits := h.commits
  scan := h.scan
  slots := h.slots
  stored n hn := by
    obtain ⟨x, hx, -⟩ := w.slot_complete_other v s.store (hn ∘ hw n)
    rw [h.store, State.ended_store, hx]
    exact ⟨rfl, rfl, rfl⟩
  holds n hn := h.holds hn
  places p x hl hx := (h.places p x hx).2 hl
  due := h.due

/-- What a completion that is not a stage write's or the PROMOTE's has to show about the slots it touches. -/
theorem State.touchesOnly.tableSound {c : Commit} {rest : List Commit} {w : Work} {v : Verify} (hs : s.runs)
    (hc : s.commits = ⟨c :: rest, some w⟩)
    (h : (s.ended rest (w.complete v s.store)).touchesOnly t (s.touched c.change))
    (hw : ∀ n ∈ w.writesTo, s.touched c.change n) (hi : ∀ i n, c.change ≠ .stageItem i n)
    (hws : ∀ m e, w ≠ .writeStaged m e) (well : s.endsWell t (s.touched c.change)) : t.tableSound := by
  refine (h.completes hw).tableSound hs hc h.batch hi (fun n hn => ?_) well
  obtain ⟨x, hx, hkeep⟩ := w.slot_complete_other v s.store (hn ∘ hw n)
  rw [h.store, State.ended_store, hx]
  exact hkeep hws

end Sys2Proof.Machine
end

section
/-! The completions of commits that are for one entry, and of Inserts and CLASS_WRITEs. -/

namespace Sys2Proof.Machine

variable {s t : State} {c : Commit} {rest : List Commit} {w : Work} {v : Verify} {n : Nat}

/-! ### What is touched -/

/-- A commit with a subject and no claim touches its subject's slot alone. -/
theorem State.touched_iff_of_subject {d : Change} (hsub : d.subject = some n) (hcl : s.claimOf d = none) (m : Nat) :
    s.touched d m ↔ m = n := by
  simp [State.touched, hsub, hcl, eq_comm]

/-- A hold that keeps its slot and units counts as it did (R22). -/
theorem State.setHold_holds {p : Nat} {h h' : Hold} (hl : (s.place p).live = some h) (hslot : h'.slot = h.slot)
    (hunits : h'.units = h.units) (k : Nat) :
    (s.setHold p h').openHolds k = s.openHolds k ∧ (s.setHold p h').heldUnits k = s.heldUnits k := by
  refine State.holds_congr_of_terms fun q => ?_
  unfold State.setHold
  rw [State.place_setPlace]
  split
  · rename_i hq
    rw [hq, hl]
    simp [holdCount, holdUnits, hslot, hunits]
  · exact ⟨rfl, rfl⟩

theorem State.setHold_live (s : State) (p : Nat) (h : Hold) (q : Nat) :
    ((s.setHold p h).place q).live = if q = p then some h else (s.place q).live := by
  unfold State.setHold
  rw [State.place_setPlace]
  split <;> rfl

/-- A live hold counts among the open holds of its entry (R22). -/
theorem State.runs.openHolds_pos (hs : s.runs) {p : Nat} {h : Hold} (hl : (s.place p).live = some h) :
    s.openHolds h.slot ≠ 0 := fun h0 =>
  State.openHolds_eq_zero.1 h0 p h (hs.holds.lie p h hl).1 hl rfl

/-! ### An entry's image or marks rewritten in its slot -/

/-- What a completion has to show that rewrites its subject's image or marks and ends, at most, a hold on it. -/
theorem State.runs.tableSound_of_rewritten (hs : s.runs) (hc : s.commits = ⟨c :: rest, some w⟩)
    (hsub : c.change.subject = some n) (hcl : s.claimOf c.change = none) (hw : w.writesTo = [n])
    (hws : ∀ m e, w ≠ .writeStaged m e)
    (h : (s.ended rest (w.complete v s.store)).touchesOnly t (· = n)) {e x : Entry} (he : s.entryAt n = some e)
    (hx : t.entryAt n = some x) (hid : x.id = e.id)
    (stored : some x = ((w.complete v s.store).slot n).image ∧ (t.slot n).worn = ((w.complete v s.store).slot n).worn ∧
      (t.slot n).retireMark = ((w.complete v s.store).slot n).retireMark)
    (spill : t.engine.spillCounts = s.engine.spillCounts)
    (live : ∀ p h, (t.place p).live = some h → ∃ h', (s.place p).live = some h')
    (within : ∀ b, x.balance = some b → t.heldUnits n ≤ b)
    (due : n ∈ t.engine.clearDue ↔ t.slotRetiring n = true ∧ t.openHolds n = 0) : t.tableSound := by
  have touched := State.touched_iff_of_subject hsub hcl
  have works := hs.works w (by rw [hc])
  refine State.touchesOnly.tableSound hs hc (h.mono fun m hm => (touched m).2 hm)
    (fun m hm => (touched m).2 (by simpa [hw] using hm)) (fun i k hk => by rw [hk] at hsub; cases hsub) hws ?_
  have off : ∀ m, m ≠ n → t.entryAt m = s.entryAt m := fun m hm => h.entryAt hm
  refine
    { store := by rw [h.store]; exact w.sound_complete v hs.store works
      unmarked := by rw [h.store]; exact w.unmarked_complete v hs.unmarked
      images := fun m hm => by rw [(touched m).1 hm, h.store, hx]; exact stored
      unreserved := fun m hm id y hr => by
        rw [(touched m).1 hm] at hr
        rw [State.entryAt_of_reserved hr] at hx
        cases hx
      spill := State.spillSound_congr spill (fun m => ?_) hs.directory.spill
      known := fun m y hm hy => by
        rw [(touched m).1 hm, hx] at hy
        cases hy
        exact .inl ⟨n, e, he, hid.symm⟩
      live := fun p y hy => ?_
      within := fun m y b hm hy hb => by
        rw [(touched m).1 hm, hx] at *
        cases hy
        exact within b hb
      due := fun m hm => by rw [(touched m).1 hm]; exact due }
  · by_cases hm : m = n
    · rw [hm, hx, he]; exact congrArg some hid
    · rw [off m hm]
  · obtain ⟨h', hl'⟩ := live p y hy
    refine ⟨(hs.holds.lie p h' hl').1, ?_⟩
    by_cases hm : y.slot = n
    · exact ⟨x, hm ▸ hx⟩
    · rw [off _ hm]
      exact (hs.holds.lie p y ((h.places p y hm).1 hy)).2

/-- The image written by a completion that passes its verify. -/
theorem Work.slot_writeImage_ok (st : Store) (n : Nat) (x : Entry) :
    ((Work.writeImage n x).complete .ok st).slot n = { st.slot n with image := some x } :=
  (Store.slot_writeImage _ _ _ _).trans (if_pos rfl)

/-- The wear mark set by a completion that fails its verify (R109). -/
theorem Work.slot_writeImage_fault (st : Store) (n : Nat) (x : Entry) :
    ((Work.writeImage n x).complete .fault st).slot n = { st.slot n with worn := true } :=
  (Store.slot_wear _ _ _).trans (if_pos rfl)

/-- The facts about the subject of the commit in progress. -/
theorem State.runs.subject_entry (hs : s.runs) (hc : s.commits = ⟨c :: rest, some w⟩) (hsub : c.change.subject = some n) :
    ∃ e, s.entryAt n = some e :=
  hs.subjects.lie n (State.mem_subjects.2 (.inl ⟨c, by rw [hc]; exact List.mem_cons_self, hsub⟩))

/-- The work in progress fits the head of the queue (R102). -/
theorem State.runs.fits (hs : s.runs) (hc : s.commits = ⟨c :: rest, some w⟩) : w.fits c.change = true := by
  obtain ⟨d, hd, hf⟩ := hs.formed.2 w (by rw [hc])
  rw [hc] at hd
  cases hd
  exact hf

/-- What the work in progress agrees with (R108, R111, R114). -/
theorem State.runs.workAgrees (hs : s.runs) (hc : s.commits = ⟨c :: rest, some w⟩) : s.workAgrees c.change w :=
  hs.subjects.work c w (by rw [hc]; rfl) (by rw [hc])

theorem State.entryAt_setEntry_self (s : State) (n : Nat) (e : Entry) : (s.setEntry n e).entryAt n = some e :=
  State.entryAt_eq_some.2 (by unfold State.setEntry; rw [State.slot_setSlot_self])

/-- The held units of the subject are within the balance that the commit in progress writes (R67, R129, R131). -/
theorem State.runs.within_balanceAfter (hs : s.runs) (hc : s.commits = ⟨c :: rest, some w⟩)
    (hsub : c.change.subject = some n) (hset : ∀ p u, c.change ≠ .settleHold n p u) {e : Entry} (he : s.entryAt n = some e)
    {b : Nat} (hb : c.change.balanceAfter e.balance = some b) : s.heldUnits n ≤ b := by
  have old := fun b' hb' => hs.holds.within n e b' he hb'
  have queued : c ∈ s.commits.queue := by rw [hc]; exact List.mem_cons_self
  cases hch : c.change with
  | modifyEntry m f =>
    rw [hch] at hsub hb
    cases hsub
    cases hf : f.balance with
    | none => simp only [Change.balanceAfter, hf, Option.getD_none] at hb; exact old b hb
    | some y =>
      simp only [Change.balanceAfter, hf, Option.getD_some] at hb
      exact hs.holds.modifying c queued n f b hch (by rw [hf, hb])
  | topUpEntry m amount =>
    rw [hch] at hb
    obtain ⟨b', hb', rfl⟩ := Option.map_eq_some_iff.1 hb
    exact le_trans (old b' hb') (Nat.le_add_right _ _)
  | settleHold m p u => rw [hch] at hsub; cases hsub; exact absurd hch (hset p u)
  | setEntryState m x => rw [hch] at hb; exact old b hb
  | retireEntry m => rw [hch] at hb; exact old b hb
  | clearEntry m => rw [hch] at hb; exact old b hb
  | moveEntry m k => rw [hch] at hb; exact old b hb
  | _ => rw [hch] at hsub; cases hsub

/-- A Modify, Top Up, Bar or Unbar that completed with OK (R130 to R132). -/
theorem State.runs.tableSound_setEntry (hs : s.runs) {x : Entry} (hc : s.commits = ⟨c :: rest, some (.writeImage n x)⟩)
    (hsub : c.change.subject = some n) (hliv : c.change.needsLiving = some n) (hret : c.change ≠ .retireEntry n) :
    ((s.ended rest ((Work.writeImage n x).complete .ok s.store)).setEntry n x).tableSound := by
  obtain ⟨e, he, hid, hbal, -, hstate⟩ := (hs.workAgrees hc).writes n x hsub rfl
  have hcl : s.claimOf c.change = none := by cases hch : c.change <;> simp_all [Change.needsLiving, State.claimOf]
  have hset : ∀ p u, c.change ≠ .settleHold n p u := fun p u hch => by rw [hch] at hliv; cases hliv
  have living : s.slotRetiring n = false :=
    hs.subjects.living c (by rw [hc]; exact List.mem_cons_self) n hliv
  have mark : (s.slot n).retireMark = false := by
    rw [State.slotRetiring_eq he] at living
    exact (Bool.or_eq_false_iff.1 living).2
  have images := hs.directory.images n
  have slot : ((s.ended rest ((Work.writeImage n x).complete .ok s.store)).setEntry n x).slot n
      = { s.slot n with content := .occupied x } := State.slot_setSlot_self _ _ _
  refine hs.tableSound_of_rewritten hc hsub hcl rfl (by simp) (State.touchesOnly_setSlot _ _ rfl) he
    (State.entryAt_setEntry_self _ _ _) hid ?_ rfl (fun p h hl => ⟨h, hl⟩)
    (fun b hb => hs.within_balanceAfter hc hsub hset he (hbal ▸ hb)) ?_
  · rw [Work.slot_writeImage_ok, slot]
    exact ⟨rfl, images.2.1, images.2.2⟩
  · have old := hs.due_of_subject hc hsub fun hk => by rw [hk] at hliv; cases hliv
    rw [living] at old
    rw [State.slotRetiring_eq (State.entryAt_setEntry_self _ _ _), slot, mark]
    have := hstate hliv hret
    change n ∈ s.engine.clearDue ↔ _
    simpa [this] using old

/-- A write of an entry's image that failed its verify (R109, R130 to R132). -/
theorem State.runs.tableSound_wearSlot (hs : s.runs) {x : Entry} (hc : s.commits = ⟨c :: rest, some (.writeImage n x)⟩)
    (hsub : c.change.subject = some n) (hcl : s.claimOf c.change = none) :
    ((s.ended rest ((Work.writeImage n x).complete .fault s.store)).wearSlot n).tableSound := by
  obtain ⟨e, he⟩ := hs.subject_entry hc hsub
  have images := hs.directory.images n
  have slot : ((s.ended rest ((Work.writeImage n x).complete .fault s.store)).wearSlot n).slot n
      = { s.slot n with worn := true } := State.slot_setSlot_self _ _ _
  have entry : ((s.ended rest ((Work.writeImage n x).complete .fault s.store)).wearSlot n).entryAt n = some e := by
    rw [State.entryAt_eq_some, slot]; exact State.entryAt_eq_some.1 he
  refine hs.tableSound_of_rewritten hc hsub hcl rfl (by simp) (State.touchesOnly_setSlot _ _ rfl) he entry rfl ?_ rfl
    (fun p h hl => ⟨h, hl⟩) (fun b hb => hs.holds.within n e b he hb) ?_
  · rw [Work.slot_writeImage_fault, slot]
    exact ⟨he ▸ images.1, rfl, images.2.2⟩
  · rw [State.slotRetiring_of_entry (s := s) (entry.trans he.symm) (by rw [slot])]
    refine hs.due_of_subject hc hsub fun hk => ?_
    have hf := hs.fits hc
    rw [hk] at hf
    cases hf

/-! ### Retirements (R111, R134) -/

theorem State.settleRetiring_slot (s : State) (n m : Nat) : (s.settleRetiring n).slot m = s.slot m := by
  unfold State.settleRetiring; split <;> rfl

theorem State.settleRetiring_place (s : State) (n p : Nat) : (s.settleRetiring n).place p = s.place p := by
  unfold State.settleRetiring; split <;> rfl

theorem State.settleRetiring_spillCounts (s : State) (n : Nat) :
    (s.settleRetiring n).engine.spillCounts = s.engine.spillCounts := by
  unfold State.settleRetiring; split <;> rfl

/-- A RETIRE that leaves its entry RETIRING: by its image or by the slot's retire mark (R111). -/
theorem State.runs.tableSound_retiring (hs : s.runs) (hc : s.commits = ⟨c :: rest, some w⟩)
    (hch : c.change = .retireEntry n) (hw : w.writesTo = [n]) (hws : ∀ m e, w ≠ .writeStaged m e) {d : WorkingSlot}
    {e x : Entry} (he : s.entryAt n = some e) (hd : d.content = .occupied x) (hid : x.id = e.id)
    (hbal : x.balance = e.balance) (hret : x.state = .retiring ∨ d.retireMark = true)
    (stored : some x = ((w.complete v s.store).slot n).image ∧ d.worn = ((w.complete v s.store).slot n).worn ∧
      d.retireMark = ((w.complete v s.store).slot n).retireMark) :
    (((s.ended rest (w.complete v s.store)).setSlot n d).settleRetiring n).tableSound := by
  have hsub : c.change.subject = some n := by rw [hch]; rfl
  have slot : (((s.ended rest (w.complete v s.store)).setSlot n d).settleRetiring n).slot n = d :=
    (State.settleRetiring_slot _ _ _).trans (State.slot_setSlot_self _ _ _)
  have entry : (((s.ended rest (w.complete v s.store)).setSlot n d).settleRetiring n).entryAt n = some x := by
    rw [State.entryAt_eq_some, slot]; exact hd
  have holds := State.holds_congr (t := ((s.ended rest (w.complete v s.store)).setSlot n d).settleRetiring n) (s := s)
    (fun p => by rw [State.settleRetiring_place]; rfl) n
  have place : ∀ p, (((s.ended rest (w.complete v s.store)).setSlot n d).settleRetiring n).place p = s.place p :=
    fun p => (State.settleRetiring_place _ _ _).trans rfl
  refine hs.tableSound_of_rewritten hc hsub (by rw [hch]; rfl) hw hws
    ((State.touchesOnly_setSlot (N := (· = n)) _ _ rfl).trans (State.touchesOnly_settleRetiring _ rfl)) he entry hid
    (by rw [slot]; exact stored) (State.settleRetiring_spillCounts _ _) (fun p h hl => ⟨h, place p ▸ hl⟩)
    (fun b hb => by rw [holds.2]; exact hs.holds.within n e b he (hbal ▸ hb)) ?_
  have old := hs.due_of_subject hc hsub (by rw [hch]; nofun)
  rw [hs.subjects.living c (by rw [hc]; exact List.mem_cons_self) n (by rw [hch]; rfl)] at old
  rw [State.slotRetiring_eq entry, slot, holds.1, State.mem_clearDue_settleRetiring]
  change (n ∈ s.engine.clearDue ∨ s.openHolds n = 0) ↔ _
  rcases hret with h | h <;> simp [h, old]

/-! ### Settlements (R91 to R94) -/

/-- What is known of the hold of a settlement in progress (R88, R89). -/
theorem State.runs.settling_hold (hs : s.runs) (hc : s.commits = ⟨c :: rest, some w⟩) {p u : Nat}
    (hch : c.change = .settleHold n p u) :
    ∃ h, (s.place p).live = some h ∧ h.slot = n ∧ u ≤ h.units ∧ p < Config.holdPlaces := by
  obtain ⟨h, hl, hslot, -, hu⟩ := hs.holds.settling c (by rw [hc]; exact List.mem_cons_self) n p u hch
  exact ⟨h, hl, hslot, hu, (hs.holds.lie p h hl).1⟩

/-- An entry with a live hold is not on the clear-due list (R25). -/
theorem State.runs.not_due_of_hold (hs : s.runs) {p : Nat} {h : Hold} (hl : (s.place p).live = some h) :
    h.slot ∉ s.engine.clearDue := fun hm => hs.openHolds_pos hl ((hs.holds.clearing _).1 (.inl hm)).2

/-- A settlement completed with OK (R91, R94). -/
theorem State.runs.tableSound_settleOk (hs : s.runs) {x : Entry} (hc : s.commits = ⟨c :: rest, some (.writeImage n x)⟩)
    {p u : Nat} (hch : c.change = .settleHold n p u) :
    (((s.ended rest ((Work.writeImage n x).complete .ok s.store)).setEntry n x).endHold p .settled).tableSound := by
  have hsub : c.change.subject = some n := by rw [hch]; rfl
  obtain ⟨e, he, hid, hbal, -, -⟩ := (hs.workAgrees hc).writes n x hsub rfl
  obtain ⟨h, hl, rfl, hu, hp⟩ := hs.settling_hold hc hch
  have hl' : (((s.ended rest ((Work.writeImage h.slot x).complete .ok s.store)).setEntry h.slot x).place p).live = some h := hl
  have counts := State.endHold_holds hl' hp .settled h.slot
  have slot : ((((s.ended rest ((Work.writeImage h.slot x).complete .ok s.store)).setEntry h.slot x).endHold p .settled).slot
      h.slot) = { s.slot h.slot with content := .occupied x } := (State.endHold_slot _ _ _ _).trans (State.slot_setSlot_self _ _ _)
  have touches : (s.ended rest ((Work.writeImage h.slot x).complete .ok s.store)).touchesOnly
      (((s.ended rest ((Work.writeImage h.slot x).complete .ok s.store)).setEntry h.slot x).endHold p .settled)
      (· = h.slot) := (State.touchesOnly_setEntry (N := (· = h.slot)) _ x rfl).trans
      (State.touchesOnly_endHold (N := (· = h.slot)) _ hl' rfl _)
  refine hs.tableSound_of_rewritten hc hsub (by rw [hch]; rfl) rfl (by simp) touches he
    (State.entryAt_eq_some.2 (by rw [slot])) hid ?_ (State.endHold_spillCounts _ _ _) (fun q y hq => ?_) (fun b hb => ?_) ?_
  · rw [Work.slot_writeImage_ok, slot]
    exact ⟨rfl, (hs.directory.images h.slot).2⟩
  · rw [State.endHold_live] at hq
    split at hq
    · cases hq
    · exact ⟨y, hq⟩
  · rw [hbal, hch] at hb
    obtain ⟨b', hb', rfl⟩ := Option.map_eq_some_iff.1 hb
    have within : s.heldUnits h.slot ≤ b' := hs.holds.within h.slot e b' he hb'
    have held := counts.2
    change _ = s.heldUnits h.slot at held
    simp only [holdUnits, if_true] at held
    omega
  · rw [State.mem_clearDue_endHold hl']
    exact or_iff_right (hs.not_due_of_hold hl)

/-- A settlement completed with FAULT: the hold is OPEN again, or has expired within the same change (R93, R94). -/
theorem State.runs.tableSound_settleFault (hs : s.runs) {x : Entry} (hc : s.commits = ⟨c :: rest, some (.writeImage n x)⟩)
    {p u : Nat} (hch : c.change = .settleHold n p u) (o : Origin) :
    ((s.ended rest ((Work.writeImage n x).complete .fault s.store)).settleFault o n p).tableSound := by
  have hsub : c.change.subject = some n := by rw [hch]; rfl
  obtain ⟨e, he⟩ := hs.subject_entry hc hsub
  obtain ⟨h, hl, rfl, hu, hp⟩ := hs.settling_hold hc hch
  generalize ht : s.ended rest ((Work.writeImage h.slot x).complete .fault s.store) = t
  have worn : t.touchesOnly (t.wearSlot h.slot) (· = h.slot) := State.touchesOnly_setSlot _ _ rfl
  have hl' : ((t.wearSlot h.slot).place p).live = some h := by rw [← ht]; exact hl
  have reopened : t.touchesOnly ((t.wearSlot h.slot).setHold p { h with state := .opened }) (· = h.slot) :=
    worn.trans (State.touchesOnly_setPlace _ (fun y hy => by rw [hl'] at hy; cases hy; rfl) fun y hy => by cases hy; rfl)
  have counts := State.setHold_holds (h' := { h with state := .opened }) hl' rfl rfl h.slot
  have hlo : (((t.wearSlot h.slot).setHold p { h with state := .opened }).place p).live = some { h with state := .opened } := by
    rw [State.setHold_live, if_pos rfl]
  have due : h.slot ∉ s.engine.clearDue := hs.not_due_of_hold hl
  have pos : s.openHolds h.slot ≠ 0 := hs.openHolds_pos hl
  have within := fun b hb => hs.holds.within h.slot e b he hb
  have same : ∀ r : State, r.slot h.slot = { s.slot h.slot with worn := true } → r.entryAt h.slot = some e := by
    intro r hr
    rw [State.entryAt_eq_some, hr]
    exact State.entryAt_eq_some.1 he
  have slot : (t.wearSlot h.slot).slot h.slot = { s.slot h.slot with worn := true } := by
    rw [← ht]; exact State.slot_setSlot_self _ _ _
  have slotR : ((t.wearSlot h.slot).setHold p { h with state := .opened }).slot h.slot
      = { s.slot h.slot with worn := true } := slot
  have stored : some e = ((((Work.writeImage h.slot x).complete .fault s.store)).slot h.slot).image ∧
      ({ s.slot h.slot with worn := true } : WorkingSlot).worn
        = ((((Work.writeImage h.slot x).complete .fault s.store)).slot h.slot).worn ∧
      ({ s.slot h.slot with worn := true } : WorkingSlot).retireMark
        = ((((Work.writeImage h.slot x).complete .fault s.store)).slot h.slot).retireMark := by
    rw [Work.slot_writeImage_fault]
    exact ⟨he ▸ (hs.directory.images h.slot).1, rfl, (hs.directory.images h.slot).2.2⟩
  have liveWas : ∀ q y, (((t.wearSlot h.slot).setHold p { h with state := .opened }).place q).live = some y →
      ∃ h', (s.place q).live = some h' := by
    intro q y hy
    rw [State.setHold_live] at hy
    split at hy
    · rename_i hq; exact ⟨h, hq ▸ hl⟩
    · rw [← ht] at hy; exact ⟨y, hy⟩
  unfold State.settleFault
  simp only [hl']
  split
  · refine (State.sameTable_report _ _ _ _).tableSound ?_
    have ended := State.endHold_holds hlo hp .expired h.slot
    have slotE : (((t.wearSlot h.slot).setHold p { h with state := .opened }).endHold p .expired).slot h.slot
        = { s.slot h.slot with worn := true } := (State.endHold_slot _ _ _ _).trans slot
    refine hs.tableSound_of_rewritten (v := .fault) hc hsub (by rw [hch]; rfl) rfl (by simp)
      (ht ▸ reopened.trans (State.touchesOnly_endHold (N := (· = h.slot)) _ hlo rfl _)) he (same _ slotE) rfl
      (by rw [slotE]; exact stored) ?_ (fun q y hq => ?_) (fun b hb => ?_) ?_
    · rw [State.endHold_spillCounts, ← ht]; rfl
    · rw [State.endHold_live] at hq
      split at hq
      · cases hq
      · exact liveWas q y hq
    · have held := ended.2
      rw [counts.2, ← ht] at held
      change _ = s.heldUnits h.slot at held
      rw [← ht]
      have := within b hb
      omega
    · refine (State.mem_clearDue_endHold hlo .expired).trans (or_iff_right ?_)
      rw [← ht]
      exact due
  · refine (State.sameTable_report _ _ _ _).tableSound ?_
    refine hs.tableSound_of_rewritten (v := .fault) hc hsub (by rw [hch]; rfl) rfl (by simp) (ht ▸ reopened) he
      (same _ slotR) rfl (by rw [slotR]; exact stored) (by rw [← ht]; rfl) liveWas
      (fun b hb => by rw [counts.2, ← ht]; exact within b hb) ?_
    rw [counts.1, ← ht]
    exact iff_of_false due fun hh => pos hh.2

end Sys2Proof.Machine
end

section
/-! The completions that free, fill or spoil a slot: clears, Inserts and MOVEs; and the CLASS_WRITE's. -/

namespace Sys2Proof.Machine

variable {s t : State} {c : Commit} {rest : List Commit} {w : Work} {v : Verify} {n : Nat}

/-! ### Slots without an entry -/

/-- No hold is on a slot without an entry (R73, R76). -/
theorem State.runs.no_holds (hs : s.runs) (he : s.entryAt n = none) : s.openHolds n = 0 :=
  State.openHolds_eq_zero.2 fun p h _ hl hn => by
    obtain ⟨e, he'⟩ := (hs.holds.lie p h hl).2
    rw [hn, he] at he'
    cases he'

/-- A slot without an entry is not on the clear-due list (R25). -/
theorem State.runs.not_due (hs : s.runs) (he : s.entryAt n = none) : n ∉ s.engine.clearDue := fun hn => by
  have := ((hs.holds.clearing n).1 (.inl hn)).1
  rw [State.slotRetiring_of_none he] at this
  cases this

/-- The claim of the commit in progress is one of the claims. -/
theorem State.mem_claims_of_head (hc : s.commits = ⟨c :: rest, some w⟩) {y : Nat × List Byte × Holder}
    (hy : s.claimOf c.change = some y) : y ∈ s.claims :=
  State.mem_claims.2 (.inl ⟨c, by rw [hc]; exact List.mem_cons_self, hy⟩)

theorem State.clearSlot_holds (s : State) (n : Nat) : (s.clearSlot n).holds = s.holds := by rw [State.clearSlot_frame]

theorem State.clearSlot_clearDue (s : State) (n : Nat) : (s.clearSlot n).engine.clearDue = s.engine.clearDue := by
  rw [State.clearSlot_frame]

theorem State.occupySlot_holds (s : State) (n : Nat) (e : Entry) : (s.occupySlot n e).holds = s.holds := by
  unfold State.occupySlot State.spillGain; split <;> rfl

theorem State.occupySlot_clearDue (s : State) (n : Nat) (e : Entry) :
    (s.occupySlot n e).engine.clearDue = s.engine.clearDue := by
  unfold State.occupySlot State.spillGain; split <;> rfl

theorem State.spillSound_ended (hs : s.spillSound) (rest : List Commit) (st : Store) : (s.ended rest st).spillSound :=
  State.spillSound_congr (s := s) rfl (fun _ => rfl) hs

theorem State.place_congr (h : t.holds = s.holds) (p : Nat) : t.place p = s.place p := by unfold State.place; rw [h]

theorem State.counts_congr (h : t.holds = s.holds) (k : Nat) :
    t.openHolds k = s.openHolds k ∧ t.heldUnits k = s.heldUnits k :=
  State.holds_congr (fun p => by rw [State.place_congr h]) k

/-! ### Clears (R12, R100) -/

/-- A RETIRE or SLOT_CLEAR that cleared the slot of its subject (R25, R111). -/
theorem State.runs.tableSound_clearSlot (hs : s.runs) (hc : s.commits = ⟨c :: rest, some (.clear n)⟩)
    (hch : c.change = .retireEntry n ∨ c.change = .clearEntry n) :
    ((s.ended rest ((Work.clear n).complete v s.store)).clearSlot n).tableSound := by
  have hsub : c.change.subject = some n := by rcases hch with h | h <;> rw [h] <;> rfl
  have hcl : s.claimOf c.change = none := by rcases hch with h | h <;> rw [h] <;> rfl
  have queued : c ∈ s.commits.queue := by rw [hc]; exact List.mem_cons_self
  have touched := State.touched_iff_of_subject hsub hcl
  have zero : s.openHolds n = 0 := (hs.workAgrees hc).clears n rfl
  have due : n ∉ s.engine.clearDue := by
    intro hn
    rcases hch with h | h
    · have := (hs.due_of_subject hc hsub (by rw [h]; nofun)).1 hn
      rw [hs.subjects.living c queued n (by rw [h]; rfl)] at this
      cases this.1
    · have := hs.holds.cleared n hn
      rw [State.clearQueued_iff.2 ⟨c, queued, h⟩] at this
      cases this
  have touches := State.touchesOnly_clearSlot (N := s.touched c.change) (s.ended rest ((Work.clear n).complete v s.store))
    ((touched n).2 rfl)
  have stored : ((Work.clear n).complete v s.store) = s.store.clear n := rfl
  have entry := State.entryAt_clearSlot (s.ended rest ((Work.clear n).complete v s.store)) n
  have slot : ((s.ended rest ((Work.clear n).complete v s.store)).clearSlot n).slot n = ⟨.free, (s.slot n).worn, false⟩ :=
    (State.slot_clearSlot _ _ _).trans (if_pos rfl)
  refine touches.tableSound hs hc (fun m hm => (touched m).2 (List.mem_singleton.1 hm))
    (fun i k hk => by rw [hk] at hsub; cases hsub) (by simp)
    { store := by rw [touches.store]; exact Work.sound_complete _ v hs.store (hs.works _ (by rw [hc]))
      unmarked := by rw [touches.store]; exact Work.unmarked_complete _ v hs.unmarked
      images := fun m hm => ?_
      unreserved := fun m hm id x hr => by rw [(touched m).1 hm, slot] at hr; cases hr
      spill := State.spillSound_clearSlot (State.spillSound_ended hs.directory.spill _ _) n
      known := fun m e hm he => by rw [(touched m).1 hm, entry, if_pos rfl] at he; cases he
      live := fun p h hl => ?_
      within := fun m e b hm he => by rw [(touched m).1 hm, entry, if_pos rfl] at he; cases he
      due := fun m hm => ?_ }
  · rw [(touched m).1 hm, touches.store, entry, if_pos rfl, slot, State.ended_store, stored, Store.slot_clear, if_pos rfl]
    exact ⟨rfl, (hs.directory.images n).2.1, rfl⟩
  · have hl' : (s.place p).live = some h := by
      rw [State.place_congr (State.clearSlot_holds _ _)] at hl
      exact hl
    obtain ⟨hp, e, he⟩ := hs.holds.lie p h hl'
    refine ⟨hp, e, ?_⟩
    rw [entry, if_neg (State.openHolds_eq_zero.1 zero p h hp hl')]
    exact he
  · have none : ((s.ended rest ((Work.clear n).complete v s.store)).clearSlot n).entryAt n = none := by
      rw [entry, if_pos rfl]
    rw [(touched m).1 hm, State.slotRetiring_of_none none]
    rw [State.clearSlot_clearDue]
    exact iff_of_false due fun hh => by cases hh.1

/-! ### Inserts (R127) -/

/-- An Insert touches the slot that it has reserved alone. -/
theorem State.touched_iff_of_insert {e : Entry} (hch : c.change = .insertEntry n e) (m : Nat) :
    s.touched c.change m ↔ m = n := by
  rw [hch]
  simp [State.touched, Change.subject, State.claimOf, eq_comm]

/-- An Insert completed with OK (R127). -/
theorem State.runs.tableSound_occupySlot (hs : s.runs) {e x : Entry} (hc : s.commits = ⟨c :: rest, some (.writeImage n x)⟩)
    (hch : c.change = .insertEntry n e) :
    ((s.ended rest ((Work.writeImage n x).complete .ok s.store)).occupySlot n x).tableSound := by
  obtain rfl := (hs.workAgrees hc).inserts n e n x hch rfl
  have touched := State.touched_iff_of_insert (s := s) hch
  have claim : s.claimOf c.change = some (n, x.id, .singleInsert) := by rw [hch]; rfl
  have none : s.entryAt n = none := hs.directory.claims.no_entry (State.mem_claims_of_head hc claim)
  have zero := hs.no_holds none
  have touches := State.touchesOnly_occupySlot (N := s.touched c.change)
    (s.ended rest ((Work.writeImage n x).complete .ok s.store)) x ((touched n).2 rfl)
  have slot : ((s.ended rest ((Work.writeImage n x).complete .ok s.store)).occupySlot n x).slot n
      = { s.slot n with content := .occupied x } := (State.slot_occupySlot _ _ _ _).trans (if_pos rfl)
  have entry : ((s.ended rest ((Work.writeImage n x).complete .ok s.store)).occupySlot n x).entryAt n = some x :=
    State.entryAt_eq_some.2 (by rw [slot])
  have holds := State.holds_congr (t := (s.ended rest ((Work.writeImage n x).complete .ok s.store)).occupySlot n x) (s := s)
    (fun p => by rw [State.place_congr (State.occupySlot_holds _ _ _)]; rfl) n
  refine touches.tableSound hs hc (fun m hm => (touched m).2 (List.mem_singleton.1 hm))
    (fun i k hk => by rw [hch] at hk; cases hk) (by simp)
    { store := by rw [touches.store]; exact Work.sound_complete _ .ok hs.store (hs.works _ (by rw [hc]))
      unmarked := by rw [touches.store]; exact Work.unmarked_complete _ .ok hs.unmarked
      images := fun m hm => ?_
      unreserved := fun m hm id y hr => by rw [(touched m).1 hm, slot] at hr; cases hr
      spill := State.spillSound_occupySlot (State.spillSound_ended hs.directory.spill _ _) none x
      known := fun m y hm hy => by
        rw [(touched m).1 hm, entry] at hy
        cases hy
        exact .inr ⟨n, .singleInsert, State.mem_claims_of_head hc claim, (touched n).2 rfl⟩
      live := fun p h hl => ?_
      within := fun m y b hm _ _ => by
        rw [(touched m).1 hm, holds.2, State.heldUnits_eq_zero zero]; exact Nat.zero_le _
      due := fun m hm => ?_ }
  · rw [(touched m).1 hm, entry, slot, touches.store, State.ended_store, Work.slot_writeImage_ok]
    exact ⟨rfl, (hs.directory.images n).2⟩
  · rw [State.place_congr (State.occupySlot_holds _ _ _)] at hl
    obtain ⟨hp, e, he⟩ := hs.holds.lie p h hl
    refine ⟨hp, e, ?_⟩
    rw [touches.entryAt fun hm => State.openHolds_eq_zero.1 zero p h hp hl ((touched _).1 hm)]
    exact he
  · rw [(touched m).1 hm, State.occupySlot_clearDue, State.slotRetiring_eq entry, slot]
    have fresh : x.state ≠ .retiring :=
      (hs.subjects.fresh c (by rw [hc]; exact List.mem_cons_self)).1 n x hch
    refine iff_of_false (hs.not_due none) ?_
    simp [fresh, hs.retireMark none]

/-! ### Spoiled slots (R109, R113) -/

/-- A write to a reserved slot that failed its verify: the slot is FREE and WORN, and the entry that was to move stays
where it is (R109, R113, R127). -/
theorem State.runs.tableSound_spoilSlot (hs : s.runs) (hc : s.commits = ⟨c :: rest, some w⟩) {id : List Byte} {x : Holder}
    (hcl : s.claimOf c.change = some (n, id, x)) (hw : ∀ m ∈ w.writesTo, s.touched c.change m)
    (hi : ∀ i n, c.change ≠ .stageItem i n) (hk : ∀ m, c.change ≠ .clearEntry m) (hws : ∀ m e, w ≠ .writeStaged m e)
    (hst : w.complete .fault s.store = s.store.wear n) :
    ((s.ended rest (w.complete .fault s.store)).spoilSlot n).tableSound := by
  have target : s.touched c.change n := .inr ⟨_, hcl, rfl⟩
  have none : s.entryAt n = none := hs.directory.claims.no_entry (State.mem_claims_of_head hc hcl)
  have touches : (s.ended rest (w.complete .fault s.store)).touchesOnly
      ((s.ended rest (w.complete .fault s.store)).spoilSlot n) (s.touched c.change) := State.touchesOnly_setSlot _ _ target
  have slot : ∀ m, ((s.ended rest (w.complete .fault s.store)).spoilSlot n).slot m
      = if m = n then ⟨.free, true, false⟩ else s.slot m := fun m => State.slot_setSlot _ _ _ _
  have entry : ∀ m, ((s.ended rest (w.complete .fault s.store)).spoilSlot n).entryAt m = s.entryAt m := fun m => by
    by_cases hm : m = n
    · rw [hm, none]; unfold State.entryAt; rw [slot, if_pos rfl]; rfl
    · exact State.entryAt_congr ((slot m).trans (if_neg hm))
  have images := hs.directory.images
  have clean : (s.store.slot n).image = .none ∧ (s.store.slot n).retireMark = false := by
    have h := (images n).1
    rw [none] at h
    exact ⟨h.symm, hs.store.unmarked n h.symm⟩
  have subject : ∀ m, s.touched c.change m → m ≠ n → c.change.subject = some m := by
    rintro m (h | ⟨y, hy, rfl⟩) hm
    · exact h
    · rw [hcl] at hy; cases hy; exact absurd rfl hm
  refine touches.tableSound hs hc hw hi hws
    { store := by rw [touches.store]; exact Work.sound_complete _ _ hs.store (hs.works _ (by rw [hc]))
      unmarked := by rw [touches.store]; exact Work.unmarked_complete _ _ hs.unmarked
      images := fun m _ => ?_
      unreserved := fun m hm id y hr => ?_
      spill := State.spillSound_congr (s := s) rfl (fun m => by rw [entry]) hs.directory.spill
      known := fun m y _ hy => .inl ⟨m, y, by rw [← entry]; exact hy, rfl⟩
      live := fun p h hl => by rw [entry]; exact hs.holds.lie p h hl
      within := fun m y b _ hy hb => hs.holds.within m y b (by rw [← entry]; exact hy) hb
      due := fun m hm => ?_ }
  · rw [entry, slot, touches.store, State.ended_store, hst, Store.slot_wear]
    split
    · rename_i hm
      rw [hm]
      exact ⟨none.trans clean.1.symm, rfl, clean.2.symm⟩
    · exact images m
  · rw [slot] at hr
    split at hr
    · cases hr
    · rename_i hmn
      obtain ⟨e, he⟩ := hs.subject_entry hc (subject m hm hmn)
      rw [State.entryAt_of_reserved hr] at he
      cases he
  · change m ∈ s.engine.clearDue ↔ _ ∧ s.openHolds m = 0
    by_cases hmn : m = n
    · subst hmn
      rw [State.slotRetiring_of_none ((entry m).trans none)]
      exact iff_of_false (hs.not_due none) fun hh => by cases hh.1
    · rw [State.slotRetiring_congr ((slot m).trans (if_neg hmn))]
      exact hs.due_of_subject hc (subject m hm hmn) (hk m)

/-! ### CLASS_WRITEs (R32) -/

/-- A CLASS_WRITE's completion touches no slot. -/
theorem State.runs.tableSound_classWrite (hs : s.runs) {k : Nat} {r : ClassRecord}
    (hc : s.commits = ⟨c :: rest, some (.writeClass k r)⟩) (hsub : c.change.subject = none)
    (hcl : s.claimOf c.change = none) (hi : ∀ i n, c.change ≠ .stageItem i n) :
    (s.ended rest ((Work.writeClass k r).complete v s.store)).tableSound := by
  have off : ∀ m, ¬ s.touched c.change m := by
    rintro m (h | ⟨y, hy, -⟩)
    · rw [hsub] at h; cases h
    · rw [hcl] at hy; cases hy
  exact (State.touchesOnly.refl _ _).tableSound hs hc (fun m hm => by cases hm) hi (by simp)
    { store := Work.sound_complete _ v hs.store (hs.works _ (by rw [hc]))
      unmarked := Work.unmarked_complete _ v hs.unmarked
      images := fun m hm => absurd hm (off m)
      unreserved := fun m hm => absurd hm (off m)
      spill := State.spillSound_ended hs.directory.spill _ _
      known := fun m _ hm => absurd hm (off m)
      live := hs.holds.lie
      within := fun m _ _ hm => absurd hm (off m)
      due := fun m hm => absurd hm (off m) }

end Sys2Proof.Machine
end

section
/-! The completion of a MOVE (R113): the entry, its marks, its holds and its place on the clear-due list go to the target. -/

namespace Sys2Proof.Machine

variable {s t : State} {c : Commit} {rest : List Commit} {a b : Nat}

/-! ### Holds follow their entry (R76) -/

/-- A hold on the source is one on the target after a MOVE. -/
def Hold.follow (a b : Nat) (h : Hold) : Hold := if h.slot = a then { h with slot := b } else h

theorem Hold.follow_follow (a b : Nat) (h : Hold) : (h.follow a b).follow a b = h.follow a b := by
  unfold Hold.follow
  split
  · split <;> rfl
  · rfl

theorem State.followMove_live (s : State) (a b q p : Nat) : ((State.followMove a b s q).place p).live =
    if p = q then (s.place p).live.map (Hold.follow a b) else (s.place p).live := by
  unfold State.followMove
  cases hl : (s.place q).live with
  | none =>
    by_cases hp : p = q
    · rw [if_pos hp, hp, hl]; rfl
    · rw [if_neg hp]
  | some h =>
    simp only
    split
    · rename_i ha
      rw [State.setHold_live]
      split
      · rename_i hp; rw [hp, hl]; simp [Hold.follow, ha]
      · rfl
    · rename_i ha
      split
      · rename_i hp; rw [hp, hl]; simp [Hold.follow, ha]
      · rfl

theorem State.followMove_engine (s : State) (a b q : Nat) : (State.followMove a b s q).engine = s.engine := by
  unfold State.followMove
  split
  · split <;> rfl
  · rfl

theorem State.foldl_followMove (l : List Nat) (s : State) :
    (l.foldl (State.followMove a b) s).engine = s.engine ∧
      ∀ p, ((l.foldl (State.followMove a b) s).place p).live =
        if p ∈ l then (s.place p).live.map (Hold.follow a b) else (s.place p).live := by
  induction l generalizing s with
  | nil => exact ⟨rfl, fun p => by simp⟩
  | cons q l ih =>
    obtain ⟨engine, live⟩ := ih (State.followMove a b s q)
    refine ⟨engine.trans (State.followMove_engine _ _ _ _), fun p => ?_⟩
    rw [List.foldl_cons, live, State.followMove_live]
    by_cases hp : p = q
    · rw [if_pos hp]
      simp [hp, Function.comp_def, Hold.follow_follow]
    · simp [hp]

theorem State.moveHolds_engine (s : State) (a b : Nat) : (s.moveHolds a b).engine = s.engine :=
  (State.foldl_followMove _ _).1

/-- Every live hold of a moved entry is on the target (R76). -/
theorem State.moveHolds_live (hs : s.runs) (h : t.holds = s.holds) (a b p : Nat) :
    ((t.moveHolds a b).place p).live = (s.place p).live.map (Hold.follow a b) := by
  refine ((State.foldl_followMove _ _).2 p).trans ?_
  rw [State.place_congr h]
  split
  · rfl
  · rename_i hp
    cases hl : (s.place p).live with
    | none => rfl
    | some x => exact absurd (List.mem_range.2 (hs.holds.lie p x hl).1) hp

theorem State.touchesOnly_followMove {N : Nat → Prop} (s : State) (ha : N a) (hb : N b) (q : Nat) :
    s.touchesOnly (State.followMove a b s q) N := by
  unfold State.followMove
  split
  · rename_i h hl
    split
    · rename_i hh
      exact State.touchesOnly_setPlace _ (fun y hy => by rw [hl] at hy; cases hy; rw [hh]; exact ha)
        (fun y hy => by cases hy; exact hb)
    · exact .refl _ _
  · exact .refl _ _

/-! ### The entry moves -/

theorem State.moveClearDue_slot (s : State) (a b m : Nat) : (s.moveClearDue a b).slot m = s.slot m := by
  unfold State.moveClearDue; split <;> rfl

theorem State.moveClearDue_place (s : State) (a b p : Nat) : (s.moveClearDue a b).place p = s.place p := by
  unfold State.moveClearDue; split <;> rfl

theorem State.moveClearDue_spillCounts (s : State) (a b : Nat) :
    (s.moveClearDue a b).engine.spillCounts = s.engine.spillCounts := by
  unfold State.moveClearDue; split <;> rfl

theorem State.mem_moveClearDue (s : State) (hab : b ≠ a) : (b ∈ (s.moveClearDue a b).engine.clearDue ↔
    b ∈ s.engine.clearDue ∨ a ∈ s.engine.clearDue) ∧ a ∉ (s.moveClearDue a b).engine.clearDue := by
  unfold State.moveClearDue
  by_cases ha : a ∈ s.engine.clearDue
  · simp [ha, State.leaveClearDue, State.joinClearDue, Ne.symm hab]
  · simp [ha]

theorem State.touchesOnly_moveEntry {N : Nat → Prop} (s : State) (x : Entry) (ha : N a) (hb : N b) :
    s.touchesOnly (s.moveEntry a b x) N := by
  have placed : s.touchesOnly (((s.clearSlot a).occupySlot b x).moveHolds a b) N :=
    ((s.touchesOnly_clearSlot ha).trans (State.touchesOnly_occupySlot _ x hb)).trans
      (State.touchesOnly_foldl _ (fun u q _ => u.touchesOnly_followMove ha hb q) _)
  unfold State.moveEntry State.moveClearDue
  split
  · exact (placed.trans (State.touchesOnly_leaveClearDue _ ha)).trans (State.touchesOnly_joinClearDue _ hb)
  · exact placed

theorem State.moveEntry_slot (s : State) (a b : Nat) (x : Entry) (m : Nat) :
    (s.moveEntry a b x).slot m = ((s.clearSlot a).occupySlot b x).slot m := by
  unfold State.moveEntry
  rw [State.moveClearDue_slot]
  unfold State.slot
  rw [State.moveHolds_engine]

/-- What the working directory holds after a MOVE (R113). -/
theorem State.slot_moveEntry (s : State) (hab : b ≠ a) (x : Entry) (m : Nat) : (s.moveEntry a b x).slot m =
    if m = b then { s.slot b with content := .occupied x }
    else if m = a then ⟨.free, (s.slot a).worn, false⟩ else s.slot m := by
  rw [State.moveEntry_slot, State.slot_occupySlot, State.slot_clearSlot, State.slot_clearSlot, if_neg hab]

theorem State.spillSound_moveEntry (hs : s.spillSound) (hb : s.entryAt b = none) (x : Entry) :
    (s.moveEntry a b x).spillSound := by
  have cleared := State.spillSound_clearSlot hs a
  have free : (s.clearSlot a).entryAt b = none := by
    rw [State.entryAt_clearSlot]
    split
    · rfl
    · exact hb
  refine State.spillSound_congr (s := (s.clearSlot a).occupySlot b x) ?_ (fun m => ?_)
    (State.spillSound_occupySlot cleared free x)
  · unfold State.moveEntry
    rw [State.moveClearDue_spillCounts, State.moveHolds_engine]
  · rw [State.entryAt_congr (State.moveEntry_slot s a b x m)]

/-- A clear-due entry is so in its new slot (R106, R113). -/
theorem State.mem_clearDue_moveEntry (s : State) (hab : b ≠ a) (x : Entry) : (b ∈ (s.moveEntry a b x).engine.clearDue ↔
    b ∈ s.engine.clearDue ∨ a ∈ s.engine.clearDue) ∧ a ∉ (s.moveEntry a b x).engine.clearDue := by
  unfold State.moveEntry
  have h := State.mem_moveClearDue (((s.clearSlot a).occupySlot b x).moveHolds a b) hab
  rw [State.moveHolds_engine, State.occupySlot_clearDue, State.clearSlot_clearDue] at h
  exact h

/-- The holds of the entry that a MOVE took to another slot (R76). -/
theorem State.moveEntry_live (hs : s.runs) (h : t.holds = s.holds) (x : Entry) (p : Nat) :
    ((t.moveEntry a b x).place p).live = (s.place p).live.map (Hold.follow a b) := by
  unfold State.moveEntry
  rw [State.moveClearDue_place]
  exact State.moveHolds_live hs (by rw [State.occupySlot_holds, State.clearSlot_holds, h]) a b p

/-- The target counts the holds that the source had, and the source counts none. -/
theorem State.moveEntry_holds (hs : s.runs) (h : t.holds = s.holds) (hab : b ≠ a) (hb : s.entryAt b = none) (x : Entry) :
    (t.moveEntry a b x).openHolds b = s.openHolds a ∧ (t.moveEntry a b x).heldUnits b = s.heldUnits a ∧
      (t.moveEntry a b x).openHolds a = 0 := by
  have live := State.moveEntry_live (a := a) (b := b) hs h x
  have off : ∀ p y, (s.place p).live = some y → y.slot ≠ b := fun p y hl =>
    State.openHolds_eq_zero.1 (hs.no_holds hb) p y (hs.holds.lie p y hl).1 hl
  have counts := State.holds_congr_of_terms (t := t.moveEntry a b x) (s := s) (j := b) (k := a) fun p => by
    rw [live]
    cases hl : (s.place p).live with
    | none => exact ⟨rfl, rfl⟩
    | some y =>
      by_cases ha : y.slot = a
      · simp [holdCount, holdUnits, Hold.follow, ha]
      · simp [holdCount, holdUnits, Hold.follow, ha, off p y hl]
  refine ⟨counts.1, counts.2, State.openHolds_eq_zero.2 fun p y _ hl => ?_⟩
  rw [live] at hl
  obtain ⟨z, _, rfl⟩ := Option.map_eq_some_iff.1 hl
  unfold Hold.follow
  split
  · exact hab
  · assumption

/-- A MOVE completed with OK (R113). -/
theorem State.runs.tableSound_moveEntry (hs : s.runs) {x : Entry} (hc : s.commits = ⟨c :: rest, some (.moveImage a b x)⟩)
    (hch : c.change = .moveEntry a b) :
    ((s.ended rest ((Work.moveImage a b x).complete .ok s.store)).moveEntry a b x).tableSound := by
  have hsub : c.change.subject = some a := by rw [hch]; rfl
  obtain ⟨e, he, hid, hbal, hret⟩ := (hs.workAgrees hc).moves a b x rfl
  have hcl : s.claimOf c.change = some (b, e.id, .move) := by rw [hch]; simp only [State.claimOf, he, Option.map_some]
  have none : s.entryAt b = none := hs.directory.claims.no_entry (State.mem_claims_of_head hc hcl)
  have hab : b ≠ a := by rintro rfl; rw [none] at he; cases he
  have touched : ∀ m, s.touched c.change m ↔ m = a ∨ m = b := by
    intro m
    unfold State.touched
    rw [hsub, hcl]
    simp only [Option.some.injEq, exists_eq_left']
    rw [eq_comm (a := a), eq_comm (a := b)]
  have source : s.touched c.change a := (touched a).2 (.inl rfl)
  have target : s.touched c.change b := (touched b).2 (.inr rfl)
  have works := hs.works (.moveImage a b x) (by rw [hc])
  generalize hu : s.ended rest ((Work.moveImage a b x).complete .ok s.store) = u
  have slotU : ∀ m, u.slot m = s.slot m := fun m => by rw [← hu]; rfl
  have holdsU : u.holds = s.holds := by rw [← hu]; rfl
  have entryU : ∀ m, u.entryAt m = s.entryAt m := fun m => State.entryAt_congr (slotU m)
  have dueU : u.engine.clearDue = s.engine.clearDue := by rw [← hu]; rfl
  have touches : (s.ended rest ((Work.moveImage a b x).complete .ok s.store)).touchesOnly (u.moveEntry a b x)
      (s.touched c.change) := by rw [hu]; exact u.touchesOnly_moveEntry x source target
  have slot := State.slot_moveEntry u hab x
  have slotB : (u.moveEntry a b x).slot b = { s.slot b with content := .occupied x } := by rw [slot, if_pos rfl, slotU]
  have slotA : (u.moveEntry a b x).slot a = ⟨.free, (s.slot a).worn, false⟩ := by
    rw [slot, if_neg (Ne.symm hab), if_pos rfl, slotU]
  have entryB : (u.moveEntry a b x).entryAt b = some x := State.entryAt_eq_some.2 (by rw [slotB])
  have entryA : (u.moveEntry a b x).entryAt a = .none := by unfold State.entryAt; rw [slotA]; rfl
  obtain ⟨openB, unitsB, openA⟩ := State.moveEntry_holds hs holdsU hab none x
  have stored : ∀ m, ((Work.moveImage a b x).complete .ok s.store).slot m = _ := Work.slot_moved (st := s.store) hab x
  refine touches.tableSound hs hc
    (fun m hm => (touched m).2 (by simpa [Work.writesTo] using hm)) (fun i k hk => by rw [hch] at hk; cases hk) (by simp)
    { store := by rw [touches.store]; exact Work.sound_complete _ .ok hs.store works
      unmarked := by rw [touches.store]; exact Work.unmarked_complete _ .ok hs.unmarked
      images := fun m hm => ?_
      unreserved := fun m hm id y hr => ?_
      spill := State.spillSound_moveEntry (by rw [← hu]; exact State.spillSound_ended hs.directory.spill _ _)
        (by rw [entryU]; exact none) x
      known := fun m y hm hy => ?_
      live := fun p y hy => ?_
      within := fun m y k hm hy hk => ?_
      due := fun m hm => ?_ }
  · rw [touches.store, State.ended_store, stored]
    rcases (touched m).1 hm with rfl | rfl
    · rw [entryA, slotA, if_neg (Ne.symm hab), if_pos rfl]
      exact ⟨rfl, (hs.directory.images m).2.1, rfl⟩
    · rw [entryB, slotB, if_pos rfl]
      exact ⟨rfl, (hs.directory.images m).2⟩
  · rcases (touched m).1 hm with rfl | rfl
    · rw [slotA] at hr; cases hr
    · rw [slotB] at hr; cases hr
  · rcases (touched m).1 hm with rfl | rfl
    · rw [entryA] at hy; cases hy
    · rw [entryB] at hy; cases hy; exact .inl ⟨a, e, he, hid.symm⟩
  · rw [State.moveEntry_live hs holdsU] at hy
    obtain ⟨z, hz, rfl⟩ := Option.map_eq_some_iff.1 hy
    obtain ⟨hp, d, hd⟩ := hs.holds.lie p z hz
    refine ⟨hp, ?_⟩
    by_cases ha : z.slot = a
    · exact ⟨x, by simpa [Hold.follow, ha] using entryB⟩
    · refine ⟨d, ?_⟩
      have hb : z.slot ≠ b := State.openHolds_eq_zero.1 (hs.no_holds none) p z hp hz
      have same : Hold.follow a b z = z := if_neg ha
      rw [same, touches.entryAt fun hm => ((touched _).1 hm).elim ha hb]
      exact hd
  · rcases (touched m).1 hm with rfl | rfl
    · rw [entryA] at hy; cases hy
    · rw [entryB] at hy
      cases hy
      rw [unitsB]
      exact hs.holds.within a e k he (hbal ▸ hk)
  · obtain ⟨dueB, dueA⟩ := u.mem_clearDue_moveEntry hab x
    rcases (touched m).1 hm with rfl | rfl
    · rw [State.slotRetiring_of_none entryA]
      exact iff_of_false dueA fun hh => by cases hh.1
    · rw [dueB, dueU, State.slotRetiring_eq entryB, slotB, openB, hs.retireMark none, or_iff_right (hs.not_due none),
        hs.due_of_subject hc hsub (by rw [hch]; nofun), State.slotRetiring_eq he]
      change s.isRetiring a e = true ∧ _ ↔ _
      simp [hret]

end Sys2Proof.Machine
end

section
/-! The completions of a batch's stage writes (R152, R153), and what the end of a batch leaves in the queue. -/

namespace Sys2Proof.Machine

variable {s t : State} {c : Commit} {rest : List Commit} {w : Option Work}

/-! ### Folds of updates of one number each -/

/-- A fold of updates that each rewrite what one number reads, each number once. `P` is what the updates rely on and keep. -/
theorem foldl_keyed {σ α β : Type} {f : σ → α → σ} {key : α → Nat} {get : σ → Nat → β} {g : α → β → β} {P : σ → Prop}
    (keep : ∀ s x, P s → P (f s x))
    (one : ∀ s x m, P s → get (f s x) m = if m = key x then g x (get s m) else get s m) (l : List α)
    (hl : (l.map key).Nodup) (s : σ) (hs : P s) :
    (∀ x ∈ l, get (l.foldl f s) (key x) = g x (get s (key x))) ∧
      ∀ m, m ∉ l.map key → get (l.foldl f s) m = get s m := by
  induction l generalizing s with
  | nil => exact ⟨fun x hx => (by cases hx), fun m _ => rfl⟩
  | cons y l ih =>
    rw [List.map_cons, List.nodup_cons] at hl
    obtain ⟨mem, other⟩ := ih hl.2 (f s y) (keep s y hs)
    refine ⟨fun x hx => ?_, fun m hm => ?_⟩
    · rcases List.mem_cons.1 hx with rfl | hx
      · rw [List.foldl_cons, other _ hl.1, one s x _ hs, if_pos rfl]
      · have ne : key x ≠ key y := fun h => hl.1 (h ▸ List.mem_map_of_mem hx)
        rw [List.foldl_cons, mem x hx, one s y _ hs, if_neg ne]
    · rw [List.map_cons, List.mem_cons, not_or] at hm
      rw [List.foldl_cons, other m hm.2, one s y _ hs, if_neg hm.1]

/-- A property that every update of a fold keeps. -/
theorem foldl_keeps {σ α : Type} {f : σ → α → σ} {P : σ → Prop} (l : List α) (h : ∀ s, ∀ x ∈ l, P s → P (f s x)) (s : σ)
    (hs : P s) : P (l.foldl f s) := by
  induction l generalizing s with
  | nil => exact hs
  | cons x l ih => exact ih (fun s y hy => h s y (List.mem_cons_of_mem _ hy)) _ (h s x List.mem_cons_self hs)

/-! ### The recorded slots -/

/-- A list maps to different values where its two parts do, and no value is in both. -/
theorem nodup_map_of_filters {α β : Type} (p : α → Bool) (f : α → β) (l : List α) (h₁ : ((l.filter p).map f).Nodup)
    (h₂ : ((l.filter fun x => !p x).map f).Nodup)
    (h : ∀ x ∈ l.filter p, ∀ y ∈ l.filter fun x => !p x, f x ≠ f y) : (l.map f).Nodup := by
  refine ((List.filter_append_perm p l).map f).nodup_iff.1 ?_
  rw [List.map_append]
  refine List.nodup_append'.2 ⟨h₁, h₂, fun z hz hz' => ?_⟩
  obtain ⟨x, hx, rfl⟩ := List.mem_map.1 hz
  obtain ⟨y, hy, hxy⟩ := List.mem_map.1 hz'
  exact h x hx y hy hxy.symm

/-- No two records of a locked batch are for one slot (R14, R24). -/
theorem State.runs.records_nodup (hs : s.runs) (hl : s.batch.isLocked = true) :
    (s.batch.records.map (·.slot)).Nodup := by
  have recorded : s.batch.records.map (·.slot) = s.batch.recorded.map (·.2.slot) := by
    unfold Batch.recorded
    have zip := List.map_snd_zip (Nat.le_of_eq (hs.batch.recorded hl))
    conv_lhs => rw [← zip]
    rw [List.map_map]
    rfl
  have claims : ((s.batch.recorded.filter fun x => x.1.isInsert).map (·.2.slot)).Nodup := by
    have h := hs.directory.claimsApart.1
    rw [State.claims_eq, List.map_append] at h
    have h' := (List.nodup_append'.1 h).2.1
    unfold Batch.claims at h'
    rw [if_pos hl, List.map_map] at h'
    exact h'
  have locked : (s.batch.recorded.filter fun x => !x.1.isInsert).map (·.2.slot) = s.batch.subjects := by
    unfold Batch.subjects
    rw [if_pos hl]
    rfl
  rw [recorded]
  refine nodup_map_of_filters (fun x : Item × ItemRecord => x.1.isInsert) _ _ claims ?_ fun x hx y hy hxy => ?_
  · rw [locked]
    have h := hs.subjects.apart
    rw [State.subjects_eq] at h
    exact (List.nodup_append'.1 h).2.1
  · obtain ⟨hxm, hxi⟩ := List.mem_filter.1 hx
    have subject : y.2.slot ∈ s.subjects :=
      State.mem_subjects.2 (.inr (locked ▸ List.mem_map_of_mem (f := fun x : Item × ItemRecord => x.2.slot) hy))
    have claim := (State.recorded_slot hl (x := x.1) (r := x.2) hxm).2 hxi
    exact hs.subject_ne_claim subject (State.mem_claims.2 (.inr claim)) hxy

/-- Records of one slot have one index. -/
theorem State.runs.record_index (hs : s.runs) (hl : s.batch.isLocked = true) {i j : Nat} {r r' : ItemRecord}
    (hi : s.batch.records[i]? = some r) (hj : s.batch.records[j]? = some r') (h : r.slot = r'.slot) : i = j := by
  obtain ⟨hi', rfl⟩ := List.getElem?_eq_some_iff.1 hi
  obtain ⟨hj', rfl⟩ := List.getElem?_eq_some_iff.1 hj
  have hin : i < (s.batch.records.map (·.slot)).length := by rwa [List.length_map]
  have hjn : j < (s.batch.records.map (·.slot)).length := by rwa [List.length_map]
  refine (hs.records_nodup hl).getElem_inj_iff (hi := hin) (hj := hjn) |>.1 ?_
  rw [List.getElem_map, List.getElem_map]
  exact h

/-- A record of a locked batch stands beside an item. -/
theorem State.runs.item_of_record (hs : s.runs) (hl : s.batch.isLocked = true) {i : Nat} {r : ItemRecord}
    (hr : s.batch.records[i]? = some r) : ∃ x, s.batch.items[i]? = some x := by
  have hi := (List.getElem?_eq_some_iff.1 hr).1
  rw [hs.batch.recorded hl] at hi
  exact ⟨_, List.getElem?_eq_getElem hi⟩

/-! ### A stage write completed with OK (R152) -/

theorem State.runs.tableSound_staged (hs : s.runs) {i n : Nat} {x : Entry}
    (hc : s.commits = ⟨c :: rest, some (.writeStaged n x)⟩) (hch : c.change = .stageItem i n) (k : Nat) :
    ((s.ended rest ((Work.writeStaged n x).complete .ok s.store)).setBatch { s.batch with staged := k }).tableSound := by
  have off : ∀ m, ¬ s.touched c.change m := by
    rintro m (h | ⟨y, hy, -⟩)
    · rw [hch] at h; cases h
    · rw [hch] at hy; cases hy
  have slot : ∀ m, ((Work.writeStaged n x).complete .ok s.store).slot m =
      if m = n then { s.store.slot n with staged := some x } else s.store.slot m := fun m => Store.slot_setSlot _ _ _ _
  have completes : s.completes ((s.ended rest ((Work.writeStaged n x).complete .ok s.store)).setBatch
      { s.batch with staged := k }) c rest :=
    { commits := rfl
      scan := id
      slots := fun _ _ => rfl
      stored := fun m _ => by
        rw [State.setBatch_store, State.ended_store, slot]
        split
        · rename_i h; rw [h]; exact ⟨rfl, rfl, rfl⟩
        · exact ⟨rfl, rfl, rfl⟩
      holds := fun _ _ => ⟨rfl, rfl⟩
      places := fun _ _ hl _ => hl
      due := fun _ _ => Iff.rfl }
  have feed : s.batch.sameFeed ({ s.batch with staged := k } : Batch) := ⟨⟨rfl, rfl, rfl⟩, rfl, rfl⟩
  refine (completes.endsOn hs hc feed.tosamePlan).tableSound
    { store := Work.sound_complete (.writeStaged n x) .ok hs.store (hs.works _ (by rw [hc]))
      unmarked := Work.unmarked_complete (.writeStaged n x) .ok hs.unmarked
      images := fun m hm => absurd hm (off m)
      unreserved := fun m hm => absurd hm (off m)
      spill := State.spillSound_congr (s := s) rfl (fun _ => rfl) hs.directory.spill
      known := fun m _ hm => absurd hm (off m)
      live := hs.holds.lie
      within := fun m _ _ hm => absurd hm (off m)
      due := fun m hm => absurd hm (off m) } hs (completes.batchSound hs hc feed ?_) ?_
  · intro j y r hy hr hl hneed hfed hrest
    rw [State.setBatch_store, State.ended_store, slot]
    obtain ⟨-, -, hrec⟩ := hs.batch.stageWrites c (by rw [hc]; exact List.mem_cons_self) i n hch
    by_cases hn : r.slot = n
    · have hij : j = i := hs.record_index hl hr hrec hn
      obtain ⟨z, hz, hx⟩ := (hs.workAgrees hc).stages i n x hch rfl
      rw [hij] at hy
      rw [hy] at hz
      cases hz
      rw [if_pos hn, hn]
      exact hx.symm
    · rw [if_neg hn]
      refine (hs.batch.stagedItems hl j y r hy hr).2 hneed hfed fun d hd => ?_
      rw [hc] at hd
      rcases List.mem_cons.1 hd with rfl | hd
      · rw [hch]; intro h; cases h; exact hn rfl
      · exact hrest d hd
  · intro d hd hp
    exact (hs.once.2 d (by rw [hc]; exact List.mem_cons_of_mem _ hd) hp hs.phase).1

/-! ### The end of a batch -/

/-- The slots that a batch has recorded. -/
def Batch.names (b : Batch) (n : Nat) : Prop := ∃ (i : Nat) (r : ItemRecord), b.records[i]? = some r ∧ r.slot = n

theorem State.runs.names_iff (hs : s.runs) (hl : s.batch.isLocked = true) (n : Nat) :
    s.batch.names n ↔ n ∈ s.batch.subjects ∨ ∃ y ∈ s.batch.claims, y.1 = n := by
  constructor
  · rintro ⟨i, r, hr, rfl⟩
    obtain ⟨x, hx⟩ := hs.item_of_record hl hr
    have h := State.recorded_slot hl (Batch.mem_recorded.2 ⟨i, hx, hr⟩)
    cases hi : x.isInsert with
    | false => exact .inl (h.1 hi)
    | true => exact .inr ⟨_, h.2 hi, rfl⟩
  · rintro (h | ⟨y, hy, rfl⟩)
    · obtain ⟨x, r, hm, -, rfl⟩ := Batch.mem_lockedSlots.1 (Batch.mem_subjects.1 h).2
      obtain ⟨i, -, hr⟩ := Batch.mem_recorded.1 hm
      exact ⟨i, r, hr, rfl⟩
    · obtain ⟨-, x, r, hm, -, rfl⟩ := Batch.mem_claims.1 hy
      obtain ⟨i, -, hr⟩ := Batch.mem_recorded.1 hm
      exact ⟨i, r, hr, rfl⟩

/-- A commit of the batch has neither subject nor claim of its own. -/
theorem Commit.of_batch {d : Commit} (hf : d.originFits) (ho : d.origin = .batch) (s : State) :
    d.change.subject = none ∧ s.claimOf d.change = none := by
  obtain ⟨ch, o⟩ := d
  cases ho
  cases ch <;> simp_all [Commit.originFits, Change.subject, State.claimOf]

/-- What stands for the end of a batch: its commits have left the queue, no plan is left, and slots other than those it had
recorded are untouched. -/
structure State.endsBatch (s t : State) : Prop where
  work : t.commits.work = none
  queue : t.commits.queue.Sublist s.commits.queue
  subjects : t.commits.queue.filterMap (fun d => d.change.subject) = s.commits.queue.filterMap (fun d => d.change.subject)
  claims : t.commits.queue.filterMap (fun d => s.claimOf d.change) = s.commits.queue.filterMap (fun d => s.claimOf d.change)
  kept : ∀ d ∈ s.commits.queue, d ∈ t.commits.queue ∨ d.change.subject = none
  unlocked : t.batch.isLocked = false
  records : t.batch.records = []
  slots : ∀ n, ¬ s.batch.names n → t.slot n = s.slot n
  stored : ∀ n, ¬ s.batch.names n → (t.store.slot n).image = (s.store.slot n).image ∧
    (t.store.slot n).worn = (s.store.slot n).worn ∧ (t.store.slot n).retireMark = (s.store.slot n).retireMark
  holds : t.holds = s.holds
  due : ∀ n, ¬ s.batch.names n → (n ∈ t.engine.clearDue ↔ n ∈ s.engine.clearDue)

/-- What a single commit is for, the batch has not recorded. -/
theorem State.runs.unnamed (hs : s.runs) (hl : s.batch.isLocked = true) :
    (∀ n ∈ s.commits.queue.filterMap (fun d => d.change.subject), ¬ s.batch.names n) ∧
      ∀ y ∈ s.commits.queue.filterMap (fun d => s.claimOf d.change), ¬ s.batch.names y.1 := by
  have subjects := hs.subjects.apart
  rw [State.subjects_eq] at subjects
  have claims := hs.directory.claimsApart.1
  rw [State.claims_eq, List.map_append] at claims
  constructor
  · intro n hn hN
    rcases (hs.names_iff hl n).1 hN with h | ⟨y, hy, rfl⟩
    · exact (List.nodup_append'.1 subjects).2.2 hn h
    · exact hs.subject_ne_claim (s := s) (n := y.1) (by rw [State.subjects_eq]; exact List.mem_append_left _ hn)
        (by rw [State.claims_eq]; exact List.mem_append_right _ hy) rfl
  · intro y hy hN
    have queued : y ∈ s.claims := by rw [State.claims_eq]; exact List.mem_append_left _ hy
    rcases (hs.names_iff hl y.1).1 hN with h | ⟨z, hz, hzy⟩
    · exact hs.subject_ne_claim (State.mem_subjects.2 (.inr h)) queued rfl
    · exact (List.nodup_append'.1 claims).2.2 (List.mem_map_of_mem hy) (hzy ▸ List.mem_map_of_mem hz)

theorem State.endsBatch.endsOn (h : s.endsBatch t) (hs : s.runs) (hl : s.batch.isLocked = true) :
    s.endsOn t s.batch.names := by
  obtain ⟨offS, offC⟩ := hs.unnamed hl
  have claims : t.claims = s.commits.queue.filterMap (fun d => s.claimOf d.change) := by
    rw [State.claims_eq, Batch.claims_of_unlocked h.unlocked, List.append_nil, ← h.claims]
    refine List.filterMap_congr fun d hd => State.claimOf_congr fun n hn => ?_
    rw [State.entryAt_congr (h.slots n (offS n (List.mem_filterMap.2 ⟨d, h.queue.subset hd, hn⟩)))]
  have subjects : t.subjects = s.commits.queue.filterMap (fun d => d.change.subject) := by
    rw [State.subjects_eq, Batch.subjects_of_unlocked h.unlocked, List.append_nil, h.subjects]
  exact
    { work := h.work
      queue := h.queue
      kept := fun d hd => (h.kept d hd).imp_right fun hn n hn' => by rw [hn] at hn'; cases hn'
      locked := fun n hn => by
        unfold Batch.lockedSlots Batch.recorded at hn
        rw [h.records, List.zip_nil_right] at hn
        cases hn
      claims := by rw [claims, State.claims_eq]; exact List.sublist_append_left _ _
      claimsKept := fun y hy hn => by
        rw [State.claims_eq] at hy
        rw [claims]
        rcases List.mem_append.1 hy with hy | hy
        · exact hy
        · exact absurd ((hs.names_iff hl _).2 (.inr ⟨y, hy, rfl⟩)) hn
      claimsOff := by rw [claims]; exact offC
      subjects := by rw [subjects, State.subjects_eq]; exact List.sublist_append_left _ _
      subjectsOff := by rw [subjects]; exact offS
      slots := h.slots
      stored := h.stored
      holds := fun n _ => State.holds_congr (fun p => by rw [State.place_congr h.holds]) n
      places := fun p x hx _ => by rw [State.place_congr h.holds]; exact hx
      due := h.due }

/-- An entry that a locked batch names is not queued for a clear (R23). -/
theorem State.runs.due_of_named (hs : s.runs) (hl : s.batch.isLocked = true) {n : Nat} (hn : s.batch.names n) :
    n ∈ s.engine.clearDue ↔ s.slotRetiring n = true ∧ s.openHolds n = 0 := by
  have unqueued : s.clearQueued n = false := by
    rw [← Bool.not_eq_true, State.clearQueued_iff]
    rintro ⟨d, hd, hdn⟩
    exact (hs.unnamed hl).1 n (List.mem_filterMap.2 ⟨d, hd, by rw [hdn]; rfl⟩) hn
  have := hs.holds.clearing n
  rw [unqueued] at this
  simpa using this

/-- A batch that is not locked, with none of its commits queued, is sound where its items are (R141). -/
theorem State.batchSound_of_unlocked (hb : t.batch.isLocked = false) (apart : (t.batch.items.map Item.id).Nodup)
    (fresh : ∀ e, .insert e ∈ t.batch.items → e.state ≠ .retiring)
    (fedWhole : t.batch.promoteFed = true → t.batch.records.length ≤ t.batch.fed)
    (stage : ∀ d ∈ t.commits.queue, ∀ i n, d.change ≠ .stageItem i n) : t.batchSound where
  apart := apart
  fresh := fresh
  noScan h := by rw [hb] at h; cases h
  recorded h := by rw [hb] at h; cases h
  named h := by rw [hb] at h; cases h
  stagedItems h := by rw [hb] at h; cases h
  fedWhole := fedWhole
  stageWrites d hd i n h := absurd h (stage d hd i n)
  order front d back hq _ e he := stage e (by rw [hq]; exact List.mem_append_right _ (List.mem_cons_of_mem _ he))

/-! ### A stage write completed with FAULT (R153) -/

theorem State.releaseSlot_foldl (l : List Nat) (s : State) :
    (∀ m, (l.foldl State.releaseSlot s).slot m = if m ∈ l then { s.slot m with content := .free } else s.slot m) ∧
      (l.foldl State.releaseSlot s) = { s with engine := { s.engine with slots := (l.foldl State.releaseSlot s).engine.slots } } := by
  induction l generalizing s with
  | nil => exact ⟨fun m => by simp, rfl⟩
  | cons n l ih =>
    obtain ⟨slot, frame⟩ := ih (s.releaseSlot n)
    refine ⟨fun m => ?_, frame⟩
    rw [List.foldl_cons, slot]
    unfold State.releaseSlot
    simp only [State.slot_setSlot, List.mem_cons]
    by_cases hm : m = n
    · subst hm; simp
    · simp [hm]

/-- What the slots read after the wear mark is set and reservations are released (R109, R153). -/
theorem State.slot_releaseSlot_wearSlot (s : State) (l : List Nat) (n m : Nat) :
    (l.foldl State.releaseSlot (s.wearSlot n)).slot m =
      ⟨if m ∈ l then .free else (s.slot m).content, (s.slot m).worn || decide (m = n), (s.slot m).retireMark⟩ := by
  have worn : (s.wearSlot n).slot m = ⟨(s.slot m).content, (s.slot m).worn || decide (m = n), (s.slot m).retireMark⟩ := by
    unfold State.wearSlot
    rw [State.slot_setSlot]
    by_cases h : m = n
    · simp [h]
    · simp [h]
  rw [(State.releaseSlot_foldl _ _).1, worn]
  by_cases h : m ∈ l
  · rw [if_pos h, if_pos h]
  · rw [if_neg h, if_neg h]

/-- A commit of another origin than the batch is neither a stage write nor a PROMOTE (Table 6-1). -/
theorem Commit.not_of_batch {d : Commit} (hf : d.originFits) (ho : d.origin ≠ .batch) :
    (∀ i n, d.change ≠ .stageItem i n) ∧ d.change ≠ .promoteBatch := by
  unfold Commit.originFits at hf
  refine ⟨fun i n h => ?_, fun h => ?_⟩ <;> rw [h] at hf <;> exact ho hf

/-- The commits that stay when those of a batch leave the queue. -/
def notOfBatch (l : List Commit) : List Commit := l.filter fun d => !(decide (d.origin = .batch))

theorem mem_notOfBatch {d : Commit} {l : List Commit} : d ∈ notOfBatch l ↔ d ∈ l ∧ d.origin ≠ .batch := by
  simp [notOfBatch]

/-- What the commits of a batch have no part in is read off the others. -/
theorem filterMap_notOfBatch {α : Type} (f : Commit → Option α) (l : List Commit)
    (hf : ∀ d ∈ l, d.origin = .batch → f d = none) : (notOfBatch l).filterMap f = l.filterMap f := by
  unfold notOfBatch
  rw [List.filterMap_filter]
  refine List.filterMap_congr fun d hd => ?_
  by_cases ho : d.origin = .batch
  · simp [ho, hf d hd ho]
  · simp [ho]

/-- The state after a stage write for slot `n` has failed: the batch's commits, reservations and plan are gone, slot `n` is
WORN, and the staging positions are empty (R109, R153). -/
structure State.abandons (s t : State) (n : Nat) : Prop where
  commits : t.commits = ⟨notOfBatch s.commits.queue, none⟩
  store : t.store = (s.store.wear n).discardStaged
  holds : t.holds = s.holds
  due : t.engine.clearDue = s.engine.clearDue
  spill : t.engine.spillCounts = s.engine.spillCounts
  slot : ∀ m, t.slot m = ⟨if m ∈ s.batch.reservedSlots then .free else (s.slot m).content,
    (s.slot m).worn || decide (m = n), (s.slot m).retireMark⟩
  unlocked : t.batch.isLocked = false
  records : t.batch.records = []
  items : t.batch.items = s.batch.items

theorem State.abandons.entryAt {n : Nat} (h : s.abandons t n) (hs : s.runs) (hl : s.batch.isLocked = true) (m : Nat) :
    t.entryAt m = s.entryAt m := by
  unfold State.entryAt
  rw [h.slot]
  simp only
  split
  · rename_i hm
    obtain ⟨⟨y, r⟩, hy, rfl⟩ := List.mem_map.1 hm
    obtain ⟨hm, hi⟩ := List.mem_filter.1 hy
    exact (hs.directory.claims.no_entry (State.mem_claims.2 (.inr ((State.recorded_slot hl hm).2 hi)))).symm
  · rfl

theorem State.abandons.stored {n : Nat} (h : s.abandons t n) (m : Nat) :
    (t.store.slot m).image = (s.store.slot m).image ∧ (t.store.slot m).worn = ((s.store.slot m).worn || decide (m = n)) ∧
      (t.store.slot m).retireMark = (s.store.slot m).retireMark := by
  obtain ⟨y, hy⟩ := (s.store.wear n).slot_discardStaged m
  rw [h.store, hy, Store.slot_wear]
  by_cases hm : m = n
  · simp [hm]
  · simp [hm]

theorem State.abandons.endsBatch {n : Nat} (h : s.abandons t n) (hs : s.runs) (hn : s.batch.names n) : s.endsBatch t := by
  have ofBatch : ∀ d ∈ s.commits.queue, d.origin = .batch → d.change.subject = none ∧ s.claimOf d.change = none :=
    fun d hd ho => Commit.of_batch (hs.formed.1 d hd).1 ho s
  have off : ∀ {m}, ¬ s.batch.names m → m ≠ n := fun hm hmn => hm (hmn ▸ hn)
  exact
    { work := by rw [h.commits]
      queue := by rw [h.commits]; exact List.filter_sublist
      subjects := by
        rw [h.commits]
        exact filterMap_notOfBatch _ _ fun d hd ho => (ofBatch d hd ho).1
      claims := by
        rw [h.commits]
        exact filterMap_notOfBatch _ _ fun d hd ho => (ofBatch d hd ho).2
      kept := fun d hd => by
        by_cases ho : d.origin = .batch
        · exact .inr (ofBatch d hd ho).1
        · rw [h.commits]
          exact .inl (mem_notOfBatch.2 ⟨hd, ho⟩)
      unlocked := h.unlocked
      records := h.records
      slots := fun m hm => by
        have hr : m ∉ s.batch.reservedSlots := fun hr => by
          obtain ⟨⟨y, r⟩, hy, rfl⟩ := List.mem_map.1 hr
          obtain ⟨j, -, hj⟩ := Batch.mem_recorded.1 (List.mem_filter.1 hy).1
          exact hm ⟨j, r, hj, rfl⟩
        rw [h.slot, if_neg hr, decide_eq_false (off hm), Bool.or_false]
      stored := fun m hm => by
        rw [(h.stored m).1, (h.stored m).2.1, (h.stored m).2.2, decide_eq_false (off hm), Bool.or_false]
        exact ⟨rfl, rfl, rfl⟩
      holds := h.holds
      due := fun m _ => by rw [h.due] }

theorem State.abandons.endsWell {n : Nat} (h : s.abandons t n) (hs : s.runs) (hl : s.batch.isLocked = true) (x : Entry) :
    s.endsWell t s.batch.names := by
  have entry := h.entryAt hs hl
  have counts := fun m => State.holds_congr (t := t) (s := s) (fun p => by rw [State.place_congr h.holds]) m
  exact
    { store := by
        rw [h.store]
        exact Work.sound_faulted (.writeStaged n x) hs.store
      unmarked := fun m => by
        rw [h.store]
        exact ((Work.slot_faulted (.writeStaged n x) s.store m).2.1).trans (hs.unmarked m)
      images := fun m _ => by
        obtain ⟨h1, h2, h3⟩ := hs.directory.images m
        rw [entry, h.slot, (h.stored m).1, (h.stored m).2.1, (h.stored m).2.2, ← h1, ← h2, ← h3]
        exact ⟨rfl, rfl, rfl⟩
      unreserved := fun m hm id y hr => by
        rw [h.slot] at hr
        simp only at hr
        split at hr
        · cases hr
        · rename_i hmr
          rcases (hs.names_iff hl m).1 hm with hm | ⟨z, hz, rfl⟩
          · obtain ⟨e, he⟩ := hs.subjects.lie m (State.mem_subjects.2 (.inr hm))
            rw [State.entryAt_of_reserved hr] at he
            cases he
          · obtain ⟨-, y, r, hy, hi, rfl⟩ := Batch.mem_claims.1 hz
            exact hmr (List.mem_map.2 ⟨(y, r), List.mem_filter.2 ⟨hy, hi⟩, rfl⟩)
      spill := State.spillSound_congr h.spill (fun m => congrArg _ (entry m)) hs.directory.spill
      known := fun m e _ he => .inl ⟨m, e, (entry m).symm.trans he, rfl⟩
      live := fun p y hy => by
        rw [State.place_congr h.holds] at hy
        rw [entry]
        exact hs.holds.lie p y hy
      within := fun m e b _ he hb => by
        rw [(counts m).2]
        exact hs.holds.within m e b ((entry m).symm.trans he) hb
      due := fun m hm => by
        rw [h.due, (counts m).1, State.slotRetiring_of_entry (entry m) (by rw [h.slot])]
        exact hs.due_of_named hl hm }

theorem State.abandons.tableSound {n : Nat} (h : s.abandons t n) (hs : s.runs) (hl : s.batch.isLocked = true)
    (hn : s.batch.names n) (x : Entry) : t.tableSound := by
  have others : ∀ d ∈ t.commits.queue, (∀ i n, d.change ≠ .stageItem i n) ∧ d.change ≠ .promoteBatch := fun d hd => by
    rw [h.commits] at hd
    obtain ⟨hd, ho⟩ := mem_notOfBatch.1 hd
    exact Commit.not_of_batch (hs.formed.1 d hd).1 ho
  exact ((h.endsBatch hs hn).endsOn hs hl).tableSound (h.endsWell hs hl x) hs
    (State.batchSound_of_unlocked h.unlocked (by rw [h.items]; exact hs.batch.apart) (by rw [h.items]; exact hs.batch.fresh)
      (fun _ => by rw [h.records]; exact Nat.zero_le _) fun d hd => (others d hd).1) fun d hd hp => absurd hp (others d hd).2

/-- A stage write's fault abandons the batch (R153). -/
theorem State.runs.tableSound_abandonBatch (hs : s.runs) {i n : Nat} {x : Entry}
    (hc : s.commits = ⟨c :: rest, some (.writeStaged n x)⟩) (hch : c.change = .stageItem i n) :
    ((s.ended rest ((Work.writeStaged n x).complete .fault s.store)).abandonBatch i n).tableSound := by
  have queued : c ∈ s.commits.queue := by rw [hc]; exact List.mem_cons_self
  obtain ⟨hl, -, hrec⟩ := hs.batch.stageWrites c queued i n hch
  have origin : c.origin = .batch := by
    have fits := (hs.formed.1 c queued).1
    unfold Commit.originFits at fits
    rwa [hch] at fits
  have head : notOfBatch s.commits.queue = notOfBatch rest := by
    rw [hc]
    simp [notOfBatch, origin]
  unfold State.abandonBatch
  refine (State.sameTable_fillReserved _ _ _ _ _ _).tableSound ?_
  obtain ⟨-, frame⟩ := State.releaseSlot_foldl s.batch.reservedSlots
    ((s.ended rest ((Work.writeStaged n x).complete .fault s.store)).removeBatchCommits.wearSlot n)
  have released : ∀ b : Batch, b.isLocked = false → b.records = [] → b.items = s.batch.items →
      s.abandons ((s.batch.reservedSlots.foldl State.releaseSlot
        ((s.ended rest ((Work.writeStaged n x).complete .fault s.store)).removeBatchCommits.wearSlot n)).setBatch b) n :=
    fun b hb hr hi =>
      { commits := by rw [head, State.setBatch_commits, frame]; rfl
        store := by rw [State.setBatch_store, frame]; rfl
        holds := by rw [State.setBatch_holds, frame]; rfl
        due := by rw [State.setBatch_engine, frame]; rfl
        spill := by rw [State.setBatch_engine, frame]; rfl
        slot := fun m => State.slot_releaseSlot_wearSlot _ _ _ m
        unlocked := hb
        records := hr
        items := hi }
  refine State.abandons.tableSound (released _ ?_ ?_ ?_) hs hl ⟨i, _, hrec, rfl⟩ x <;> rfl

end Sys2Proof.Machine
end

section
/-! The completion of a batch's PROMOTE (R154): every item applied in one change, slot by slot. -/

namespace Sys2Proof.Machine

variable {s t : State} {c : Commit} {rest : List Commit}

/-! ### One item -/

/-- The image that an item makes of the image of its entry; an INSERT brings its own (Table 8-4). -/
def Item.rewrite : Item → Entry → Entry
  | .insert image, _ => image
  | .modify _ _ f, e => e.modified f
  | .topUp _ amount, e => e.toppedUp amount
  | .bar _ _, e => e.withState .barred
  | .unbar _ _, e => e.withState .active
  | .retire _ _, e => e.withState .retiring

theorem State.stagedImage_of_insert (s : State) (n : Nat) (image : Entry) :
    s.stagedImage n (.insert image) = some image := rfl

theorem State.stagedImage_of_named (s : State) (n : Nat) {y : Item} (hy : y.isInsert = false) :
    s.stagedImage n y = (s.entryAt n).map y.rewrite := by
  cases y with
  | insert image => cases hy
  | _ => rfl

theorem Item.rewrite_id {y : Item} (hy : y.isInsert = false) (e : Entry) : (y.rewrite e).id = e.id := by
  cases y with
  | insert image => cases hy
  | _ => rfl

/-- An item makes its entry RETIRING exactly where it is a RETIRE (R154). -/
theorem Item.rewrite_state {y : Item} (hy : y.isInsert = false) {e : Entry} (he : e.state ≠ .retiring) :
    (y.rewrite e).state = .retiring ↔ y.isRetire = true := by
  cases y with
  | insert image => cases hy
  | modify id x f => exact iff_of_false he nofun
  | topUp id a => exact iff_of_false he nofun
  | bar id x => exact iff_of_false (by simp [Item.rewrite, Entry.withState, Entry.revised]) nofun
  | unbar id x => exact iff_of_false (by simp [Item.rewrite, Entry.withState, Entry.revised]) nofun
  | retire id x => exact iff_of_true rfl rfl

/-- What a slot holds after an item was promoted in it (R154). -/
def promotedContent (y : Item) : SlotContent → SlotContent
  | .occupied e => .occupied (y.rewrite e)
  | .free => match y with
    | .insert image => .occupied image
    | _ => .free
  | .reserved id x => match y with
    | .insert image => .occupied image
    | _ => .reserved id x

/-- What the working directory reads for a slot after an item was promoted in it (R154). -/
def promotedSlot (x : Item × Nat × Promotion) (w : WorkingSlot) : WorkingSlot :=
  if x.1.isRetire = true then
    match x.2.2 with
    | .clear => ⟨.free, w.worn, false⟩
    | .mark => { w with retireMark := true }
    | .makeCurrent => { w with content := promotedContent x.1 w.content }
  else { w with content := promotedContent x.1 w.content }

theorem State.slot_mapEntry (s : State) (n : Nat) {y : Item} (hy : y.isInsert = false) (m : Nat) :
    (s.mapEntry n y.rewrite).slot m = if m = n then { s.slot n with content := promotedContent y (s.slot n).content }
      else s.slot m := by
  unfold State.mapEntry
  cases hc : (s.slot n).content with
  | occupied e =>
    have he : s.entryAt n = some e := State.entryAt_eq_some.2 hc
    rw [he]
    exact State.slot_setSlot _ _ _ _
  | free =>
    have he : s.entryAt n = none := by unfold State.entryAt; rw [hc]; rfl
    have same : promotedContent y .free = .free := by
      cases y with
      | insert image => cases hy
      | _ => rfl
    rw [he, same]
    change s.slot m = _
    split
    · rename_i h; rw [h, ← hc]
    · rfl
  | reserved id x =>
    have he : s.entryAt n = none := State.entryAt_of_reserved hc
    have same : promotedContent y (.reserved id x) = .reserved id x := by
      cases y with
      | insert image => cases hy
      | _ => rfl
    rw [he, same]
    change s.slot m = _
    split
    · rename_i h; rw [h, ← hc]
    · rfl

/-- A promoted item rewrites its own slot (R154). -/
theorem State.slot_promoteItem (s : State) (x : Item × Nat × Promotion) (m : Nat) :
    (s.promoteItem x).slot m = if m = x.2.1 then promotedSlot x (s.slot m) else s.slot m := by
  obtain ⟨y, n, u⟩ := x
  have named : ∀ {y : Item}, y.isInsert = false → (s.mapEntry n y.rewrite).slot m
      = if m = n then { s.slot m with content := promotedContent y (s.slot m).content } else s.slot m := fun hy => by
    rw [s.slot_mapEntry n hy]
    split
    · rename_i h; rw [h]
    · rfl
  cases y with
  | insert image =>
    refine (State.slot_occupySlot _ _ _ _).trans ?_
    split
    · rename_i h
      rw [h]
      simp only [promotedSlot, Item.isRetire, Bool.false_eq_true, if_false]
      cases (s.slot n).content <;> rfl
    · rfl
  | retire id k =>
    cases u with
    | clear =>
      refine (State.slot_clearSlot _ _ _).trans ?_
      split
      · rename_i h; rw [h]; rfl
      · rfl
    | mark =>
      refine (State.settleRetiring_slot _ _ _).trans ((State.slot_setSlot _ _ _ _).trans ?_)
      split
      · rename_i h; rw [h]; rfl
      · rfl
    | makeCurrent => exact (State.settleRetiring_slot _ _ _).trans (named (y := .retire id k) rfl)
  | modify id k f => exact named (y := .modify id k f) rfl
  | topUp id a => exact named (y := .topUp id a) rfl
  | bar id k => exact named (y := .bar id k) rfl
  | unbar id k => exact named (y := .unbar id k) rfl

theorem State.touchesOnly_mapEntry {N : Nat → Prop} (s : State) {n : Nat} (f : Entry → Entry) (hn : N n) :
    s.touchesOnly (s.mapEntry n f) N := by
  unfold State.mapEntry
  split
  · exact s.touchesOnly_setEntry _ hn
  · exact .refl _ _

theorem State.touchesOnly_promoteItem {N : Nat → Prop} (s : State) {x : Item × Nat × Promotion} (hn : N x.2.1) :
    s.touchesOnly (s.promoteItem x) N := by
  obtain ⟨y, n, u⟩ := x
  cases y with
  | insert image => exact s.touchesOnly_occupySlot _ hn
  | retire id k =>
    cases u with
    | clear => exact s.touchesOnly_clearSlot hn
    | mark => exact (s.touchesOnly_setSlot _ hn).trans (State.touchesOnly_settleRetiring _ hn)
    | makeCurrent => exact (s.touchesOnly_mapEntry _ hn).trans (State.touchesOnly_settleRetiring _ hn)
  | _ => exact s.touchesOnly_mapEntry _ hn

theorem State.mapEntry_frame (s : State) (n : Nat) (f : Entry → Entry) : (s.mapEntry n f).holds = s.holds ∧
    (s.mapEntry n f).engine.clearDue = s.engine.clearDue := by
  unfold State.mapEntry; split <;> exact ⟨rfl, rfl⟩

theorem State.promoteItem_holds (s : State) (x : Item × Nat × Promotion) : (s.promoteItem x).holds = s.holds := by
  have settle : ∀ (u : State) (n : Nat), (u.settleRetiring n).holds = u.holds := fun u n => by
    unfold State.settleRetiring; split <;> rfl
  obtain ⟨y, n, u⟩ := x
  cases y with
  | insert image => exact s.occupySlot_holds _ _
  | retire id k =>
    cases u with
    | clear => exact s.clearSlot_holds _
    | mark => exact settle _ _
    | makeCurrent => exact (settle _ _).trans (s.mapEntry_frame _ _).1
  | _ => exact (s.mapEntry_frame _ _).1

/-- Only a RETIRE that leaves its entry without open hold RETIRING puts it on the clear-due list (R114). -/
theorem State.mem_clearDue_promoteItem (s : State) (x : Item × Nat × Promotion) (m : Nat) :
    m ∈ (s.promoteItem x).engine.clearDue ↔
      if m = x.2.1 then m ∈ s.engine.clearDue ∨ (x.1.isRetire = true ∧ x.2.2 ≠ .clear ∧ s.openHolds m = 0)
      else m ∈ s.engine.clearDue := by
  by_cases hm : m = x.2.1
  · rw [if_pos hm]
    subst hm
    obtain ⟨y, n, u⟩ := x
    cases y with
    | insert image =>
      change n ∈ (s.occupySlot n image).engine.clearDue ↔ _
      rw [State.occupySlot_clearDue]
      simp [Item.isRetire]
    | retire id k =>
      cases u with
      | clear =>
        change n ∈ (s.clearSlot n).engine.clearDue ↔ _
        rw [State.clearSlot_clearDue]
        simp
      | mark =>
        refine (State.mem_clearDue_settleRetiring _ _).trans ?_
        change n ∈ s.engine.clearDue ∨ s.openHolds n = 0 ↔ _
        simp [Item.isRetire]
      | makeCurrent =>
        refine (State.mem_clearDue_settleRetiring _ _).trans ?_
        have frame := s.mapEntry_frame n (·.withState .retiring)
        rw [frame.2, (State.counts_congr frame.1 n).1]
        simp [Item.isRetire]
    | _ =>
      change n ∈ (s.mapEntry n _).engine.clearDue ↔ _
      rw [(s.mapEntry_frame n _).2]
      simp [Item.isRetire]
  · rw [if_neg hm]
    exact (s.touchesOnly_promoteItem (N := (· = x.2.1)) rfl).due m hm

theorem State.spillSound_mapEntry (hs : s.spillSound) (n : Nat) {y : Item} (hy : y.isInsert = false) :
    (s.mapEntry n y.rewrite).spillSound := by
  unfold State.mapEntry
  split
  · rename_i e he
    refine State.spillSound_setSlot hs ?_
    rw [he]
    exact congrArg some (Item.rewrite_id hy e)
  · exact hs

theorem State.spillSound_settleRetiring (hs : s.spillSound) (n : Nat) : (s.settleRetiring n).spillSound :=
  State.spillSound_congr (s := s) (s.settleRetiring_spillCounts n)
    (fun m => by rw [State.entryAt_congr (s.settleRetiring_slot n m)]) hs

theorem State.spillSound_promoteItem (hs : s.spillSound) {x : Item × Nat × Promotion}
    (hx : x.1.isInsert = true → s.entryAt x.2.1 = none) : (s.promoteItem x).spillSound := by
  obtain ⟨y, n, u⟩ := x
  cases y with
  | insert image => exact State.spillSound_occupySlot hs (hx rfl) image
  | retire id k =>
    cases u with
    | clear => exact State.spillSound_clearSlot hs n
    | mark => exact State.spillSound_settleRetiring (s := s.markRetiring n) (State.spillSound_setSlot hs rfl) n
    | makeCurrent =>
      exact State.spillSound_settleRetiring (State.spillSound_mapEntry hs n (y := .retire id k) rfl) n
  | modify id k f => exact State.spillSound_mapEntry hs n (y := .modify id k f) rfl
  | topUp id a => exact State.spillSound_mapEntry hs n (y := .topUp id a) rfl
  | bar id k => exact State.spillSound_mapEntry hs n (y := .bar id k) rfl
  | unbar id k => exact State.spillSound_mapEntry hs n (y := .unbar id k) rfl

/-! ### All items -/

theorem State.spillSound_promoteItems (l : List (Item × Nat × Promotion)) (hl : (l.map (·.2.1)).Nodup) (hs : s.spillSound)
    (hx : ∀ x ∈ l, x.1.isInsert = true → s.entryAt x.2.1 = none) : (l.foldl State.promoteItem s).spillSound := by
  induction l generalizing s with
  | nil => exact hs
  | cons x l ih =>
    rw [List.map_cons, List.nodup_cons] at hl
    refine ih hl.2 (State.spillSound_promoteItem hs (hx x List.mem_cons_self)) fun z hz hi => ?_
    have ne : z.2.1 ≠ x.2.1 := fun h => hl.1 (h ▸ List.mem_map_of_mem (f := fun x : Item × Nat × Promotion => x.2.1) hz)
    rw [State.entryAt_congr ((s.slot_promoteItem x z.2.1).trans (if_neg ne))]
    exact hx z (List.mem_cons_of_mem _ hz) hi

/-- What each slot reads, and whether it is on the clear-due list, after all items were promoted (R154). -/
theorem State.promoteItems_at (l : List (Item × Nat × Promotion)) (hl : (l.map (·.2.1)).Nodup) (s : State)
    {x : Item × Nat × Promotion} (hx : x ∈ l) :
    (l.foldl State.promoteItem s).slot x.2.1 = promotedSlot x (s.slot x.2.1) ∧
      (x.2.1 ∈ (l.foldl State.promoteItem s).engine.clearDue ↔
        x.2.1 ∈ s.engine.clearDue ∨ (x.1.isRetire = true ∧ x.2.2 ≠ .clear ∧ s.openHolds x.2.1 = 0)) := by
  have slots := (foldl_keyed (f := State.promoteItem) (key := fun x => x.2.1) (get := State.slot) (g := promotedSlot)
    (P := fun _ => True) (fun _ _ _ => trivial) (fun u x m _ => u.slot_promoteItem x m) l hl s trivial).1 x hx
  have lists := (foldl_keyed (f := State.promoteItem) (key := fun x => x.2.1) (get := fun u m => m ∈ u.engine.clearDue)
    (g := fun x p => p ∨ (x.1.isRetire = true ∧ x.2.2 ≠ .clear ∧ s.openHolds x.2.1 = 0))
    (P := fun u => u.holds = s.holds) (fun u x hu => (u.promoteItem_holds x).trans hu)
    (fun u x m hu => by
      rw [eq_iff_iff, State.mem_clearDue_promoteItem, (State.counts_congr hu m).1]
      split
      · rename_i h; rw [h]
      · exact Iff.rfl) l hl s rfl).1 x hx
  exact ⟨slots, iff_of_eq lists⟩

/-- What a promotion makes of the durable contents of a slot (R114). -/
def promotedDurable : Promotion → DurableSlot → DurableSlot
  | .makeCurrent, d => { d with image := d.staged, staged := none }
  | .clear, d => { d with image := none, staged := none, moveTarget := false, retireMark := false }
  | .mark, d => { d with staged := none, retireMark := true }

theorem Store.promoteSlots_at (l : List (Nat × Promotion)) (hl : (l.map (·.1)).Nodup) (st : Store) {x : Nat × Promotion}
    (hx : x ∈ l) : (l.foldl Store.promoteSlot st).slot x.1 = promotedDurable x.2 (st.slot x.1) := by
  refine (foldl_keyed (f := Store.promoteSlot) (key := fun x => x.1) (get := Store.slot)
    (g := fun x d => promotedDurable x.2 d) (P := fun _ => True) (fun _ _ _ => trivial) (fun u x m _ => ?_) l hl st
    trivial).1 x hx
  obtain ⟨n, p⟩ := x
  by_cases h : m = n
  · subst h
    rw [if_pos rfl]
    cases p <;> exact Store.slot_setSlot_self _ _ _
  · rw [if_neg h]
    cases p <;> exact (Store.slot_setSlot _ _ _ _).trans (if_neg h)

end Sys2Proof.Machine
end

section
/-! The PROMOTE leaves the table sound (R114, R154). -/

namespace Sys2Proof.Machine

variable {s t : State} {c : Commit} {rest : List Commit} {ups : List (Nat × Promotion)}

/-- What the PROMOTE in progress knows of one item: its record, the promotion decided for it, and its staged version. -/
structure State.promotes (s : State) (y : Item) (n : Nat) (u : Promotion) : Prop where
  retires : y.isRetire = false → u = .makeCurrent
  staged : u = .makeCurrent → (s.store.slot n).staged = s.stagedImage n y
  cleared : u = .clear → s.openHolds n = 0
  inserts : y.isInsert = true → (n, y.id, Holder.batchInsert) ∈ s.batch.claims
  named : y.isInsert = false → ∃ e, s.entryAt n = some e ∧ s.slotRetiring n = false
  within : ∀ id x f b, y = .modify id x f → f.balance = some (some b) → s.heldUnits n ≤ b
  fresh : ∀ e, y = .insert e → e.state ≠ .retiring
  mem : s.batch.names n

/-- The updates of the PROMOTE in progress are for the batch's records, in their order (R114). -/
theorem State.runs.promotion_slots (hs : s.runs) (hc : s.commits = ⟨c :: rest, some (.promote ups)⟩)
    (hch : c.change = .promoteBatch) : s.batch.isLocked = true ∧ s.batch.items.length = ups.length ∧
      ups.map (·.1) = s.batch.records.map (·.slot) := by
  have queued : c ∈ s.commits.queue := by rw [hc]; exact List.mem_cons_self
  have hl := (hs.once.2 c queued hch hs.phase).1
  obtain ⟨hlen, hups⟩ := (hs.workAgrees hc).promotes ups rfl
  have hrec := hs.batch.recorded hl
  refine ⟨hl, by omega, List.ext_getElem (by simp [hlen]) fun i h₁ h₂ => ?_⟩
  rw [List.length_map] at h₁ h₂
  rw [List.getElem_map, List.getElem_map]
  exact (hups i _ _ _ (List.getElem?_eq_getElem (by omega)) (List.getElem?_eq_getElem h₂)
    (List.getElem?_eq_getElem h₁)).1

/-- No commit of the batch is behind its PROMOTE (R151). -/
theorem State.runs.behind_promote (hs : s.runs) (hc : s.commits = ⟨c :: rest, some (.promote ups)⟩)
    (hch : c.change = .promoteBatch) : ∀ d ∈ rest, (∀ i n, d.change ≠ .stageItem i n) ∧ d.change ≠ .promoteBatch := by
  intro d hd
  refine ⟨hs.batch.order [] c rest (by rw [hc]; rfl) hch d hd, fun hp => ?_⟩
  have once := hs.once.1
  rw [hc, List.filter_cons, if_pos (by simp [hch]), List.length_cons] at once
  have : 0 < (rest.filter fun c => decide (c.change = .promoteBatch)).length :=
    List.length_pos_of_mem (List.mem_filter.2 ⟨hd, by simp [hp]⟩)
  omega

/-- An item whose promotion follows its record, once every stage write of the batch has ended. -/
theorem State.runs.promotes_of_record (hs : s.runs) (hl : s.batch.isLocked = true) (fed : s.batch.promoteFed = true)
    (quiet : ∀ d ∈ s.commits.queue, ∀ i n, d.change ≠ .stageItem i n) {i : Nat} {y : Item} {r : ItemRecord} {u : Promotion}
    (hy : s.batch.items[i]? = some y) (hr : s.batch.records[i]? = some r) (hcur : u = .makeCurrent → r.needsStage = true)
    (hclr : u = .clear → s.openHolds r.slot = 0) (hret : y.isRetire = false → u = .makeCurrent) :
    s.promotes y r.slot u := by
  have recorded := State.recorded_slot hl (Batch.mem_recorded.2 ⟨i, hy, hr⟩)
  obtain ⟨named, within⟩ := hs.batch.named hl i y r hy hr
  exact
    { retires := hret
      staged := fun hu => (hs.batch.stagedItems hl i y r hy hr).2 (hcur hu)
        (lt_of_lt_of_le (List.getElem?_eq_some_iff.1 hr).1 (hs.batch.fedWhole fed)) fun d hd => quiet d hd _ _
      cleared := hclr
      inserts := recorded.2
      named := fun hi => by
        obtain ⟨⟨e, he, -⟩, hliv⟩ := named hi
        exact ⟨e, he, hliv⟩
      within := within
      fresh := fun e he => hs.batch.fresh e (he ▸ List.mem_of_getElem? hy)
      mem := ⟨i, r, hr, rfl⟩ }

/-- No stage write is queued once the PROMOTE is the head of the queue (R151). -/
theorem State.runs.quiet_of_promote (hs : s.runs) {w : Option Work} (hc : s.commits = ⟨c :: rest, w⟩)
    (hch : c.change = .promoteBatch) : ∀ d ∈ s.commits.queue, ∀ i n, d.change ≠ .stageItem i n := by
  intro d hd
  rw [hc] at hd
  rcases List.mem_cons.1 hd with rfl | hd
  · rw [hch]; nofun
  · exact hs.batch.order [] c rest (by rw [hc]; rfl) hch d hd

/-- What is known of each item with its promotion. -/
theorem State.runs.promotes_of_mem (hs : s.runs) (hc : s.commits = ⟨c :: rest, some (.promote ups)⟩)
    (hch : c.change = .promoteBatch) {x : Item × Nat × Promotion} (hx : x ∈ s.batch.items.zip ups) :
    s.promotes x.1 x.2.1 x.2.2 := by
  obtain ⟨y, n, u⟩ := x
  have queued : c ∈ s.commits.queue := by rw [hc]; exact List.mem_cons_self
  obtain ⟨hl, fed⟩ := hs.once.2 c queued hch hs.phase
  obtain ⟨hlen, hups⟩ := (hs.workAgrees hc).promotes ups rfl
  obtain ⟨i, hi⟩ := List.mem_iff_getElem?.1 hx
  rw [List.getElem?_zip_eq_some] at hi
  obtain ⟨hy, hu⟩ := hi
  have hi : i < s.batch.records.length := by rw [← hlen]; exact (List.getElem?_eq_some_iff.1 hu).1
  have hr := List.getElem?_eq_getElem hi
  obtain ⟨hn, hcur, hclr, hret⟩ := hups i y _ (n, u) hy hr hu
  cases hn
  exact hs.promotes_of_record hl fed (hs.quiet_of_promote hc hch) hy hr hcur hclr hret

/-- The slots that the batch has recorded are those of its promotions. -/
theorem State.runs.mem_of_names (hs : s.runs) (hc : s.commits = ⟨c :: rest, some (.promote ups)⟩)
    (hch : c.change = .promoteBatch) {n : Nat} (hn : s.batch.names n) : ∃ x ∈ s.batch.items.zip ups, x.2.1 = n := by
  obtain ⟨-, hlen, hmap⟩ := hs.promotion_slots hc hch
  obtain ⟨i, r, hr, rfl⟩ := hn
  have hu : r.slot ∈ ups.map (·.1) := hmap ▸ List.mem_map_of_mem (List.mem_of_getElem? hr)
  obtain ⟨u, hu, hur⟩ := List.mem_map.1 hu
  obtain ⟨j, hj⟩ := List.mem_iff_getElem?.1 hu
  have hj' : j < s.batch.items.length := by rw [hlen]; exact (List.getElem?_eq_some_iff.1 hj).1
  exact ⟨(s.batch.items[j], u),
    List.mem_iff_getElem?.2 ⟨j, List.getElem?_zip_eq_some.2 ⟨List.getElem?_eq_getElem hj', hj⟩⟩, hur⟩

/-- What a slot has to show after its item was promoted. -/
structure State.promotedWell (s t : State) (n : Nat) : Prop where
  images : t.entryAt n = (t.store.slot n).image ∧ (t.slot n).worn = (t.store.slot n).worn ∧
    (t.slot n).retireMark = (t.store.slot n).retireMark
  unreserved : ∀ id x, (t.slot n).content ≠ .reserved id x
  known : ∀ e, t.entryAt n = some e →
    (∃ m d, s.entryAt m = some d ∧ d.id = e.id) ∨ ∃ m x, (m, e.id, x) ∈ s.claims ∧ s.batch.names m
  live : s.openHolds n ≠ 0 → ∃ e, t.entryAt n = some e
  within : ∀ e b, t.entryAt n = some e → e.balance = some b → s.heldUnits n ≤ b
  due : n ∈ t.engine.clearDue ↔ t.slotRetiring n = true ∧ s.openHolds n = 0

/-- The held units of an entry are within the balance that its item leaves (R67, R129, R131). -/
theorem State.promotes.within_rewrite {y : Item} {n : Nat} {u : Promotion} (h : s.promotes y n u) (hs : s.runs)
    (hy : y.isInsert = false) {e : Entry} (he : s.entryAt n = some e) {b : Nat} (hb : (y.rewrite e).balance = some b) :
    s.heldUnits n ≤ b := by
  have old := fun b' hb' => hs.holds.within n e b' he hb'
  cases y with
  | insert image => cases hy
  | modify id x f =>
    cases hf : f.balance with
    | none =>
      have same : (Item.rewrite (.modify id x f) e).balance = e.balance := by
        simp [Item.rewrite, Entry.modified, Entry.withFields, Entry.revised, hf]
      exact old b (same ▸ hb)
    | some v =>
      have same : (Item.rewrite (.modify id x f) e).balance = v := by
        simp [Item.rewrite, Entry.modified, Entry.withFields, Entry.revised, hf]
      exact h.within id x f b rfl (by rw [hf, ← same, hb])
  | topUp id amount =>
    obtain ⟨b', hb', rfl⟩ := Option.map_eq_some_iff.1 hb
    exact (old b' hb').trans (Nat.le_add_right _ _)
  | bar id x => exact old b hb
  | unbar id x => exact old b hb
  | retire id x => exact old b hb

/-- One slot after the promotion of its item (R114, R154). -/
theorem State.promotes.promotedWell {y : Item} {n : Nat} {u : Promotion} (h : s.promotes y n u) (hs : s.runs)
    (hl : s.batch.isLocked = true) (slot : t.slot n = promotedSlot (y, n, u) (s.slot n))
    (store : t.store.slot n = promotedDurable u (s.store.slot n))
    (due : n ∈ t.engine.clearDue ↔
      n ∈ s.engine.clearDue ∨ (y.isRetire = true ∧ u ≠ .clear ∧ s.openHolds n = 0)) : s.promotedWell t n := by
  have images := hs.directory.images n
  cases hi : y.isInsert with
  | true =>
    -- a new entry in the slot reserved for it
    cases y with
    | insert image =>
      have claim := h.inserts hi
      have none : s.entryAt n = none := hs.directory.claims.no_entry (State.mem_claims.2 (.inr claim))
      have current := h.retires rfl
      subst current
      have content : (s.slot n).content = .reserved image.id .batchInsert :=
        (hs.directory.claims.reserved n _ _).2 (State.mem_claims.2 (.inr claim))
      have slotN : t.slot n = { s.slot n with content := .occupied image } := by
        rw [slot]
        simp [promotedSlot, Item.isRetire, content, promotedContent]
      have entry : t.entryAt n = some image := State.entryAt_eq_some.2 (by rw [slotN])
      have zero := hs.no_holds none
      exact
        { images := by rw [entry, slotN, store]; exact ⟨(h.staged rfl).symm, images.2⟩
          unreserved := fun id x hr => by rw [slotN] at hr; cases hr
          known := fun e he => by
            rw [entry] at he
            cases he
            exact .inr ⟨n, _, State.mem_claims.2 (.inr claim), h.mem⟩
          live := fun _ => ⟨image, entry⟩
          within := fun _ _ _ _ => by rw [State.heldUnits_eq_zero zero]; exact Nat.zero_le _
          due := by
            rw [due, State.slotRetiring_eq entry, slotN]
            simp [hs.not_due none, Item.isRetire, h.fresh image rfl, hs.retireMark none] }
    | _ => cases hi
  | false =>
    obtain ⟨e, he, hliv⟩ := h.named hi
    have content : (s.slot n).content = .occupied e := State.entryAt_eq_some.1 he
    rw [State.slotRetiring_eq he, Bool.or_eq_false_iff] at hliv
    obtain ⟨state, mark⟩ := hliv
    have state : e.state ≠ .retiring := of_decide_eq_false state
    have notDue : n ∉ s.engine.clearDue := fun hd => by
      have := ((hs.due_of_named hl h.mem).1 hd).1
      rw [State.slotRetiring_eq he, mark] at this
      simp [state] at this
    rw [or_iff_right notDue] at due
    -- the entry stays in its slot, with an image or a mark of its own
    have stays : ∀ x : Entry, t.entryAt n = some x → x.id = e.id →
        (∀ b, x.balance = some b → s.heldUnits n ≤ b) → some x = (t.store.slot n).image →
        (t.slot n).worn = (t.store.slot n).worn → (t.slot n).retireMark = (t.store.slot n).retireMark →
        (t.slotRetiring n = true ↔ y.isRetire = true) → u ≠ .clear → s.promotedWell t n :=
      fun x hx hid hb himage hw hm hret hu =>
        { images := by rw [hx]; exact ⟨himage, hw, hm⟩
          unreserved := fun id k hr => by rw [State.entryAt_of_reserved hr] at hx; cases hx
          known := fun d hd => by
            rw [hx] at hd
            cases hd
            exact .inl ⟨n, e, he, hid.symm⟩
          live := fun _ => ⟨x, hx⟩
          within := fun d b hd hb' => by rw [hx] at hd; cases hd; exact hb b hb'
          due := by rw [due, hret]; simp [hu] }
    cases u with
    | makeCurrent =>
      have slotN : t.slot n = { s.slot n with content := .occupied (y.rewrite e) } := by
        rw [slot]
        simp [promotedSlot, content, promotedContent]
      have entry : t.entryAt n = some (y.rewrite e) := State.entryAt_eq_some.2 (by rw [slotN])
      refine stays _ entry (Item.rewrite_id hi e) (fun b hb => h.within_rewrite hs hi he hb) ?_ ?_ ?_ ?_ nofun
      · rw [store]
        simp only [promotedDurable]
        rw [h.staged rfl, State.stagedImage_of_named s n hi, he]
        rfl
      · rw [slotN, store]; exact images.2.1
      · rw [slotN, store]; exact images.2.2
      · rw [State.slotRetiring_eq entry, slotN, mark, Bool.or_false, decide_eq_true_iff]
        exact Item.rewrite_state hi state
    | clear =>
      have retire : y.isRetire = true := by
        by_contra hy
        cases h.retires (Bool.eq_false_iff.2 hy)
      have slotN : t.slot n = ⟨.free, (s.slot n).worn, false⟩ := by rw [slot]; simp [promotedSlot, retire]
      have entry : t.entryAt n = none := by unfold State.entryAt; rw [slotN]; rfl
      exact
        { images := by rw [entry, slotN, store]; exact ⟨rfl, images.2.1, rfl⟩
          unreserved := fun id k hr => by rw [slotN] at hr; cases hr
          known := fun d hd => by rw [entry] at hd; cases hd
          live := fun hne => absurd (h.cleared rfl) hne
          within := fun d b hd => by rw [entry] at hd; cases hd
          due := by rw [due, State.slotRetiring_of_none entry]; simp }
    | mark =>
      have retire : y.isRetire = true := by
        by_contra hy
        cases h.retires (Bool.eq_false_iff.2 hy)
      have slotN : t.slot n = { s.slot n with retireMark := true } := by rw [slot]; simp [promotedSlot, retire]
      have entry : t.entryAt n = some e := State.entryAt_eq_some.2 (by rw [slotN]; exact content)
      refine stays e entry rfl (fun b hb => hs.holds.within n e b he hb) ?_ ?_ ?_ ?_ nofun
      · rw [store, ← he]; exact images.1
      · rw [slotN, store]; exact images.2.1
      · rw [slotN, store]; rfl
      · rw [State.slotRetiring_eq entry, slotN, retire]; simp

/-- A PROMOTE completed (R154). -/
theorem State.runs.tableSound_applyPromotion (hs : s.runs) (hc : s.commits = ⟨c :: rest, some (.promote ups)⟩)
    (hch : c.change = .promoteBatch) (v : Verify) :
    ((s.ended rest ((Work.promote ups).complete v s.store)).applyPromotion ups).tableSound := by
  have queued : c ∈ s.commits.queue := by rw [hc]; exact List.mem_cons_self
  obtain ⟨hl, hlen, hmap⟩ := hs.promotion_slots hc hch
  have keysZip : (s.batch.items.zip ups).map (·.2.1) = ups.map (·.1) := by
    have zip := List.map_snd_zip (Nat.le_of_eq hlen.symm)
    conv_rhs => rw [← zip]
    rw [List.map_map]
    rfl
  have nodup : ((s.batch.items.zip ups).map (·.2.1)).Nodup := by rw [keysZip, hmap]; exact hs.records_nodup hl
  have names : ∀ x ∈ s.batch.items.zip ups, s.batch.names x.2.1 := fun x hx => (hs.promotes_of_mem hc hch hx).mem
  unfold State.applyPromotion
  refine (State.sameTable_fillReserved _ _ _ _ _ _).tableSound ?_
  simp only [State.ended_batch]
  generalize hu : (s.batch.items.zip ups).foldl State.promoteItem
    (s.ended rest ((Work.promote ups).complete v s.store)) = u
  have touches : (s.ended rest ((Work.promote ups).complete v s.store)).touchesOnly u s.batch.names := by
    rw [← hu]
    exact State.touchesOnly_foldl _ (fun r x hx => r.touchesOnly_promoteItem (names x hx)) _
  have holds : u.holds = s.holds := by
    rw [← hu]
    exact foldl_keeps (P := fun r : State => r.holds = s.holds) _ (fun r x _ hr => (r.promoteItem_holds x).trans hr) _ rfl
  have store : u.store = ups.foldl Store.promoteSlot s.store := touches.store
  have behind := hs.behind_promote hc hch
  have ends : s.endsBatch (u.setBatch emptyBatch) :=
    { work := by rw [State.setBatch_commits, touches.commits, State.ended_commits]
      queue := by rw [State.setBatch_commits, touches.commits, State.ended_commits, hc]; exact List.sublist_cons_self _ _
      subjects := by
        rw [State.setBatch_commits, touches.commits, State.ended_commits, hc,
          List.filterMap_cons_none (by rw [hch]; rfl)]
      claims := by
        rw [State.setBatch_commits, touches.commits, State.ended_commits, hc,
          List.filterMap_cons_none (by rw [hch]; rfl)]
      kept := fun d hd => by
        rw [hc] at hd
        rw [State.setBatch_commits, touches.commits, State.ended_commits]
        rcases List.mem_cons.1 hd with rfl | hd
        · exact .inr (by rw [hch]; rfl)
        · exact .inl hd
      unlocked := rfl
      records := rfl
      slots := touches.slots
      stored := fun n hn => by
        have off : n ∉ ups.map (·.1) := fun h => by
          rw [← keysZip] at h
          obtain ⟨x, hx, rfl⟩ := List.mem_map.1 h
          exact hn (names x hx)
        rw [State.setBatch_store, store, Store.slot_promoteSlots_other ups _ off]
        exact ⟨rfl, rfl, rfl⟩
      holds := holds
      due := touches.due }
  have well : ∀ n, s.batch.names n → s.promotedWell (u.setBatch emptyBatch) n := by
    intro n hn
    obtain ⟨x, hx, rfl⟩ := hs.mem_of_names hc hch hn
    obtain ⟨slot, due⟩ := State.promoteItems_at _ nodup (s.ended rest ((Work.promote ups).complete v s.store)) hx
    rw [hu] at slot due
    refine (hs.promotes_of_mem hc hch hx).promotedWell hs hl slot ?_ due
    rw [State.setBatch_store, store]
    exact Store.promoteSlots_at ups (by rw [← keysZip]; exact nodup) s.store (x := x.2) (List.of_mem_zip hx).2
  refine (ends.endsOn hs hl).tableSound
    { store := by
        rw [State.setBatch_store, touches.store]
        exact Work.sound_complete _ v hs.store (hs.works _ (by rw [hc]))
      unmarked := by
        rw [State.setBatch_store, touches.store]
        exact Work.unmarked_complete _ v hs.unmarked
      images := fun n hn => (well n hn).images
      unreserved := fun n hn => (well n hn).unreserved
      spill := State.spillSound_congr (s := u) rfl (fun _ => rfl) (hu ▸
        State.spillSound_promoteItems _ nodup (State.spillSound_ended hs.directory.spill _ _) fun x hx hi =>
          hs.directory.claims.no_entry (State.mem_claims.2 (.inr ((hs.promotes_of_mem hc hch hx).inserts hi))))
      known := fun n e hn => (well n hn).known e
      live := fun p h hp => by
        have hp : (u.place p).live = some h := hp
        rw [State.place_congr holds] at hp
        obtain ⟨hlt, e, he⟩ := hs.holds.lie p h hp
        refine ⟨hlt, ?_⟩
        by_cases hn : s.batch.names h.slot
        · exact (well _ hn).live (hs.openHolds_pos hp)
        · exact ⟨e, (touches.entryAt hn).trans he⟩
      within := fun n e b hn he hb => by
        rw [(State.counts_congr (t := u.setBatch emptyBatch) holds n).2]
        exact (well n hn).within e b he hb
      due := fun n hn => by
        rw [(State.counts_congr (t := u.setBatch emptyBatch) holds n).1]
        exact (well n hn).due } hs
    (State.batchSound_of_unlocked rfl List.nodup_nil (fun e he => by cases he) (fun _ => Nat.zero_le _) fun d hd => ?_) fun d hd hp => ?_
  · rw [State.setBatch_commits, touches.commits, State.ended_commits] at hd
    exact (behind d hd).1
  · rw [State.setBatch_commits, touches.commits, State.ended_commits] at hd
    exact absurd hp (behind d hd).2

end Sys2Proof.Machine
end

section
/-! Every completion leaves the table sound (R102, R108 to R114). -/

namespace Sys2Proof.Machine

variable {s t : State} {c : Commit} {rest : List Commit} {w : Work}

/-! ### The work of each kind of commit -/

/-- The form of the work in progress by the kind of its commit (R108, R111). -/
def Change.workShape (w : Work) : Change → Prop
  | .insertEntry n _ => ∃ x, w = .writeImage n x
  | .modifyEntry n _ => ∃ x, w = .writeImage n x
  | .topUpEntry n _ => ∃ x, w = .writeImage n x
  | .setEntryState n _ => ∃ x, w = .writeImage n x
  | .settleHold n _ _ => ∃ x, w = .writeImage n x
  | .retireEntry n => (∃ x, w = .writeImage n x) ∨ w = .clear n ∨ w = .mark n
  | .clearEntry n => w = .clear n
  | .moveEntry a b => ∃ x, w = .moveImage a b x
  | .writeClass _ _ => ∃ k r, w = .writeClass k r
  | .stageItem _ n => ∃ x, w = .writeStaged n x
  | .promoteBatch => ∃ ups, w = .promote ups

theorem Work.shape_of_fits {d : Change} (h : w.fits d = true) : d.workShape w := by
  cases d <;> cases w <;> simp_all [Work.fits, Change.workShape]

/-! ### While no intake is open -/

/-- While intake is not open only the store, the work in progress and the spill counts matter. -/
theorem State.tableSound_of_closed (hp : s.phase ≠ .running) (store : s.store.sound)
    (works : ∀ w, s.commits.work = some w → ∀ k, (w.updates k s.store).sound)
    (spill : ∀ b, s.spillCount b ≤ Config.spillSlots) : s.tableSound where
  store := store
  works := works
  spillFits := spill
  directory h := absurd h hp
  holds h := absurd h hp
  subjects h := absurd h hp
  batch h := absurd h hp

/-- A completion leaves the table sound where its effect does while intake is open (R102, R116). -/
theorem State.tableSound_complete {isKind : Change → Bool} {v : Verify} {effect : Commit → Work → Verify → State → State}
    (ht : s.tableSound) (hruns : s.phase = .running → s.runs)
    (heff : ∀ c rest w, s.runs → s.commits = ⟨c :: rest, some w⟩ → isKind c.change = true → c.change.workShape w →
      (effect c w (w.result v) (s.ended rest (w.complete v s.store))).tableSound) :
    (s.complete isKind v effect).tableSound := by
  rcases State.complete_cases isKind v effect (s := s) with h | ⟨c, rest, w, hc, hk, h⟩
  · rw [h]; exact ht
  · rw [h]
    by_cases hp : s.phase = .running
    · rw [if_pos hp]
      have hs := hruns hp
      exact heff c rest w hs hc hk (Work.shape_of_fits (hs.fits hc))
    · rw [if_neg hp]
      exact State.tableSound_of_closed hp (w.sound_complete v ht.store (ht.works w (by rw [hc])))
        (fun _ h => by cases h) ht.spillFits

/-! ### Each kind of commit -/

theorem State.runs.tableSound_settlementEffect (hs : s.runs) (hc : s.commits = ⟨c :: rest, some w⟩)
    (hk : c.change.isSettlement = true) (hw : c.change.workShape w) (v : Verify) :
    (settlementEffect c w (w.result v) (s.ended rest (w.complete v s.store))).tableSound := by
  cases hch : c.change with
  | settleHold n p u =>
    rw [hch] at hw
    obtain ⟨x, rfl⟩ := hw
    unfold settlementEffect
    rw [hch]
    cases v with
    | ok => exact (State.sameTable_report _ _ _ _).tableSound (hs.tableSound_settleOk hc hch)
    | fault => exact hs.tableSound_settleFault hc hch c.origin
  | _ => rw [hch] at hk; cases hk

theorem State.runs.tableSound_insertEffect (hs : s.runs) (hc : s.commits = ⟨c :: rest, some w⟩)
    (hk : c.change.isInsertion = true) (hw : c.change.workShape w) (v : Verify) :
    (insertEffect c w (w.result v) (s.ended rest (w.complete v s.store))).tableSound := by
  cases hch : c.change with
  | insertEntry n e =>
    rw [hch] at hw
    obtain ⟨x, rfl⟩ := hw
    cases v with
    | ok => exact (State.sameTable_report _ _ _ _).tableSound (hs.tableSound_occupySlot hc hch)
    | fault =>
      exact (State.sameTable_report _ _ _ _).tableSound (hs.tableSound_spoilSlot hc (by rw [hch]; rfl)
        (fun m hm => (State.touched_iff_of_insert hch m).2 (List.mem_singleton.1 hm)) (by rw [hch]; nofun)
        (by rw [hch]; nofun) nofun rfl)
  | _ => rw [hch] at hk; cases hk

/-- A Modify, Top Up, Bar or Unbar: the image written with OK, the slot WORN with FAULT (R130 to R132). -/
theorem State.runs.tableSound_imageWrite (hs : s.runs) {n : Nat} {x : Entry}
    (hc : s.commits = ⟨c :: rest, some (.writeImage n x)⟩) (hsub : c.change.subject = some n)
    (hliv : c.change.needsLiving = some n) (hret : c.change ≠ .retireEntry n) (v : Verify) (o : Origin) (st : Status)
    (payload : List Byte) :
    (v = .ok → (((s.ended rest ((Work.writeImage n x).complete .ok s.store)).setEntry n x).report o st payload).tableSound) ∧
    (v = .fault → (((s.ended rest ((Work.writeImage n x).complete .fault s.store)).wearSlot n).report o st payload).tableSound) :=
  ⟨fun _ => (State.sameTable_report _ _ _ _).tableSound (hs.tableSound_setEntry hc hsub hliv hret),
    fun _ => (State.sameTable_report _ _ _ _).tableSound (hs.tableSound_wearSlot hc hsub
      (by cases hch : c.change <;> simp_all [Change.needsLiving, State.claimOf]))⟩

theorem State.runs.tableSound_modifyEffect (hs : s.runs) (hc : s.commits = ⟨c :: rest, some w⟩)
    (hk : c.change.isModification = true) (hw : c.change.workShape w) (v : Verify) :
    (modifyEffect c w (w.result v) (s.ended rest (w.complete v s.store))).tableSound := by
  cases hch : c.change with
  | modifyEntry n f =>
    rw [hch] at hw
    obtain ⟨x, rfl⟩ := hw
    have write := hs.tableSound_imageWrite hc (by rw [hch]; rfl) (by rw [hch]; rfl) (by rw [hch]; nofun) v
    cases v with
    | ok => exact (write _ _ _).1 rfl
    | fault => exact (write _ _ _).2 rfl
  | _ => rw [hch] at hk; cases hk

theorem State.runs.tableSound_topUpEffect (hs : s.runs) (hc : s.commits = ⟨c :: rest, some w⟩)
    (hk : c.change.isTopUp = true) (hw : c.change.workShape w) (v : Verify) :
    (topUpEffect c w (w.result v) (s.ended rest (w.complete v s.store))).tableSound := by
  cases hch : c.change with
  | topUpEntry n a =>
    rw [hch] at hw
    obtain ⟨x, rfl⟩ := hw
    have write := hs.tableSound_imageWrite hc (by rw [hch]; rfl) (by rw [hch]; rfl) (by rw [hch]; nofun) v
    cases v with
    | ok => exact (write _ _ _).1 rfl
    | fault => exact (write _ _ _).2 rfl
  | _ => rw [hch] at hk; cases hk

theorem State.runs.tableSound_barEffect (hs : s.runs) (hc : s.commits = ⟨c :: rest, some w⟩)
    (hk : c.change.isBar = true) (hw : c.change.workShape w) (v : Verify) :
    (barEffect c w (w.result v) (s.ended rest (w.complete v s.store))).tableSound := by
  cases hch : c.change with
  | setEntryState n y =>
    rw [hch] at hw
    obtain ⟨x, rfl⟩ := hw
    have write := hs.tableSound_imageWrite hc (by rw [hch]; rfl) (by rw [hch]; rfl) (by rw [hch]; nofun) v
    cases v with
    | ok => exact (write _ _ _).1 rfl
    | fault => exact (write _ _ _).2 rfl
  | _ => rw [hch] at hk; cases hk

/-- A report to a port and one to the scan look at nothing of the table (R99, R166). -/
theorem State.tableSound_told {u : State} {o : Origin} {st : Status} {payload : List Byte} {count : Scan → Scan}
    (hu : u.tableSound) (hcount : ∀ x, (count x).state = x.state) :
    ((u.report o st payload).tellScan o count).tableSound :=
  (State.sameTable_tellScan _ _ hcount).tableSound ((State.sameTable_report _ _ _ _).tableSound hu)

/-- A RETIRE cleared, marked or wrote the RETIRING image, or its write failed (R111, R134, R164). -/
theorem State.runs.tableSound_retireEffect (hs : s.runs) (hc : s.commits = ⟨c :: rest, some w⟩)
    (hk : c.change.isRetire = true) (hw : c.change.workShape w) (v : Verify) :
    (retireEffect c w (w.result v) (s.ended rest (w.complete v s.store))).tableSound := by
  cases hch : c.change with
  | retireEntry n =>
    have hsub : c.change.subject = some n := by rw [hch]; rfl
    obtain ⟨e, he⟩ := hs.subject_entry hc hsub
    have images := hs.directory.images n
    rw [hch] at hw
    rcases hw with ⟨x, rfl⟩ | rfl | rfl
    · cases v with
      | ok =>
        obtain ⟨e', he', hid, hbal, hret, -⟩ := (hs.workAgrees hc).writes n x hsub rfl
        rw [hch] at hbal
        refine State.tableSound_told (hs.tableSound_retiring (v := .ok) hc hch rfl nofun he' rfl hid hbal (.inl (hret hch)) ?_) fun _ => rfl
        rw [Work.slot_writeImage_ok]
        exact ⟨rfl, images.2⟩
      | fault => exact State.tableSound_told (hs.tableSound_wearSlot hc hsub (by rw [hch]; rfl)) fun _ => rfl
    · exact State.tableSound_told (hs.tableSound_clearSlot hc (.inl hch)) fun _ => rfl
    · refine State.tableSound_told (hs.tableSound_retiring (v := v) hc hch rfl nofun he (State.entryAt_eq_some.1 he) rfl rfl (.inr rfl) ?_)
        fun _ => rfl
      have slot : ((Work.mark n).complete v s.store).slot n = { s.store.slot n with retireMark := true } :=
        Store.slot_setSlot_self _ _ _
      rw [slot, ← he]
      exact ⟨images.1, images.2.1, rfl⟩
  | _ => rw [hch] at hk; cases hk

theorem State.runs.tableSound_clearEffect (hs : s.runs) (hc : s.commits = ⟨c :: rest, some w⟩)
    (hk : c.change.isClear = true) (hw : c.change.workShape w) (v v' : Verify) :
    (clearEffect c w v' (s.ended rest (w.complete v s.store))).tableSound := by
  cases hch : c.change with
  | clearEntry n =>
    rw [hch] at hw
    obtain rfl := hw
    exact hs.tableSound_clearSlot hc (.inr hch)
  | _ => rw [hch] at hk; cases hk

theorem State.runs.tableSound_moveEffect (hs : s.runs) (hc : s.commits = ⟨c :: rest, some w⟩)
    (hk : c.change.isMove = true) (hw : c.change.workShape w) (v : Verify) :
    (moveEffect c w (w.result v) (s.ended rest (w.complete v s.store))).tableSound := by
  cases hch : c.change with
  | moveEntry a b =>
    rw [hch] at hw
    obtain ⟨x, rfl⟩ := hw
    cases v with
    | ok =>
      exact State.tableSound_told (hs.tableSound_moveEntry hc hch) fun _ => rfl
    | fault =>
      obtain ⟨e, he⟩ := hs.subject_entry hc (n := a) (by rw [hch]; rfl)
      have claim : s.claimOf c.change = some (b, e.id, .move) := by rw [hch]; simp only [State.claimOf, he, Option.map_some]
      refine State.tableSound_told (hs.tableSound_spoilSlot hc claim (fun m hm => ?_) (by rw [hch]; nofun)
        (by rw [hch]; nofun) nofun rfl) fun _ => rfl
      simp only [Work.writesTo, List.mem_cons, List.not_mem_nil, or_false] at hm
      rcases hm with rfl | rfl
      · exact .inl (by rw [hch]; rfl)
      · exact .inr ⟨_, claim, rfl⟩
  | _ => rw [hch] at hk; cases hk

theorem State.runs.tableSound_classEffect (hs : s.runs) (hc : s.commits = ⟨c :: rest, some w⟩)
    (hk : c.change.isClassWrite = true) (hw : c.change.workShape w) (v : Verify) :
    (classEffect c w (w.result v) (s.ended rest (w.complete v s.store))).tableSound := by
  cases hch : c.change with
  | writeClass k r =>
    rw [hch] at hw
    obtain ⟨k', r', rfl⟩ := hw
    have written := hs.tableSound_classWrite (v := v) hc (by rw [hch]; rfl) (by rw [hch]; rfl) (by rw [hch]; nofun)
    cases v <;> exact (State.sameTable_report _ _ _ _).tableSound written
  | _ => rw [hch] at hk; cases hk

theorem State.runs.tableSound_stageEffect (hs : s.runs) (hc : s.commits = ⟨c :: rest, some w⟩)
    (hk : c.change.isStageWrite = true) (hw : c.change.workShape w) (v : Verify) :
    (stageEffect c w (w.result v) (s.ended rest (w.complete v s.store))).tableSound := by
  cases hch : c.change with
  | stageItem i n =>
    rw [hch] at hw
    obtain ⟨x, rfl⟩ := hw
    unfold stageEffect
    rw [hch]
    cases v with
    | ok => exact hs.tableSound_staged hc hch _
    | fault => exact hs.tableSound_abandonBatch hc hch
  | _ => rw [hch] at hk; cases hk

theorem State.runs.tableSound_promoteEffect (hs : s.runs) (hc : s.commits = ⟨c :: rest, some w⟩)
    (hk : c.change.isPromote = true) (hw : c.change.workShape w) (v v' : Verify) :
    (promoteEffect c w v' (s.ended rest (w.complete v s.store))).tableSound := by
  cases hch : c.change with
  | promoteBatch =>
    rw [hch] at hw
    obtain ⟨ups, rfl⟩ := hw
    exact hs.tableSound_applyPromotion hc hch v
  | _ => rw [hch] at hk; cases hk

end Sys2Proof.Machine
end

section
/-! Steps that change holds and the clear-due list alone: the table stays sound (R22, R25, R67, R76). -/

namespace Sys2Proof.Machine

variable {s t u : State}

/-! ### What the agreement of the work in progress looks at -/

/-- The slots of whose open holds the work in progress has found none (R111, R114). -/
def Work.frees (w : Work) (n : Nat) : Prop := w = .clear n ∨ ∃ ups, w = .promote ups ∧ (n, Promotion.clear) ∈ ups

/-- The work in progress agrees with entries, marks and the batch's plan as before; slots it found without open holds must
still have none. -/
theorem State.workAgrees.congr {c : Change} {w : Work} (h : s.workAgrees c w) (he : ∀ n, t.entryAt n = s.entryAt n)
    (hm : ∀ n, (t.slot n).retireMark = (s.slot n).retireMark) (hi : t.batch.items = s.batch.items)
    (hr : t.batch.records = s.batch.records) (hz : ∀ n, w.frees n → s.openHolds n = 0 → t.openHolds n = 0) :
    t.workAgrees c w where
  inserts := h.inserts
  writes n x hn hw := by rw [he]; exact h.writes n x hn hw
  clears n hw := hz n (.inl hw) (h.clears n hw)
  moves a b x hw := by
    obtain ⟨e, hae, hid, hbal, hret⟩ := h.moves a b x hw
    refine ⟨e, (he a).trans hae, hid, hbal, ?_⟩
    unfold State.isRetiring
    rw [hm]
    exact hret
  stages i n x hc hw := by
    obtain ⟨y, hy, hx⟩ := h.stages i n x hc hw
    exact ⟨y, hi ▸ hy, (State.stagedImage_congr (he n) y).trans hx⟩
  promotes ups hw := by
    obtain ⟨hlen, hups⟩ := h.promotes ups hw
    rw [hi, hr]
    refine ⟨hlen, fun i y r v hy hrec hv => ?_⟩
    obtain ⟨hn, hcur, hclr, hret⟩ := hups i y r v hy hrec hv
    refine ⟨hn, hcur, fun hk => hz _ (.inr ⟨ups, hw, ?_⟩) (hclr hk), hret⟩
    have hmem := List.mem_of_getElem? hv
    obtain ⟨k, p⟩ := v
    cases hn
    cases hk
    exact hmem

/-! ### What holds may not be opened on -/

/-- Entries on which no hold opens: those a queued commit is for that reads holds, and those a batch names (R24). -/
def State.guarded (s : State) (n : Nat) : Prop :=
  (∃ c ∈ s.commits.queue, c.change = .retireEntry n ∨ c.change = .clearEntry n ∨ ∃ f, c.change = .modifyEntry n f) ∨
    (s.batch.isLocked = true ∧ s.batch.names n)

/-- Slots that the work in progress found without open holds are guarded. -/
theorem State.runs.guarded_of_frees (hs : s.runs) {c : Commit} {w : Work} (hq : s.commits.queue.head? = some c)
    (hw : s.commits.work = some w) {n : Nat} (hf : w.frees n) : s.guarded n := by
  have queued : c ∈ s.commits.queue := List.mem_of_mem_head? hq
  obtain ⟨d, hd, hfit⟩ := hs.formed.2 w hw
  rw [hq] at hd
  cases hd
  have shape := Work.shape_of_fits hfit
  have agrees := hs.subjects.work c w hq hw
  rcases hf with rfl | ⟨ups, rfl, hmem⟩
  · refine .inl ⟨c, queued, ?_⟩
    cases hch : c.change <;> rw [hch] at shape <;> simp_all [Change.workShape]
  · have hch : c.change = .promoteBatch := by
      cases hch : c.change <;> rw [hch] at shape <;> simp_all [Change.workShape]
    have hl := (hs.once.2 c queued hch hs.phase).1
    obtain ⟨hlen, hups⟩ := agrees.promotes ups rfl
    obtain ⟨i, hi⟩ := List.mem_iff_getElem?.1 hmem
    have hlt : i < s.batch.records.length := by rw [← hlen]; exact (List.getElem?_eq_some_iff.1 hi).1
    have hr := List.getElem?_eq_getElem hlt
    obtain ⟨x, hx⟩ := hs.item_of_record hl hr
    exact .inr ⟨hl, i, _, hr, ((hups i x _ _ hx hr hi).1).symm⟩

/-! ### Holds and the clear-due list alone -/

/-- `t` differs from `s` in holds and the clear-due list. -/
structure State.holdsOnly (s t : State) : Prop where
  slots : t.engine.slots = s.engine.slots
  spill : t.engine.spillCounts = s.engine.spillCounts
  commits : t.commits = s.commits
  store : t.store = s.store
  batch : t.batch = s.batch
  phase : t.phase = s.phase
  scan : t.scan = s.scan

theorem State.holdsOnly.slot (h : s.holdsOnly t) (n : Nat) : t.slot n = s.slot n := by unfold State.slot; rw [h.slots]

theorem State.holdsOnly.entryAt (h : s.holdsOnly t) (n : Nat) : t.entryAt n = s.entryAt n := State.entryAt_congr (h.slot n)

theorem State.holdsOnly.claims (h : s.holdsOnly t) : t.claims = s.claims := by
  rw [State.claims_eq, State.claims_eq, h.commits, h.batch]
  exact congrArg (· ++ _) (List.filterMap_congr fun c _ => State.claimOf_congr fun n _ => by rw [h.entryAt])

theorem State.holdsOnly.subjects (h : s.holdsOnly t) : t.subjects = s.subjects := by
  rw [State.subjects_eq, State.subjects_eq, h.commits, h.batch]

/-- What a change of holds has to show: guarded entries count no more holds and units than before, SETTLING holds stay, and
the clear-due list follows the open holds. -/
structure State.holdsWell (s t : State) : Prop where
  calm : ∀ n, s.guarded n → (s.openHolds n = 0 → t.openHolds n = 0) ∧ t.heldUnits n ≤ s.heldUnits n
  lie : ∀ p h, (t.place p).live = some h → p < Config.holdPlaces ∧ ∃ e, s.entryAt h.slot = some e
  within : ∀ n e b, s.entryAt n = some e → e.balance = some b → t.heldUnits n ≤ b
  settling : ∀ p h u, (s.place p).live = some h → h.state = .settling u →
    ∃ h', (t.place p).live = some h' ∧ h'.slot = h.slot ∧ h'.state = .settling u ∧ h'.units = h.units
  clearing : ∀ n, (n ∈ t.engine.clearDue ∨ s.clearQueued n = true) ↔ (s.slotRetiring n = true ∧ t.openHolds n = 0)
  cleared : ∀ n ∈ t.engine.clearDue, s.clearQueued n = false

theorem State.holdsOnly.tableSound (h : s.holdsOnly t) (hs : s.runs) (hw : s.holdsWell t) : t.tableSound := by
  have entry := h.entryAt
  have queued : ∀ n, t.clearQueued n = s.clearQueued n := fun n => by unfold State.clearQueued; rw [h.commits]
  have retiring : ∀ n, t.slotRetiring n = s.slotRetiring n := fun n => State.slotRetiring_congr (h.slot n)
  refine State.tableSound_of (by rw [h.store]; exact hs.store) (by rw [h.store, h.commits]; exact hs.works)
    (State.directorySound_of (by rw [h.store]; exact hs.store) (by rw [h.store]; exact hs.unmarked)
      (fun n => by rw [entry, h.slot, h.store]; exact hs.directory.images n)
      (State.spillSound_congr h.spill (fun n => by rw [entry]) hs.directory.spill) ?_) ?_ ?_ ?_
  · have c := hs.directory.claims
    rw [h.claims]
    exact ⟨fun n id x => by rw [h.slot]; exact c.reserved n id x, c.slots, c.ids, c.placed,
      fun n id x hm hx m e he => c.newIds n id x hm hx m e (by rw [← entry]; exact he)⟩
  · exact
      { lie := fun p y hy => by rw [entry]; exact hw.lie p y hy
        within := fun n e b he hb => hw.within n e b (by rw [← entry]; exact he) hb
        settling := fun c hc n p v hcn => by
          obtain ⟨y, hl, hslot, hst, hu⟩ := hs.holds.settling c (h.commits ▸ hc) n p v hcn
          obtain ⟨z, hz, hzslot, hzst, hzu⟩ := hw.settling p y v hl hst
          exact ⟨z, hz, hzslot.trans hslot, hzst, hzu ▸ hu⟩
        modifying := fun c hc n f b hcn hb =>
          ((hw.calm n (.inl ⟨c, h.commits ▸ hc, .inr (.inr ⟨f, hcn⟩)⟩)).2).trans
            (hs.holds.modifying c (h.commits ▸ hc) n f b hcn hb)
        clearing := fun n => by rw [queued, retiring]; exact hw.clearing n
        cleared := fun n hn => by rw [queued]; exact hw.cleared n hn }
  · exact
      { apart := by rw [h.subjects]; exact hs.subjects.apart
        lie := fun n hn => by rw [entry]; exact hs.subjects.lie n (h.subjects ▸ hn)
        single := fun n e he => by rw [h.commits, h.batch]; exact hs.subjects.single n e (by rw [← entry]; exact he)
        fresh := by rw [h.commits]; exact hs.subjects.fresh
        living := fun c hc n hcn => by rw [retiring]; exact hs.subjects.living c (h.commits ▸ hc) n hcn
        work := fun c w hq hk => by
          rw [h.commits] at hq hk
          exact (hs.subjects.work c w hq hk).congr entry (fun n => by rw [h.slot]) (by rw [h.batch]) (by rw [h.batch])
            fun n hn => (hw.calm n (hs.guarded_of_frees hq hk hn)).1 }
  · have b := hs.batch
    exact
      { apart := by rw [h.batch]; exact b.apart
        fresh := by rw [h.batch]; exact b.fresh
        noScan := by rw [h.batch, h.scan]; exact b.noScan
        recorded := by rw [h.batch]; exact b.recorded
        named := by
          rw [h.batch]
          intro hl i x r hx hr
          rw [entry, retiring]
          obtain ⟨named, held⟩ := b.named hl i x r hx hr
          exact ⟨named, fun id y f k hxf hf =>
            ((hw.calm r.slot (.inr ⟨hl, i, r, hr, rfl⟩)).2).trans (held id y f k hxf hf)⟩
        stagedItems := by
          rw [h.batch]
          intro hl i x r hx hr
          rw [h.slot, h.commits, h.store, State.stagedImage_congr (entry _)]
          obtain ⟨idle, staged⟩ := b.stagedItems hl i x r hx hr
          exact ⟨fun hn => (idle hn).imp_right fun h0 => h0.imp_left
            (hw.calm r.slot (.inr ⟨hl, i, r, hr, rfl⟩)).1, staged⟩
        fedWhole := by rw [h.batch]; exact b.fedWhole
        stageWrites := by rw [h.batch, h.commits]; exact b.stageWrites
        order := by rw [h.commits]; exact b.order }

/-- The machine goes on running with the same queue and batch. -/
theorem State.holdsOnly.runs (h : s.holdsOnly t) (hs : s.runs) (ht : t.tableSound) : t.runs :=
  have hp : t.phase = .running := h.phase.trans hs.phase
  { phase := hp
    wf := by rw [h.slots]; exact hs.wf
    unmarked := by rw [h.store]; exact hs.unmarked
    formed := by unfold State.commitsFormed; rw [h.commits]; exact hs.formed
    once := by unfold State.promoteOnce; rw [h.commits, h.batch, h.phase]; exact hs.once
    store := ht.store
    works := ht.works
    directory := ht.directory hp
    holds := ht.holds hp
    subjects := ht.subjects hp
    batch := ht.batch hp }

/-! ### A hold rewritten (R79, R84, R88) -/

/-- A live hold that keeps its slot and units is rewritten; a SETTLING one stays. -/
theorem State.runs.holdsWell_setHold (hs : s.runs) {p : Nat} {h h' : Hold} (hl : (s.place p).live = some h)
    (hslot : h'.slot = h.slot) (hunits : h'.units = h.units) (hset : ∀ u, h.state = .settling u → h'.state = .settling u) :
    s.holdsWell (s.setHold p h') := by
  have counts := State.setHold_holds hl hslot hunits
  have due : (s.setHold p h').engine.clearDue = s.engine.clearDue := rfl
  refine ⟨fun n _ => ⟨fun h0 => by rw [(counts n).1]; exact h0, le_of_eq (counts n).2⟩, fun q y hy => ?_,
    fun n e b he hb => by rw [(counts n).2]; exact hs.holds.within n e b he hb, fun q y u hy hu => ?_,
    fun n => by rw [due, (counts n).1]; exact hs.holds.clearing n, fun n hn => hs.holds.cleared n hn⟩
  · rw [State.setHold_live] at hy
    split at hy
    · rename_i hq
      cases hy
      rw [hq, hslot]
      exact hs.holds.lie p h hl
    · exact hs.holds.lie q y hy
  · rw [State.setHold_live]
    split
    · rename_i hq
      rw [hq, hl] at hy
      cases hy
      exact ⟨h', rfl, hslot, hset u hu, hunits⟩
    · exact ⟨y, hy, rfl, hu, rfl⟩

theorem State.holdsOnly_setHold (s : State) (p : Nat) (h : Hold) : s.holdsOnly (s.setHold p h) :=
  ⟨rfl, rfl, rfl, rfl, rfl, rfl, rfl⟩

/-! ### The end of a hold (R74, R95) -/

theorem State.holdsOnly_endHold (s : State) (p : Nat) (o : HoldOutcome) : s.holdsOnly (s.endHold p o) := by
  unfold State.endHold State.handOver
  split
  · split <;> exact ⟨rfl, rfl, rfl, rfl, rfl, rfl, rfl⟩
  · exact ⟨rfl, rfl, rfl, rfl, rfl, rfl, rfl⟩

/-- An OPEN hold ends. -/
theorem State.runs.holdsWell_endHold (hs : s.runs) {p : Nat} {h : Hold} (hl : (s.place p).live = some h)
    (hset : ∀ u, h.state ≠ .settling u) (o : HoldOutcome) : s.holdsWell (s.endHold p o) := by
  have counts := State.endHold_holds hl (hs.holds.lie p h hl).1 o
  have pos := hs.openHolds_pos hl
  have slot := s.endHold_slot p o
  have fewer : ∀ n, (s.endHold p o).openHolds n ≤ s.openHolds n ∧ (s.endHold p o).heldUnits n ≤ s.heldUnits n := fun n =>
    ⟨(counts n).1 ▸ Nat.le_add_right _ _, (counts n).2 ▸ Nat.le_add_right _ _⟩
  have notYet : ¬ (h.slot ∈ s.engine.clearDue ∨ s.clearQueued h.slot = true) := fun hd =>
    pos ((hs.holds.clearing _).1 hd).2
  have due : ∀ n, n ∈ (s.endHold p o).engine.clearDue ↔ n ∈ s.engine.clearDue ∨
      (n = h.slot ∧ s.slotRetiring n = true ∧ (s.endHold p o).openHolds n = 0) := by
    intro n
    by_cases hn : n = h.slot
    · subst hn
      rw [State.mem_clearDue_endHold hl, State.slotRetiring_congr (slot _)]
      simp
    · rw [(State.touchesOnly_endHold (N := (· = h.slot)) s hl rfl o).due n hn]
      simp [hn]
  refine ⟨fun n _ => ⟨fun h0 => Nat.le_zero.1 (h0 ▸ (fewer n).1), (fewer n).2⟩, fun q y hy => ?_,
    fun n e b he hb => (fewer n).2.trans (hs.holds.within n e b he hb), fun q y u hy hu => ?_, fun n => ?_, fun n hn => ?_⟩
  · rw [State.endHold_live] at hy
    split at hy
    · cases hy
    · exact hs.holds.lie q y hy
  · rw [State.endHold_live]
    split
    · rename_i hq
      rw [hq, hl] at hy
      cases hy
      exact absurd hu (hset u)
    · exact ⟨y, hy, rfl, hu, rfl⟩
  · rw [due]
    by_cases hn : n = h.slot
    · subst hn
      rw [not_or] at notYet
      simp [notYet]
    · have same : (s.endHold p o).openHolds n = s.openHolds n := by
        have := (counts n).1
        rw [holdCount, if_neg (Ne.symm hn)] at this
        exact this
      rw [same, ← hs.holds.clearing n]
      simp [hn]
  · rcases (due n).1 hn with hd | ⟨rfl, -, -⟩
    · exact hs.holds.cleared n hd
    · exact Bool.eq_false_iff.2 fun hq => notYet (.inr hq)

/-- The table stays sound through the end of an OPEN hold (R80, R81, R84, R95). -/
theorem State.runs.tableSound_endHold (hs : s.runs) {p : Nat} {h : Hold} (hl : (s.place p).live = some h)
    (hset : ∀ u, h.state ≠ .settling u) (o : HoldOutcome) : (s.endHold p o).tableSound :=
  (s.holdsOnly_endHold p o).tableSound hs (hs.holdsWell_endHold hl hset o)

theorem State.runs.tableSound_setHold (hs : s.runs) {p : Nat} {h h' : Hold} (hl : (s.place p).live = some h)
    (hslot : h'.slot = h.slot) (hunits : h'.units = h.units) (hset : ∀ u, h.state = .settling u → h'.state = .settling u) :
    (s.setHold p h').tableSound :=
  (s.holdsOnly_setHold p h').tableSound hs (hs.holdsWell_setHold hl hslot hunits hset)

end Sys2Proof.Machine
end

section
/-! The steps on holds: Draw, Extend, Release, Force Release, expiry and the second event leave the table sound. -/

namespace Sys2Proof.Machine

variable {s t u : State}

/-! ### States with the same table -/

/-- The machine goes on running where nothing that the table looks at has changed. -/
theorem State.sameTable.runs (h : s.sameTable t) (hs : s.runs) : t.runs := by
  have ht : t.tableSound := h.tableSound (State.tableSound_of hs.store hs.works hs.directory hs.holds hs.subjects hs.batch)
  have hp : t.phase = .running := h.phase.trans hs.phase
  exact
    { phase := hp
      wf := by rw [h.slots]; exact hs.wf
      unmarked := by rw [h.store]; exact hs.unmarked
      formed := by unfold State.commitsFormed; rw [h.commits]; exact hs.formed
      once := by unfold State.promoteOnce; rw [h.commits, h.batch, h.phase]; exact hs.once
      store := ht.store
      works := ht.works
      directory := ht.directory hp
      holds := ht.holds hp
      subjects := ht.subjects hp
      batch := ht.batch hp }

theorem State.runs.tableSound (hs : s.runs) : s.tableSound :=
  State.tableSound_of hs.store hs.works hs.directory hs.holds hs.subjects hs.batch

/-- A hold that is not SETTLING has no settle units. -/
theorem Hold.not_settling {h : Hold} (hn : h.isSettling = false) (u : Nat) : h.state ≠ .settling u := by
  intro hu
  unfold Hold.isSettling at hn
  rw [hu] at hn
  cases hn

/-! ### Extend, Release, Force Release (R79 to R81) -/

theorem State.runs.tableSound_takeExtend (hs : s.runs) (p : Port) (r : Request) : (takeExtend p r s).tableSound := by
  rcases takeExtend_cases s p r with h | ⟨n, x, d, payload, hl, hset, h⟩
  · exact (State.sameTable_answersTo h).tableSound hs.tableSound
  · rw [h]
    exact (State.sameTable_answer _ _ _ _ _).tableSound
      (hs.tableSound_setHold hl rfl rfl fun v hv => absurd hv (Hold.not_settling hset v))

theorem State.runs.tableSound_closesHold (hs : s.runs) {p : Port} {r : Request} (h : s.closesHold p r t) : t.tableSound := by
  obtain ⟨n, x, outcome, payload, -, hl, hset, rfl⟩ := h
  exact (State.sameTable_answer _ _ _ _ _).tableSound (hs.tableSound_endHold hl (Hold.not_settling hset) outcome)

/-! ### Expiry and the second event (R43, R84) -/

theorem State.runs.tableSound_expire (hs : s.runs) (n : Nat) : (s.expire n).tableSound := by
  unfold State.expire
  split
  · rename_i h hl
    split
    · split
      · rename_i ho
        exact hs.tableSound_endHold hl (fun v hv => by rw [ho.1] at hv; cases hv) _
      · exact hs.tableSound_setHold hl rfl rfl fun _ hv => hv
    · exact hs.tableSound
  · exact hs.tableSound

theorem State.runs.markDue (hs : s.runs) (n : Nat) : (s.markDue n).runs := by
  unfold State.markDue
  split
  · rename_i h hl
    split
    · exact (s.holdsOnly_setHold n _).runs hs (hs.tableSound_setHold hl rfl rfl fun _ hv => hv)
    · exact hs
  · exact hs

theorem State.runs.tableSound_secondEvent (hs : s.runs) : s.secondEvent.tableSound := by
  unfold State.secondEvent
  split
  · have timed : State.runs { s with time := s.time.second } :=
      State.sameTable.runs (s := s) ⟨rfl, rfl, rfl, rfl, rfl, rfl, rfl, rfl, id⟩ hs
    exact (foldl_keeps (P := State.runs) _ (fun u n _ hu => hu.markDue n) _ timed).tableSound
  · exact hs.tableSound

/-! ### Draw (R54, R67, R75) -/

/-- A positive verdict: the entry found passes every check (R55). -/
theorem State.verdict_positive {q : Query} {id : List Byte} {n : Nat} {e : Entry} (h : s.verdict q id = .positive n e) :
    s.entryAt n = some e ∧ ∀ x ∈ s.verdictChecks q n e, x.2 = false := by
  unfold State.verdict at h
  split at h
  · cases h
  · split at h
    · cases h
    · rename_i e' he
      split at h
      · cases h
      · rename_i hd
        cases h
        refine ⟨he, fun x hx => ?_⟩
        have := List.find?_eq_none.1 (Option.map_eq_none_iff.1 hd) x hx
        simpa using this

/-- An entry that a Draw is granted on is neither RETIRING nor changing (R55). -/
theorem State.drawn_of_positive {p : Port} {units : Nat} {part : Bool} {id : List Byte} {n : Nat} {e : Entry}
    (h : s.verdict ⟨p, true, some units, part⟩ id = .positive n e) :
    s.entryAt n = some e ∧ s.slotRetiring n = false ∧ s.changing n = false := by
  obtain ⟨he, checks⟩ := State.verdict_positive h
  have retiring : decide (s.entryState n e = .retiring) = false :=
    checks (.retiring, decide (s.entryState n e = .retiring)) (by simp [State.verdictChecks])
  have changing : (true && s.changing n) = false :=
    checks (.entryChanging, true && s.changing n) (by simp [State.verdictChecks])
  refine ⟨he, ?_, by simpa using changing⟩
  rw [State.slotRetiring_eq he]
  change s.isRetiring n e = false
  have := of_decide_eq_false retiring
  unfold State.entryState at this
  by_contra hr
  rw [Bool.not_eq_false] at hr
  rw [if_pos hr] at this
  exact this rfl

/-- The commit queued for an entry is the one that it is pending by (R23). -/
theorem State.runs.pendingChange_eq (hs : s.runs) {n : Nat} {e : Entry} (he : s.entryAt n = some e) {c : Commit}
    (hc : c ∈ s.commits.queue) (hf : c.change.isFor s.batch.lockedSlots n = true) : s.pendingChange n = some c.change := by
  have one := hs.subjects.single n e he
  have hmem : c ∈ s.commits.queue.filter fun c => c.change.isFor s.batch.lockedSlots n := List.mem_filter.2 ⟨hc, hf⟩
  obtain ⟨d, hd⟩ := List.length_eq_one_iff.1 (le_antisymm one (List.length_pos_of_mem hmem))
  rw [hd] at hmem
  cases List.mem_singleton.1 hmem
  unfold State.pendingChange
  rw [← List.head?_filter, hd]
  rfl

/-- No hold opens on an entry that a commit or a batch guards (R24). -/
theorem State.runs.not_guarded (hs : s.runs) {n : Nat} {e : Entry} (he : s.entryAt n = some e)
    (hret : s.slotRetiring n = false) (hch : s.changing n = false) : ¬ s.guarded n := by
  unfold State.changing at hch
  rw [Bool.or_eq_false_iff] at hch
  obtain ⟨unlocked, calm⟩ := hch
  rintro (⟨c, hc, hcn⟩ | ⟨hl, hn⟩)
  · have changes : c.change.isFor s.batch.lockedSlots n = true := by
      rcases hcn with h | h | ⟨f, h⟩ <;> simp [h, Change.isFor]
    rw [hs.pendingChange_eq he hc changes] at calm
    rcases hcn with h | h | ⟨f, h⟩
    · rw [h] at calm; cases calm
    · have := ((hs.holds.clearing n).1 (.inr (State.clearQueued_iff.2 ⟨c, hc, h⟩))).1
      rw [hret] at this
      cases this
    · rw [h] at calm; cases calm
  · rcases (hs.names_iff hl n).1 hn with h | ⟨y, hy, rfl⟩
    · rw [State.locked_eq_true.2 (Batch.mem_subjects.1 h)] at unlocked
      cases unlocked
    · rw [hs.directory.claims.no_entry (State.mem_claims.2 (.inr hy))] at he
      cases he

theorem State.freePlace_eq_some {n : Nat} (h : s.freePlace = some n) : n < Config.holdPlaces ∧ (s.place n).live = none := by
  have hm := List.mem_of_find?_eq_some h
  have hp := List.find?_some h
  exact ⟨List.mem_range.1 hm, by simpa using hp⟩

theorem State.holdsOnly_openHold (s : State) (n : Nat) (h : Hold) : s.holdsOnly (s.openHold n h) :=
  ⟨rfl, rfl, rfl, rfl, rfl, rfl, rfl⟩

/-- A hold opens in a free place on an entry that nothing guards, within its available units (R67, R75). -/
theorem State.runs.holdsWell_openHold (hs : s.runs) {n : Nat} {h : Hold} {e : Entry} (hn : s.freePlace = some n)
    (he : s.entryAt h.slot = some e) (hret : s.slotRetiring h.slot = false) (hg : ¬ s.guarded h.slot)
    (hunits : ∀ a, s.available h.slot e = some a → h.units ≤ a) : s.holdsWell (s.openHold n h) := by
  obtain ⟨hlt, free⟩ := State.freePlace_eq_some hn
  have live : ∀ p, ((s.openHold n h).place p).live = if p = n then some h else (s.place p).live := fun p => by
    unfold State.openHold
    rw [State.place_setPlace]
    split <;> rfl
  have opened : ∀ k, (s.openHold n h).openHolds k = s.openHolds k + holdCount k (some h) := fun k => by
    have := State.openHolds_setPlace s hlt ⟨nextByte (s.place n).generation, some h, (s.place n).closing⟩ k
    rw [free] at this
    exact this
  have held : ∀ k, (s.openHold n h).heldUnits k = s.heldUnits k + holdUnits k (some h) := fun k => by
    have := State.heldUnits_setPlace s hlt ⟨nextByte (s.place n).generation, some h, (s.place n).closing⟩ k
    rw [free] at this
    exact this
  have other : ∀ {k}, k ≠ h.slot → (s.openHold n h).openHolds k = s.openHolds k ∧
      (s.openHold n h).heldUnits k = s.heldUnits k := fun hk => by
    rw [opened, held]
    simp [holdCount, holdUnits, Ne.symm hk]
  refine ⟨fun k hk => ?_, fun p y hy => ?_, fun k x b hx hb => ?_, fun p y u hy hu => ?_, fun k => ?_,
    fun k hk => hs.holds.cleared k hk⟩
  · have hks : k ≠ h.slot := fun hks => hg (hks ▸ hk)
    exact ⟨fun h0 => (other hks).1.trans h0, le_of_eq (other hks).2⟩
  · rw [live] at hy
    split at hy
    · rename_i hp
      cases hy
      exact ⟨hp ▸ hlt, e, he⟩
    · exact hs.holds.lie p y hy
  · have old := hs.holds.within k x b hx hb
    by_cases hk : k = h.slot
    · subst hk
      rw [he] at hx
      cases hx
      have avail : s.available h.slot e = some (b - s.heldUnits h.slot) := by simp [State.available, hb]
      have := hunits _ avail
      rw [held]
      simp only [holdUnits, if_true]
      omega
    · rw [(other hk).2]; exact old
  · refine ⟨y, ?_, rfl, hu, rfl⟩
    rw [live, if_neg fun hp => ?_]
    · exact hy
    · rw [hp, free] at hy; cases hy
  · change (k ∈ s.engine.clearDue ∨ _) ↔ _
    by_cases hk : k = h.slot
    · subst hk
      rw [hs.holds.clearing, hret]
      simp
    · rw [(other hk).1]
      exact hs.holds.clearing k

theorem State.runs.tableSound_takeDraw (hs : s.runs) (p : Port) (r : Request) : (takeDraw p r s).tableSound := by
  rcases takeDraw_cases s p r with h | ⟨id, units, part, n, e, k, hv, hk, h⟩
  · exact (State.sameTable_answersTo h).tableSound hs.tableSound
  · rw [h]
    obtain ⟨he, hret, hch⟩ := State.drawn_of_positive hv
    refine (State.sameTable_answer _ _ _ _ _).tableSound ((s.holdsOnly_openHold k _).tableSound hs
      (hs.holdsWell_openHold hk he hret (hs.not_guarded he hret hch) fun a ha => ?_))
    change unitsGranted units (s.available n e) ≤ a
    have ha : s.available n e = some a := ha
    rw [ha]
    exact Nat.min_le_left _ _

end Sys2Proof.Machine
end

section
/-! The admission of a commit at the tail of the queue (R101, R104): what it has to show for the table to stay sound. -/

namespace Sys2Proof.Machine

variable {s t u : State} {d : Commit}

/-- `u` is `s` ready for the commit `d` to join the queue: its reservation made, its entry off the clear-due list, the
batch's feed advanced; and the commit passes what soundness asks of it. -/
structure State.readyFor (s u : State) (d : Commit) : Prop where
  entries : ∀ n, u.entryAt n = s.entryAt n
  worn : ∀ n, (u.slot n).worn = (s.slot n).worn
  marks : ∀ n, (u.slot n).retireMark = (s.slot n).retireMark
  spill : u.engine.spillCounts = s.engine.spillCounts
  holds : u.holds = s.holds
  commits : u.commits = s.commits
  store : u.store = s.store
  plan : s.batch.samePlan u.batch
  claims : u.claimsSound (s.claims ++ (s.claimOf d.change).toList)
  subject : ∀ n, d.change.subject = some n → n ∉ s.subjects ∧ ∃ e, s.entryAt n = some e
  single : ∀ n e, s.entryAt n = some e → d.change.isFor s.batch.lockedSlots n = true → s.isPending n = false
  fresh : (∀ n e, d.change = .insertEntry n e → e.state ≠ .retiring) ∧ (∀ n x, d.change = .setEntryState n x → x ≠ .retiring)
  living : ∀ n, d.change.needsLiving = some n → s.slotRetiring n = false
  settling : ∀ n p v, d.change = .settleHold n p v →
    ∃ h, (s.place p).live = some h ∧ h.slot = n ∧ h.state = .settling v ∧ v ≤ h.units
  modifying : ∀ n f b, d.change = .modifyEntry n f → f.balance = some (some b) → s.heldUnits n ≤ b
  due : ∀ n, (n ∈ u.engine.clearDue ∨ d.change = .clearEntry n) ↔ n ∈ s.engine.clearDue
  left : ∀ n ∈ u.engine.clearDue, d.change ≠ .clearEntry n

variable (h : s.readyFor u d)
include h

theorem State.readyFor.counts (n : Nat) :
    (u.joinQueue d).openHolds n = s.openHolds n ∧ (u.joinQueue d).heldUnits n = s.heldUnits n :=
  State.counts_congr (t := u.joinQueue d) h.holds n

theorem State.readyFor.retiring (n : Nat) : (u.joinQueue d).slotRetiring n = s.slotRetiring n :=
  State.slotRetiring_of_entry (t := u.joinQueue d) (h.entries n) (h.marks n)

theorem State.readyFor.queue : (u.joinQueue d).commits.queue = s.commits.queue ++ [d] := by
  rw [State.joinQueue_commits, h.commits]

theorem State.readyFor.mem_queue {c : Commit} : c ∈ (u.joinQueue d).commits.queue ↔ c ∈ s.commits.queue ∨ c = d := by
  rw [h.queue, List.mem_append, List.mem_singleton]

theorem State.readyFor.claims_perm : (s.claims ++ (s.claimOf d.change).toList).Perm (u.joinQueue d).claims := by
  have claimOf : ∀ c : Change, (u.joinQueue d).claimOf c = s.claimOf c := fun c =>
    State.claimOf_congr fun n _ => congrArg _ (h.entries n)
  have batch : (u.joinQueue d).batch.claims = s.batch.claims := h.plan.claims
  have tail : [d].filterMap (fun c => s.claimOf c.change) = (s.claimOf d.change).toList := by
    cases hd : s.claimOf d.change <;> simp [hd]
  rw [State.claims_eq, State.claims_eq, h.queue, batch, List.filterMap_append]
  simp only [claimOf]
  rw [tail, List.append_assoc, List.append_assoc]
  exact (List.perm_append_comm).append_left _

theorem State.readyFor.subjects_perm : (s.subjects ++ d.change.subject.toList).Perm (u.joinQueue d).subjects := by
  have batch : (u.joinQueue d).batch.subjects = s.batch.subjects := h.plan.subjects
  rw [State.subjects_eq, State.subjects_eq, h.queue, batch, List.filterMap_append]
  have tail : [d].filterMap (fun c => c.change.subject) = d.change.subject.toList := by
    cases hd : d.change.subject <;> simp [hd]
  rw [tail, List.append_assoc, List.append_assoc]
  exact (List.perm_append_comm).append_left _

theorem State.readyFor.directory (hs : s.runs) : (u.joinQueue d).directorySound := by
  refine State.directorySound_of (by rw [State.joinQueue_store, h.store]; exact hs.store)
    (by rw [State.joinQueue_store, h.store]; exact hs.unmarked) (fun n => ?_)
    (State.spillSound_congr (s := s) (t := u.joinQueue d) h.spill (fun n => congrArg _ (h.entries n)) hs.directory.spill) ?_
  · rw [State.joinQueue_store, h.store]
    obtain ⟨h1, h2, h3⟩ := hs.directory.images n
    exact ⟨(h.entries n).trans h1, (h.worn n).trans h2, (h.marks n).trans h3⟩
  · have c := h.claims.perm h.claims_perm
    exact ⟨c.reserved, c.slots, c.ids, c.placed, c.newIds⟩

theorem State.readyFor.holdsSound (hs : s.runs) : (u.joinQueue d).holdsSound where
  lie p y hy := by
    have hy : (u.place p).live = some y := hy
    rw [State.place_congr h.holds] at hy
    obtain ⟨hp, e, he⟩ := hs.holds.lie p y hy
    exact ⟨hp, e, (h.entries _).trans he⟩
  within n e b he hb := by
    rw [(h.counts n).2]
    exact hs.holds.within n e b ((h.entries n).symm.trans he) hb
  settling c hc n p v hcn := by
    have live : ((u.joinQueue d).place p).live = (s.place p).live := congrArg _ (State.place_congr h.holds p)
    rw [live]
    rcases h.mem_queue.1 hc with hc | rfl
    · exact hs.holds.settling c hc n p v hcn
    · exact h.settling n p v hcn
  modifying c hc n f b hcn hb := by
    rw [(h.counts n).2]
    rcases h.mem_queue.1 hc with hc | rfl
    · exact hs.holds.modifying c hc n f b hcn hb
    · exact h.modifying n f b hcn hb
  clearing n := by
    rw [h.retiring, (h.counts n).1, ← hs.holds.clearing n, ← h.due n]
    simp only [State.clearQueued_iff, h.mem_queue, State.joinQueue_engine]
    constructor
    · rintro (hn | ⟨c, hc | rfl, hcn⟩)
      · exact .inl (.inl hn)
      · exact .inr ⟨c, hc, hcn⟩
      · exact .inl (.inr hcn)
    · rintro ((hn | hdn) | ⟨c, hc, hcn⟩)
      · exact .inl hn
      · exact .inr ⟨d, .inr rfl, hdn⟩
      · exact .inr ⟨c, .inl hc, hcn⟩
  cleared n hn := by
    rw [← Bool.not_eq_true, State.clearQueued_iff]
    rintro ⟨c, hc, hcn⟩
    rcases h.mem_queue.1 hc with hc | rfl
    · have := hs.holds.cleared n ((h.due n).1 (.inl hn))
      rw [State.clearQueued_iff.2 ⟨c, hc, hcn⟩] at this
      cases this
    · exact h.left n hn hcn

/-- The head of a queue that has work in progress stays the head. -/
theorem State.readyFor.head (hs : s.runs) {c : Commit} {w : Work} (hw : s.commits.work = some w)
    (hc : (u.joinQueue d).commits.queue.head? = some c) : s.commits.queue.head? = some c := by
  obtain ⟨b, hb, -⟩ := hs.formed.2 w hw
  rw [h.queue] at hc
  cases hq : s.commits.queue with
  | nil => rw [hq] at hb; cases hb
  | cons x l => rw [hq] at hc; exact hc

theorem State.readyFor.subjectsSound (hs : s.runs) : (u.joinQueue d).subjectsSound where
  apart := by
    refine h.subjects_perm.nodup_iff.1 (List.nodup_append'.2 ⟨hs.subjects.apart, ?_, fun n hn hd => ?_⟩)
    · cases d.change.subject <;> simp
    · exact (h.subject n (Option.mem_toList.1 hd)).1 hn
  lie n hn := by
    rw [show (u.joinQueue d).entryAt n = s.entryAt n from h.entries n]
    rcases List.mem_append.1 (h.subjects_perm.mem_iff.2 hn) with hn | hn
    · exact hs.subjects.lie n hn
    · exact (h.subject n (Option.mem_toList.1 hn)).2
  single n e he := by
    have he : s.entryAt n = some e := (h.entries n).symm.trans he
    rw [show (u.joinQueue d).batch.lockedSlots = s.batch.lockedSlots from h.plan.lockedSlots, h.queue, List.filter_append,
      List.length_append]
    cases hf : d.change.isFor s.batch.lockedSlots n with
    | false => simpa [hf] using hs.subjects.single n e he
    | true =>
      have none := State.isPending_eq_false.1 (h.single n e he hf)
      rw [List.filter_eq_nil_iff.2 fun c hc => by simp [none c hc]]
      simp [hf]
  fresh c hc := by
    rcases h.mem_queue.1 hc with hc | rfl
    · exact hs.subjects.fresh c hc
    · exact h.fresh
  living c hc n hcn := by
    rw [h.retiring]
    rcases h.mem_queue.1 hc with hc | rfl
    · exact hs.subjects.living c hc n hcn
    · exact h.living n hcn
  work c w hc hw := by
    have hw : s.commits.work = some w := by rw [← h.commits]; exact hw
    exact (hs.subjects.work c w (h.head hs hw hc) hw).congr h.entries h.marks h.plan.items h.plan.records
      fun n _ h0 => (h.counts n).1.trans h0

/-- The admission leaves the table sound where it leaves the batch sound. -/
theorem State.readyFor.tableSound (hs : s.runs) (hb : (u.joinQueue d).batchSound) : (u.joinQueue d).tableSound :=
  State.tableSound_of (by rw [State.joinQueue_store, h.store]; exact hs.store)
    (by rw [State.joinQueue_store, h.store, State.joinQueue_commits, h.commits]; exact hs.works)
    (h.directory hs) (h.holdsSound hs) (h.subjectsSound hs) hb

/-- A commit that is not the batch's leaves the batch as it was. -/
theorem State.readyFor.batchSound (hs : s.runs) (hb : u.batch = s.batch) (hscan : u.scan.state = .running → s.scan.state = .running)
    (hd : (∀ i n, d.change ≠ .stageItem i n) ∧ d.change ≠ .promoteBatch) : (u.joinQueue d).batchSound := by
  have b := hs.batch
  have entry : ∀ n, (u.joinQueue d).entryAt n = s.entryAt n := h.entries
  refine
    { apart := by rw [State.joinQueue_batch, hb]; exact b.apart
      fresh := by rw [State.joinQueue_batch, hb]; exact b.fresh
      noScan := by rw [State.joinQueue_batch, hb]; exact fun hl hr => b.noScan hl (hscan hr)
      recorded := by rw [State.joinQueue_batch, hb]; exact b.recorded
      named := ?_
      stagedItems := ?_
      fedWhole := by rw [State.joinQueue_batch, hb]; exact b.fedWhole
      stageWrites := ?_
      order := ?_ }
  · rw [State.joinQueue_batch, hb]
    intro hl i x r hx hr
    rw [entry, h.retiring, (h.counts r.slot).2]
    exact b.named hl i x r hx hr
  · rw [State.joinQueue_batch, hb]
    intro hl i x r hx hr
    obtain ⟨idle, staged⟩ := b.stagedItems hl i x r hx hr
    rw [(h.counts r.slot).1, show ((u.joinQueue d).slot r.slot).worn = _ from h.worn r.slot, State.joinQueue_store, h.store,
      State.stagedImage_congr (entry _)]
    exact ⟨idle, fun hn hf hq => staged hn hf fun c hc => hq c (h.mem_queue.2 (.inl hc))⟩
  · rw [State.joinQueue_batch, hb]
    intro c hc i n hcn
    rcases h.mem_queue.1 hc with hc | rfl
    · exact b.stageWrites c hc i n hcn
    · exact absurd hcn (hd.1 i n)
  · intro front c back hq hc x hx i n hxn
    rw [h.queue] at hq
    rcases List.append_eq_append_iff.1 hq with ⟨l, rfl, hl⟩ | ⟨l, hl, hrest⟩
    · cases l with
      | nil =>
        simp only [List.nil_append, List.cons.injEq] at hl
        exact hd.2 (hl.1 ▸ hc)
      | cons y l => simp at hl
    · cases l with
      | nil =>
        simp only [List.nil_append, List.cons.injEq] at hrest
        exact hd.2 (hrest.1 ▸ hc)
      | cons y l =>
        simp only [List.cons_append, List.cons.injEq] at hrest
        obtain ⟨rfl, rfl⟩ := hrest
        rcases List.mem_append.1 hx with hx | hx
        · exact b.order front c l hl hc x hx i n hxn
        · cases List.mem_singleton.1 hx
          exact hd.1 i n hxn

omit h in
/-- The queue stays well formed, and the PROMOTE is in it no more often, where a commit of another kind joins. -/
theorem State.runs.joinQueue (hs : s.runs) (h : s.readyFor u d) (hb : u.batch = s.batch)
    (hscan : u.scan.state = .running → s.scan.state = .running)
    (hd : (∀ i n, d.change ≠ .stageItem i n) ∧ d.change ≠ .promoteBatch) (hwf : Table.wf emptySlot u.engine.slots = true)
    (hphase : u.phase = s.phase) (fits : d.originFits)
    (kinds : ∀ p k t, d.origin = .port p k t → k ≠ applyNotice ∧ k ≠ scanNotice) : (u.joinQueue d).runs := by
  have ht := h.tableSound hs (h.batchSound hs hb hscan hd)
  have hp : (u.joinQueue d).phase = .running := hphase.trans hs.phase
  exact
    { phase := hp
      wf := hwf
      unmarked := by rw [State.joinQueue_store, h.store]; exact hs.unmarked
      formed := by
        refine ⟨fun c hc => ?_, fun w hw => ?_⟩
        · rcases h.mem_queue.1 hc with hc | rfl
          · exact hs.formed.1 c hc
          · exact ⟨fits, kinds⟩
        · rw [State.joinQueue_commits, h.commits] at hw
          obtain ⟨c, hc, hf⟩ := hs.formed.2 w hw
          refine ⟨c, ?_, hf⟩
          rw [h.queue]
          cases hq : s.commits.queue with
          | nil => rw [hq] at hc; cases hc
          | cons x l => rw [hq] at hc; exact hc
      once := by
        obtain ⟨one, fed⟩ := hs.once
        refine ⟨?_, fun c hc hcp _ => ?_⟩
        · rw [h.queue, List.filter_append]
          simpa [hd.2] using one
        · rw [State.joinQueue_batch, hb]
          rcases h.mem_queue.1 hc with hc | rfl
          · exact fed c hc hcp hs.phase
          · exact absurd hcp hd.2
      store := ht.store
      works := ht.works
      directory := ht.directory hp
      holds := ht.holds hp
      subjects := ht.subjects hp
      batch := ht.batch hp }

end Sys2Proof.Machine
end

section
/-! The admissions of single changes, MOVEs, settlements, CLASS_WRITEs and SLOT_CLEARs (02, 05, 06, 07). -/

namespace Sys2Proof.Machine

variable {s t u : State} {d : Commit}

/-! ### Subjects and reservations that are free -/

/-- An entry that is neither pending nor locked is no commit's and no batch's subject (R23, R24). -/
theorem State.not_subject {n : Nat} (hp : s.isPending n = false) (hl : s.locked n = false) : n ∉ s.subjects := by
  intro hn
  rcases State.mem_subjects.1 hn with ⟨c, hc, hcn⟩ | hb
  · have := State.isPending_eq_false.1 hp c hc
    rw [Change.isFor_iff.2 (.inl hcn)] at this
    cases this
  · rw [State.locked_eq_true.2 (Batch.mem_subjects.1 hb)] at hl
    cases hl

theorem State.locked_of_unlocked (h : s.batch.isLocked = false) (n : Nat) : s.locked n = false := by
  unfold State.locked; rw [h]; rfl

/-- What a commit is for as a single subject is what it is for at all, where it is not the batch's. -/
theorem Change.subject_of_isFor {c : Change} (hc : (∀ i n, c ≠ .stageItem i n) ∧ c ≠ .promoteBatch) {locked : List Nat}
    {n : Nat} (hf : c.isFor locked n = true) : c.subject = some n := by
  rcases Change.isFor_iff.1 hf with h | ⟨i, h⟩ | ⟨h, -⟩
  · exact h
  · exact absurd h (hc.1 i n)
  · exact absurd h hc.2

/-- A reservation for a MOVE is for the entry that a queued MOVE is for (R14). -/
theorem State.source_of_move {n : Nat} {id : List Byte} (h : (n, id, Holder.move) ∈ s.claims) :
    ∃ a e, a ∈ s.subjects ∧ s.entryAt a = some e ∧ e.id = id := by
  rcases State.mem_claims.1 h with ⟨c, hc, hcn⟩ | hb
  · cases hch : c.change with
    | moveEntry a b =>
      rw [hch] at hcn
      obtain ⟨e, he, hen⟩ := Option.map_eq_some_iff.1 hcn
      cases hen
      exact ⟨a, e, State.mem_subjects.2 (.inl ⟨c, hc, by rw [hch]; rfl⟩), he, rfl⟩
    | insertEntry a e => rw [hch] at hcn; cases hcn
    | _ => rw [hch] at hcn; cases hcn
  · obtain ⟨-, x, r, -, -, hy⟩ := Batch.mem_claims.1 hb
    cases hy

/-- The ID of an entry that nothing is pending for is in no reservation (R19). -/
theorem State.runs.id_unclaimed (hs : s.runs) {n : Nat} {e : Entry} (he : s.entryAt n = some e) (hn : n ∉ s.subjects) :
    e.id ∉ s.claims.map (·.2.1) := by
  intro hm
  obtain ⟨⟨m, id, x⟩, hmem, hid⟩ := List.mem_map.1 hm
  have hid : id = e.id := hid
  subst hid
  by_cases hx : x = .move
  · subst hx
    obtain ⟨a, e', ha, he', hid⟩ := State.source_of_move hmem
    exact hn (hs.directory.alone a n e' e he' he hid ▸ ha)
  · exact hs.directory.newIds m e.id x hmem hx n e he rfl

/-- An ID that is neither found nor reserved is new (R19). -/
theorem State.runs.id_new (hs : s.runs) {id : List Byte} (h : s.foundOrReserved id = none) :
    id ∉ s.claims.map (·.2.1) ∧ ∀ m e, s.entryAt m = some e → e.id ≠ id := by
  unfold State.foundOrReserved at h
  split at h
  · cases h
  · rename_i hl
    refine ⟨fun hm => ?_, fun m e he => hs.absent hl he⟩
    obtain ⟨⟨m, i, x⟩, hmem, hid⟩ := List.mem_map.1 hm
    exact State.reservedFor_eq_none h ((hs.directory.reserved m i x).2 hmem) hid

/-! ### Ready for a commit -/

/-- A commit without reservation that leaves the clear-due list alone. -/
theorem State.runs.readyFor_plain (hs : s.runs) (hcl : s.claimOf d.change = none)
    (subject : ∀ n, d.change.subject = some n → n ∉ s.subjects ∧ ∃ e, s.entryAt n = some e)
    (single : ∀ n e, s.entryAt n = some e → d.change.isFor s.batch.lockedSlots n = true → s.isPending n = false)
    (fresh : ∀ n x, d.change = .setEntryState n x → x ≠ .retiring)
    (living : ∀ n, d.change.needsLiving = some n → s.slotRetiring n = false)
    (settling : ∀ n p v, d.change = .settleHold n p v →
      ∃ h, (s.place p).live = some h ∧ h.slot = n ∧ h.state = .settling v ∧ v ≤ h.units)
    (modifying : ∀ n f b, d.change = .modifyEntry n f → f.balance = some (some b) → s.heldUnits n ≤ b)
    (clear : ∀ n, d.change ≠ .clearEntry n) : s.readyFor s d where
  entries _ := rfl
  worn _ := rfl
  marks _ := rfl
  spill := rfl
  holds := rfl
  commits := rfl
  store := rfl
  plan := ⟨rfl, rfl, rfl⟩
  claims := by rw [hcl]; simpa using hs.directory.claims
  subject := subject
  single := single
  fresh := ⟨fun n e hd => (by rw [hd] at hcl; cases hcl), fresh⟩
  living := living
  settling := settling
  modifying := modifying
  due n := or_iff_left (clear n)
  left n _ := clear n

theorem State.entryAt_reserveSlot {n : Nat} (hp : s.placeable n = true) (id : List Byte) (x : Holder) (m : Nat) :
    (s.reserveSlot n id x).entryAt m = s.entryAt m := by
  unfold State.reserveSlot
  rw [State.entryAt_setSlot]
  split
  · rename_i hm
    unfold State.entryAt
    rw [hm, (State.placeable_iff.1 hp).1]
    rfl
  · rfl

theorem State.marks_reserveSlot (s : State) (n : Nat) (id : List Byte) (x : Holder) (m : Nat) :
    ((s.reserveSlot n id x).slot m).worn = (s.slot m).worn ∧
      ((s.reserveSlot n id x).slot m).retireMark = (s.slot m).retireMark := by
  unfold State.reserveSlot
  rw [State.slot_setSlot]
  split
  · rename_i hm; rw [hm]; exact ⟨rfl, rfl⟩
  · exact ⟨rfl, rfl⟩

/-- A commit with a reservation of a FREE, sound slot: a single Insert's, or a MOVE's. -/
theorem State.runs.readyFor_reserve (hs : s.runs) {n : Nat} {id : List Byte} {x : Holder}
    (hcl : s.claimOf d.change = some (n, id, x)) (hp : s.placeable n = true) (hl : liesRight n id)
    (hid : id ∉ s.claims.map (·.2.1)) (hnew : x ≠ .move → ∀ m e, s.entryAt m = some e → e.id ≠ id)
    (subject : ∀ n, d.change.subject = some n → n ∉ s.subjects ∧ s.isPending n = false ∧ ∃ e, s.entryAt n = some e)
    (fresh : ∀ n e, d.change = .insertEntry n e → e.state ≠ .retiring) : s.readyFor (s.reserveSlot n id x) d where
  entries := State.entryAt_reserveSlot hp id x
  worn m := (s.marks_reserveSlot n id x m).1
  marks m := (s.marks_reserveSlot n id x m).2
  spill := rfl
  holds := rfl
  commits := rfl
  store := rfl
  plan := ⟨rfl, rfl, rfl⟩
  claims := by rw [hcl]; exact hs.directory.claims.reserve hp hl hid hnew
  subject m hm := ⟨(subject m hm).1, (subject m hm).2.2⟩
  single m e _ hf := by
    refine (subject m (Change.subject_of_isFor ⟨fun i k h => ?_, fun h => ?_⟩ hf)).2.1 <;> rw [h] at hcl <;> cases hcl
  fresh := ⟨fresh, fun m y hd => by rw [hd] at hcl; cases hcl⟩
  living m hm := by cases hd : d.change <;> simp_all [Change.needsLiving, State.claimOf]
  settling m p v hd := by rw [hd] at hcl; cases hcl
  modifying m f b hd := by rw [hd] at hcl; cases hcl
  due m := or_iff_left fun hd => by rw [hd] at hcl; cases hcl
  left m _ hd := by rw [hd] at hcl; cases hcl

/-- An accepted request leaves the table sound where its commit is ready to join the queue (R120). -/
theorem State.runs.tableSound_accept (hs : s.runs) {p : Port} {r : Request} {c : Change}
    (h : s.readyFor u ⟨c, .port p r.kind.code r.tag⟩) (hb : u.batch = s.batch) (hscan : u.scan = s.scan)
    (hc : (∀ i n, c ≠ .stageItem i n) ∧ c ≠ .promoteBatch) : (u.accept p r c).tableSound :=
  (State.sameTable_setPort _ _ _).tableSound (h.tableSound hs (h.batchSound hs hb (by rw [hscan]; exact id) hc))

/-! ### Single changes (07) -/

/-- What the checks on the entry that a change names have passed (Table 7-1). -/
theorem State.validateNamed_eq_ok {sample : Bool} {x : Item} {n : Nat} (h : s.validateNamed sample x = .ok n) :
    ∃ e, s.entryAt n = some e ∧ e.id = x.id ∧ s.isPending n = false ∧ s.slotRetiring n = false ∧
      ∀ id y f b, x = .modify id y f → f.balance = some (some b) → s.heldUnits n ≤ b := by
  unfold State.validateNamed at h
  split at h
  · cases h
  · rename_i m hl
    split at h
    · cases h
    · rename_i e he
      split at h
      · cases h
      · rename_i hr
        cases h
        have passed : ∀ k ∈ s.entryChecks sample x n e, k.1 = false := fun k hk => by
          have := List.find?_eq_none.1 (Option.map_eq_none_iff.1 hr) k hk
          simpa using this
        obtain ⟨⟨e', he', hid⟩, -⟩ := State.lookup_eq_some hl
        rw [he] at he'
        cases he'
        refine ⟨e, he, hid, passed (s.isPending n, .entryBusy, [s.pendingCode n]) (by simp [State.entryChecks]), ?_,
          fun id y f b hx hf => ?_⟩
        · rw [State.slotRetiring_eq he]
          exact passed (s.isRetiring n e, .retiring, []) (by simp [State.entryChecks])
        · subst hx
          have check := passed (decide (b < s.heldUnits n), .held, be 3 (s.heldUnits n))
            (List.mem_append_right _ (by simp [State.kindChecks, State.modifyChecks, Entry.withFields, hf]))
          exact Nat.le_of_not_lt (of_decide_eq_false check)

/-- What an Insert's validation has found (R126). -/
theorem State.validateInsert_eq_ok {sample : Bool} {image : Entry} {n : Nat} (h : s.validateInsert sample image = .ok n) :
    s.foundOrReserved image.id = none ∧ s.placeable n = true ∧ liesRight n image.id := by
  unfold State.validateInsert at h
  split at h
  · cases h
  · rename_i hf
    split at h
    · cases h
    · split at h
      · rename_i m hm
        cases h
        exact ⟨hf, State.placement_lies hm⟩
      · cases h

theorem State.validate_of_named {sample : Bool} {x : Item} (hx : x.isInsert = false) :
    s.validate sample x = s.validateNamed sample x := by
  cases x with
  | insert image => cases hx
  | _ => rfl

/-- A change other than an Insert is for the entry it names alone. -/
theorem Item.change_of_named {x : Item} (hx : x.isInsert = false) (n : Nat) :
    (x.change n).subject = some n ∧ (∀ s : State, s.claimOf (x.change n) = none) ∧
      ((∀ i m, x.change n ≠ .stageItem i m) ∧ x.change n ≠ .promoteBatch) ∧ (∀ m, x.change n ≠ .clearEntry m) ∧
      (∀ m y, x.change n = .setEntryState m y → y ≠ .retiring) ∧ (∀ m p v, x.change n ≠ .settleHold m p v) := by
  cases x with
  | insert image => cases hx
  | bar id y =>
    exact ⟨rfl, fun _ => rfl, ⟨nofun, nofun⟩, nofun, fun m y h => (by cases h; nofun), nofun⟩
  | unbar id y =>
    exact ⟨rfl, fun _ => rfl, ⟨nofun, nofun⟩, nofun, fun m y h => (by cases h; nofun), nofun⟩
  | _ => exact ⟨rfl, fun _ => rfl, ⟨nofun, nofun⟩, nofun, nofun, nofun⟩

theorem State.runs.tableSound_takeChange (hs : s.runs) (item : Option Item) (r : Request)
    (hnew : ∀ e, item = some (.insert e) → e.state ≠ .retiring) : (takeChange item r s).tableSound := by
  rcases takeChange_cases item r s with h | ⟨x, n, rfl, hl, hv, h⟩
  · exact (State.sameTable_answersTo h).tableSound hs.tableSound
  · rw [h]
    cases hx : x.isInsert with
    | true =>
      cases x with
      | insert image =>
        obtain ⟨hf, hp, hr⟩ := State.validateInsert_eq_ok hv
        obtain ⟨hid, habs⟩ := hs.id_new hf
        exact hs.tableSound_accept (hs.readyFor_reserve rfl hp hr hid (fun _ => habs) nofun
          (fun n e hd => by cases hd; exact hnew image rfl)) rfl rfl ⟨nofun, nofun⟩
      | _ => cases hx
    | false =>
      rw [State.validate_of_named hx] at hv
      obtain ⟨e, he, -, hpend, hret, hmod⟩ := State.validateNamed_eq_ok hv
      obtain ⟨hsub, hcl, hkind, hclear, hfresh, hsettle⟩ := Item.change_of_named hx n
      have same : s.reserveFor x n .singleInsert = s := by unfold State.reserveFor; rw [hx]; rfl
      rw [same]
      refine hs.tableSound_accept (hs.readyFor_plain (hcl s) (fun m hm => ?_) (fun m k _ hf => ?_) hfresh (fun m hm => ?_)
        (fun m p v hd => absurd hd (hsettle m p v)) (fun m f b hd hb => ?_) hclear) rfl rfl hkind
      · rw [hsub] at hm
        cases hm
        exact ⟨State.not_subject hpend (State.locked_of_unlocked hl n), e, he⟩
      · have := Change.subject_of_isFor hkind hf
        rw [hsub] at this
        cases this
        exact hpend
      · cases x with
        | insert image => cases hx
        | _ => cases hm; exact hret
      · cases x with
        | modify id y g => cases hd; exact hmod id y f b rfl hb
        | insert image => cases hx
        | _ => cases hd

/-! ### Relocate (R135) -/

/-- A MOVE of an entry that is no subject yet to a FREE, sound slot where its ID may lie. -/
theorem State.runs.readyFor_move (hs : s.runs) {a b : Nat} {e : Entry} (he : s.entryAt a = some e)
    (hp : s.isPending a = false) (hn : a ∉ s.subjects) (hb : s.placeable b = true) (hr : liesRight b e.id) (o : Origin) :
    s.readyFor (s.reserveSlot b e.id .move) ⟨.moveEntry a b, o⟩ := by
  refine hs.readyFor_reserve ?_ hb hr (hs.id_unclaimed he hn) (fun h => absurd rfl h) (fun m hm => ?_) nofun
  · simp only [State.claimOf, he, Option.map_some]
  · cases hm
    exact ⟨hn, hp, e, he⟩

theorem State.runs.tableSound_takeRelocate (hs : s.runs) (r : Request) : (takeRelocate r s).tableSound := by
  rcases takeRelocate_cases s r with ⟨t, h⟩ | h | ⟨id, n, t, hl, hlook, hpend, hp, hr, h⟩
  · refine (State.sameTable_answersTo h).tableSound ?_
    have spent : s.sameTable (s.spendFree t) := by
      unfold State.spendFree
      split <;> exact ⟨rfl, rfl, rfl, rfl, rfl, rfl, rfl, rfl, id⟩
    exact spent.tableSound hs.tableSound
  · exact (State.sameTable_answersTo h).tableSound hs.tableSound
  · rw [h]
    obtain ⟨⟨e, he, rfl⟩, -⟩ := State.lookup_eq_some hlook
    exact hs.tableSound_accept (hs.readyFor_move he hpend (State.not_subject hpend (State.locked_of_unlocked hl n)) hp hr _)
      rfl rfl ⟨nofun, nofun⟩

/-! ### Settle and Set Class (R31, R88) -/

theorem State.runs.tableSound_takeSettle (hs : s.runs) (p : Port) (r : Request) : (takeSettle p r s).tableSound := by
  rcases takeSettle_cases s p r with h | ⟨n, y, v, hn, hl, href, h⟩
  · exact (State.sameTable_answersTo h).tableSound hs.tableSound
  · rw [h]
    obtain ⟨hset, hu, hpend, hlock⟩ := State.settleRefusal_eq_none href
    have hs' : (s.setHold n { y with state := .settling v }).runs :=
      (s.holdsOnly_setHold n _).runs hs (hs.tableSound_setHold hl rfl rfl fun w hw => absurd hw (Hold.not_settling hset w))
    have live : ((s.setHold n { y with state := .settling v }).place n).live = some { y with state := .settling v } := by
      rw [State.setHold_live, if_pos rfl]
    obtain ⟨-, e, he⟩ := hs.holds.lie n y hl
    refine hs'.tableSound_accept (hs'.readyFor_plain rfl (fun m hm => ?_) (fun m k _ hf => ?_) nofun nofun
      (fun m q w hd => ?_) nofun nofun) rfl rfl ⟨nofun, nofun⟩
    · cases hm
      exact ⟨State.not_subject hpend hlock, e, he⟩
    · have : (Change.settleHold y.slot n v).subject = some m := Change.subject_of_isFor (c := .settleHold y.slot n v) ⟨nofun, nofun⟩ hf
      cases this
      exact hpend
    · cases hd
      exact ⟨_, live, rfl, rfl, hu⟩

theorem State.runs.tableSound_takeSetClass (hs : s.runs) (r : Request) : (takeSetClass r s).tableSound := by
  rcases takeSetClass_cases s r with h | ⟨c, record, h⟩
  · exact (State.sameTable_answersTo h).tableSound hs.tableSound
  · rw [h]
    exact hs.tableSound_accept (hs.readyFor_plain rfl nofun nofun nofun nofun nofun nofun nofun) rfl rfl ⟨nofun, nofun⟩

/-! ### Clear due (R25, R106) -/

/-- An entry on the clear-due list is locked by no batch (R25, R145). -/
theorem State.runs.unlocked_of_due (hs : s.runs) {n : Nat} (hn : n ∈ s.engine.clearDue) : s.locked n = false := by
  by_contra hl
  rw [Bool.not_eq_false] at hl
  obtain ⟨hlock, hmem⟩ := State.locked_eq_true.1 hl
  obtain ⟨x, r, hrec, hi, rfl⟩ := Batch.mem_lockedSlots.1 hmem
  obtain ⟨i, hx, hr⟩ := Batch.mem_recorded.1 hrec
  have living := ((hs.batch.named hlock i x r hx hr).1 hi).2
  rw [((hs.holds.clearing _).1 (.inl hn)).1] at living
  cases living

theorem State.runs.tableSound_admitClear (hs : s.runs) : s.admitClear.tableSound := by
  rcases State.admitClear_cases s with h | ⟨n, -, ho, h⟩
  · rw [h]; exact hs.tableSound
  · rw [h]
    have hn : n ∈ s.engine.clearDue := List.mem_of_find?_eq_some ho
    have hpend : s.isPending n = false := by simpa using List.find?_some ho
    obtain ⟨e, he⟩ := State.entryAt_of_slotRetiring ((hs.holds.clearing n).1 (.inl hn)).1
    have ready : s.readyFor (s.leaveClearDue n) ⟨.clearEntry n, .clearDue⟩ :=
      { entries := fun _ => rfl
        worn := fun _ => rfl
        marks := fun _ => rfl
        spill := rfl
        holds := rfl
        commits := rfl
        store := rfl
        plan := ⟨rfl, rfl, rfl⟩
        claims := by
          have c := hs.directory.claims
          simp only [State.claimOf, Option.toList_none, List.append_nil]
          exact ⟨c.reserved, c.slots, c.ids, c.placed, c.newIds⟩
        subject := fun m hm => by
          cases hm
          exact ⟨State.not_subject hpend (hs.unlocked_of_due hn), e, he⟩
        single := fun m k _ hf => by
          have : (Change.clearEntry n).subject = some m := Change.subject_of_isFor (c := .clearEntry n) ⟨nofun, nofun⟩ hf
          cases this
          exact hpend
        fresh := ⟨nofun, nofun⟩
        living := nofun
        settling := nofun
        modifying := nofun
        due := fun m => by
          simp only [State.leaveClearDue, List.mem_filter, Change.clearEntry.injEq]
          constructor
          · rintro (hm | rfl)
            · exact hm.1
            · exact hn
          · intro hm
            by_cases hmn : m = n
            · exact .inr hmn.symm
            · exact .inl ⟨hm, by simpa using hmn⟩
        left := fun m hm hd => by
          cases hd
          simp [State.leaveClearDue] at hm }
    exact ready.tableSound hs (ready.batchSound hs rfl id ⟨nofun, nofun⟩)

end Sys2Proof.Machine
end

section
/-! COMMIT_BEGIN (R102, R108, R111, R114): the work formed leaves the store sound however far it gets, and agrees with its
commit. -/

namespace Sys2Proof.Machine

variable {s t : State} {st : Store}

/-! ### Stores whose images come from entries and reservations -/

/-- A store is sound whose images keep the IDs of the entries in their slots or fill reservations for new entries. -/
theorem State.runs.store_sound_of (hs : s.runs)
    (images : ∀ n e, (st.slot n).image = some e → (∃ d, s.entryAt n = some d ∧ d.id = e.id) ∨
      ∃ x, x ≠ Holder.move ∧ (n, e.id, x) ∈ s.claims)
    (unmarked : ∀ n, (st.slot n).image = none → (st.slot n).retireMark = false) : st.sound where
  placed n e he := by
    rcases images n e he with ⟨d, hd, hid⟩ | ⟨x, -, hx⟩
    · exact hid ▸ hs.entry_liesRight hd
    · exact hs.directory.claimsPlaced n e.id x hx
  alone m n x y hx hy hxy := by
    refine .inl ?_
    rcases images m x hx with ⟨d, hd, hdx⟩ | ⟨k, hk, hkx⟩ <;> rcases images n y hy with ⟨d', hd', hdy⟩ | ⟨l, hl, hly⟩
    · exact hs.directory.alone m n d d' hd hd' (hdx.trans (hxy.trans hdy.symm))
    · exact absurd (hdx.trans hxy) (hs.directory.newIds n y.id l hly hl m d hd)
    · exact absurd (hdy.trans hxy.symm) (hs.directory.newIds m x.id k hkx hk n d' hd')
    · have same := List.inj_on_of_nodup_map hs.directory.claimsApart.2 hkx hly hxy
      exact congrArg Prod.fst same
  unmarked := unmarked

/-- A durable image is the image of the entry in its slot (R1). -/
theorem State.runs.entry_of_image (hs : s.runs) {n : Nat} {e : Entry} (he : (s.store.slot n).image = some e) :
    ∃ d, s.entryAt n = some d ∧ d.id = e.id := ⟨e, (hs.directory.images n).1.trans he, rfl⟩

/-- An image written for an entry in its slot, or into a reserved slot, leaves the store sound. -/
theorem State.runs.sound_writeImage (hs : s.runs) {n : Nat} {x : Entry}
    (hx : (∃ d, s.entryAt n = some d ∧ d.id = x.id) ∨ ∃ k, k ≠ Holder.move ∧ (n, x.id, k) ∈ s.claims) :
    (s.store.writeImage n x).sound := by
  refine hs.store_sound_of (fun m e he => ?_) fun m hm => ?_
  · rw [Store.slot_writeImage] at he
    split at he
    · rename_i h; cases he; rw [h]; exact hx
    · exact .inl (hs.entry_of_image he)
  · rw [Store.slot_writeImage] at hm ⊢
    split at hm
    · cases hm
    · rename_i h; rw [if_neg h]; exact hs.store.unmarked m hm

theorem State.runs.sound_clear (hs : s.runs) (n : Nat) : (s.store.clear n).sound := by
  refine hs.store_sound_of (fun m e he => ?_) fun m hm => ?_
  · rw [Store.slot_clear] at he
    split at he
    · cases he
    · exact .inl (hs.entry_of_image he)
  · rw [Store.slot_clear] at hm ⊢
    split at hm
    · rename_i h; rw [if_pos h]
    · rename_i h; rw [if_neg h]; exact hs.store.unmarked m hm

theorem State.runs.sound_mark (hs : s.runs) {n : Nat} {e : Entry} (he : s.entryAt n = some e) (k : Nat) :
    ((Work.mark n).updates k s.store).sound := by
  refine hs.store_sound_of (fun m x hx => ?_) fun m hm => ?_
  · simp only [Work.updates, Store.slot_setSlot] at hx
    split at hx
    · rename_i h; rw [h]; exact .inl (hs.entry_of_image hx)
    · exact .inl (hs.entry_of_image hx)
  · simp only [Work.updates, Store.slot_setSlot] at hm ⊢
    split at hm
    · rw [← (hs.directory.images n).1, he] at hm; cases hm
    · rename_i h; rw [if_neg h]; exact hs.store.unmarked m hm

/-- Each update of a MOVE leaves the store sound: the two slots hold one ID only while the target is marked (R112). -/
theorem State.runs.sound_move (hs : s.runs) {a b : Nat} {e x : Entry} (he : s.entryAt a = some e) (hid : x.id = e.id)
    (hb : s.entryAt b = none) (hlies : liesRight b x.id) (k : Nat) : ((Work.moveImage a b x).updates k s.store).sound := by
  have hab : b ≠ a := by rintro rfl; rw [hb] at he; cases he
  have image : ∀ m y, (s.store.slot m).image = some y → s.entryAt m = some y := fun m y hy =>
    (hs.directory.images m).1.trans hy
  have only : ∀ m y, (s.store.slot m).image = some y → y.id = x.id → m = a := fun m y hy hyx =>
    hs.directory.alone m a y e (image m y hy) he (hyx.trans hid)
  have slotOf : ∀ u : Store, (∀ m, m ≠ b → m ≠ a → u.slot m = s.store.slot m) → (u.slot b).image = some x →
      ((u.slot a = s.store.slot a ∧ (u.slot b).moveTarget = true) ∨
        ((u.slot a).image = none ∧ (u.slot a).retireMark = false)) → u.sound := by
    intro u other target source
    -- where a slot other than the target has an image, it had it before
    have was : ∀ m y, m ≠ b → (u.slot m).image = some y → (s.store.slot m).image = some y := by
      intro m y hm hy
      by_cases hma : m = a
      · subst hma
        rcases source with ⟨h, -⟩ | ⟨h, -⟩
        · rw [← h]; exact hy
        · rw [h] at hy; cases hy
      · rw [← other m hm hma]; exact hy
    have twin : ∀ m y, m ≠ b → (u.slot m).image = some y → y.id = x.id → (u.slot b).moveTarget = true := by
      intro m y hm hy hyx
      have hma := only m y (was m y hm hy) hyx
      subst hma
      rcases source with ⟨-, h⟩ | ⟨h, -⟩
      · exact h
      · rw [h] at hy; cases hy
    refine ⟨fun m y hy => ?_, fun m n y z hy hz hyz => ?_, fun m hm => ?_⟩
    · by_cases hm : m = b
      · subst hm; rw [target] at hy; cases hy; exact hlies
      · exact hs.store.placed m y (was m y hm hy)
    · by_cases hm : m = b
      · by_cases hn : n = b
        · exact .inl (hm.trans hn.symm)
        · rw [hm, target] at hy
          cases hy
          exact .inr (.inl (hm ▸ twin n z hn hz hyz.symm))
      · by_cases hn : n = b
        · rw [hn, target] at hz
          cases hz
          exact .inr (.inr (hn ▸ twin m y hm hy hyz))
        · exact .inl (hs.directory.alone m n y z (image m y (was m y hm hy)) (image n z (was n z hn hz)) hyz)
    · by_cases hmb : m = b
      · rw [hmb, target] at hm; cases hm
      · by_cases hma : m = a
        · subst hma
          rcases source with ⟨h, -⟩ | ⟨-, h⟩
          · rw [h] at hm ⊢; exact hs.store.unmarked m hm
          · exact h
        · rw [other m hmb hma] at hm ⊢; exact hs.store.unmarked m hm
  simp only [Work.updates]
  split
  · refine slotOf _ (fun m hm _ => ?_) ?_ (.inl ⟨?_, ?_⟩)
    · rw [Store.slot_setSlot, if_neg hm]
    · rw [Store.slot_setSlot_self]
    · rw [Store.slot_setSlot, if_neg (Ne.symm hab)]
    · rw [Store.slot_setSlot_self]
  · split
    · refine slotOf _ (fun m hm hma => ?_) ?_ (.inr ?_)
      · rw [Store.slot_clear, if_neg hma, Store.slot_setSlot, if_neg hm]
      · rw [Store.slot_clear, if_neg hab, Store.slot_setSlot_self]
      · rw [Store.slot_clear, if_pos rfl]; exact ⟨rfl, rfl⟩
    · refine slotOf _ (fun m hm hma => ?_) ?_ (.inr ?_)
      · rw [Store.slot_setSlot, if_neg hm, Store.slot_clear, if_neg hma, Store.slot_setSlot, if_neg hm]
      · rw [Store.slot_setSlot_self, Store.slot_clear, if_neg hab, Store.slot_setSlot_self]
      · rw [Store.slot_setSlot, if_neg (Ne.symm hab), Store.slot_clear, if_pos rfl]; exact ⟨rfl, rfl⟩

/-! ### Beginning -/

/-- A work begins that leaves the store sound however far it gets, and agrees with the head of the queue. -/
theorem State.runs.tableSound_begin (hs : s.runs) {c : Commit} {w : Work} (hc : s.commits.queue.head? = some c)
    (works : ∀ k, (w.updates k s.store).sound) (agrees : s.workAgrees c.change w) :
    State.tableSound { s with commits := { s.commits with work := some w } } := by
  obtain ⟨images, alone, spill, reserved, apart, placed, newIds⟩ := hs.directory
  obtain ⟨lie, within, settling, modifying, clearing, cleared⟩ := hs.holds
  obtain ⟨sapart, slie, single, fresh, living, -⟩ := hs.subjects
  obtain ⟨bapart, bfresh, noScan, recorded, named, stagedItems, fedWhole, stageWrites, order⟩ := hs.batch
  refine State.tableSound_of hs.store (fun v hv => by cases hv; exact works)
    ⟨images, alone, spill, reserved, apart, placed, newIds⟩ ⟨lie, within, settling, modifying, clearing, cleared⟩
    ⟨sapart, slie, single, fresh, living, fun d v hd hv => ?_⟩
    ⟨bapart, bfresh, noScan, recorded, named, stagedItems, fedWhole, stageWrites, order⟩
  cases hv
  have hd : s.commits.queue.head? = some d := hd
  rw [hc] at hd
  cases hd
  exact ⟨agrees.inserts, agrees.writes, agrees.clears, agrees.moves, agrees.stages, agrees.promotes⟩

/-- A batch that keeps its plan and its feed leaves the table sound. -/
theorem State.runs.setBatch_feed (hs : s.runs) {b : Batch} (h : s.batch.sameFeed b) : (s.setBatch b).runs := by
  have claims : (s.setBatch b).claims = s.claims := by
    rw [State.claims_eq, State.claims_eq, State.setBatch_batch, h.claims]; rfl
  have subjects : (s.setBatch b).subjects = s.subjects := by
    rw [State.subjects_eq, State.subjects_eq, State.setBatch_batch, h.subjects]; rfl
  have c := hs.directory.claims
  have directory : (s.setBatch b).directorySound :=
    State.directorySound_of hs.store hs.unmarked hs.directory.images hs.directory.spill
      (by rw [claims]; exact ⟨c.reserved, c.slots, c.ids, c.placed, c.newIds⟩)
  have holds : (s.setBatch b).holdsSound :=
    ⟨hs.holds.lie, hs.holds.within, hs.holds.settling, hs.holds.modifying, hs.holds.clearing, hs.holds.cleared⟩
  have subjectsSound : (s.setBatch b).subjectsSound :=
    { apart := by rw [subjects]; exact hs.subjects.apart
      lie := fun n hn => hs.subjects.lie n (subjects ▸ hn)
      single := fun n e he => by rw [State.setBatch_batch, h.lockedSlots]; exact hs.subjects.single n e he
      fresh := hs.subjects.fresh
      living := hs.subjects.living
      work := fun d w hd hw => (hs.subjects.work d w hd hw).congr (fun _ => rfl) (fun _ => rfl) h.items h.records
        fun _ _ h0 => h0 }
  have batch : (s.setBatch b).batchSound :=
    { apart := by rw [State.setBatch_batch, h.items]; exact hs.batch.apart
      fresh := by rw [State.setBatch_batch, h.items]; exact hs.batch.fresh
      noScan := by rw [State.setBatch_batch, h.locked]; exact hs.batch.noScan
      recorded := by rw [State.setBatch_batch, h.locked, h.records, h.items]; exact hs.batch.recorded
      named := by rw [State.setBatch_batch, h.locked, h.items, h.records]; exact hs.batch.named
      stagedItems := by rw [State.setBatch_batch, h.locked, h.items, h.records, h.fed]; exact hs.batch.stagedItems
      fedWhole := by rw [State.setBatch_batch, h.promoteFed, h.records, h.fed]; exact hs.batch.fedWhole
      stageWrites := by rw [State.setBatch_batch, h.locked, h.fed, h.records]; exact hs.batch.stageWrites
      order := hs.batch.order }
  exact
    { phase := hs.phase
      wf := hs.wf
      unmarked := hs.unmarked
      formed := hs.formed
      once := by
        refine ⟨hs.once.1, fun d hd hp _ => ?_⟩
        rw [State.setBatch_batch, h.locked, h.promoteFed]
        exact hs.once.2 d hd hp hs.phase
      store := hs.store
      works := hs.works
      directory := directory
      holds := holds
      subjects := subjectsSound
      batch := batch }

end Sys2Proof.Machine
end

section
/-! The work that each kind of commit forms (R108, R111, R114), and COMMIT_BEGIN. -/

namespace Sys2Proof.Machine

variable {s t : State} {c : Commit} {rest : List Commit}

/-! ### Agreement, by the form of the work -/

/-- An image formed from the entry that its commit is for. -/
theorem State.workAgrees_of_image {d : Change} {n : Nat} {x e : Entry} (hsub : d.subject = some n)
    (he : s.entryAt n = some e) (hid : x.id = e.id) (hbal : x.balance = d.balanceAfter e.balance)
    (hret : d = .retireEntry n → x.state = .retiring)
    (hliv : d.needsLiving = some n → d ≠ .retireEntry n → x.state ≠ .retiring) : s.workAgrees d (.writeImage n x) where
  inserts m y k z hd := by rw [hd] at hsub; cases hsub
  writes m y hm hw := by cases hw; exact ⟨e, he, hid, hbal, hret, hliv⟩
  clears _ hw := by cases hw
  moves _ _ _ hw := by cases hw
  stages _ _ _ _ hw := by cases hw
  promotes _ hw := by cases hw

theorem State.workAgrees_of_insert {n : Nat} {e : Entry} : s.workAgrees (.insertEntry n e) (.writeImage n e) where
  inserts m y k z hd hw := by cases hd; cases hw; rfl
  writes _ _ hsub _ := by cases hsub
  clears _ hw := by cases hw
  moves _ _ _ hw := by cases hw
  stages _ _ _ _ hw := by cases hw
  promotes _ hw := by cases hw

theorem State.workAgrees_of_clear {d : Change} {n : Nat} (h : s.openHolds n = 0) : s.workAgrees d (.clear n) where
  inserts _ _ _ _ _ hw := by cases hw
  writes _ _ _ hw := by cases hw
  clears m hw := by cases hw; exact h
  moves _ _ _ hw := by cases hw
  stages _ _ _ _ hw := by cases hw
  promotes _ hw := by cases hw

theorem State.workAgrees_of_mark {d : Change} {n : Nat} : s.workAgrees d (.mark n) where
  inserts _ _ _ _ _ hw := by cases hw
  writes _ _ _ hw := by cases hw
  clears _ hw := by cases hw
  moves _ _ _ hw := by cases hw
  stages _ _ _ _ hw := by cases hw
  promotes _ hw := by cases hw

theorem State.workAgrees_of_class {d : Change} {k : Nat} {r : ClassRecord} : s.workAgrees d (.writeClass k r) where
  inserts _ _ _ _ _ hw := by cases hw
  writes _ _ _ hw := by cases hw
  clears _ hw := by cases hw
  moves _ _ _ hw := by cases hw
  stages _ _ _ _ hw := by cases hw
  promotes _ hw := by cases hw

theorem State.workAgrees_of_move {d : Change} {a b : Nat} {x e : Entry} (he : s.entryAt a = some e) (hid : x.id = e.id)
    (hbal : x.balance = e.balance) (hret : s.isRetiring a e = true ↔ x.state = .retiring) :
    s.workAgrees d (.moveImage a b x) where
  inserts _ _ _ _ _ hw := by cases hw
  writes _ _ _ hw := by cases hw
  clears _ hw := by cases hw
  moves m k y hw := by cases hw; exact ⟨e, he, hid, hbal, hret⟩
  stages _ _ _ _ hw := by cases hw
  promotes _ hw := by cases hw

theorem State.workAgrees_of_stage {i n : Nat} {y : Item} {x : Entry} (hy : s.batch.items[i]? = some y)
    (hx : s.stagedImage n y = some x) : s.workAgrees (.stageItem i n) (.writeStaged n x) where
  inserts _ _ _ _ _ hw := by cases hw
  writes _ _ _ hw := by cases hw
  clears _ hw := by cases hw
  moves _ _ _ hw := by cases hw
  stages j m z hd hw := by cases hd; cases hw; exact ⟨y, hy, hx⟩
  promotes _ hw := by cases hw

theorem State.workAgrees_of_promote {d : Change} {ups : List (Nat × Promotion)}
    (h : ups.length = s.batch.records.length ∧
      ∀ (i : Nat) (y : Item) (r : ItemRecord) (u : Nat × Promotion), s.batch.items[i]? = some y →
        s.batch.records[i]? = some r → ups[i]? = some u →
        u.1 = r.slot ∧ (u.2 = .makeCurrent → r.needsStage = true) ∧ (u.2 = .clear → s.openHolds r.slot = 0) ∧
          (y.isRetire = false → u.2 = .makeCurrent)) : s.workAgrees d (.promote ups) where
  inserts _ _ _ _ _ hw := by cases hw
  writes _ _ _ hw := by cases hw
  clears _ hw := by cases hw
  moves _ _ _ hw := by cases hw
  stages _ _ _ _ hw := by cases hw
  promotes _ hw := by cases hw; exact h

/-! ### The works -/

/-- What COMMIT_BEGIN has to show of the work it forms. -/
def State.begins (s : State) (d : Change) (w : Work) : Prop :=
  (∀ k, (w.updates k s.store).sound) ∧ s.workAgrees d w

/-- The image of an entry rewritten in its slot. -/
theorem State.runs.begins_image (hs : s.runs) {d : Change} {n : Nat} {x e : Entry} (hsub : d.subject = some n)
    (he : s.entryAt n = some e) (hid : x.id = e.id) (hbal : x.balance = d.balanceAfter e.balance)
    (hret : d = .retireEntry n → x.state = .retiring)
    (hliv : d.needsLiving = some n → d ≠ .retireEntry n → x.state ≠ .retiring) : s.begins d (.writeImage n x) :=
  ⟨fun _ => hs.sound_writeImage (.inl ⟨e, he, hid.symm⟩), State.workAgrees_of_image hsub he hid hbal hret hliv⟩

/-- A Modify, Top Up, Bar or Unbar leaves its entry in a state that is not RETIRING (R132). -/
theorem State.runs.living_entry (hs : s.runs) (hc : c ∈ s.commits.queue) {n : Nat} (hliv : c.change.needsLiving = some n)
    {e : Entry} (he : s.entryAt n = some e) : e.state ≠ .retiring := by
  have := hs.subjects.living c hc n hliv
  rw [State.slotRetiring_eq he] at this
  exact of_decide_eq_false (Bool.or_eq_false_iff.1 this).1

theorem State.runs.begins_retire (hs : s.runs) {n : Nat} {e : Entry} (he : s.entryAt n = some e) :
    s.begins (.retireEntry n) (s.retireWork n e) := by
  unfold State.retireWork
  split
  · rename_i h0
    exact ⟨fun _ => hs.sound_clear n, State.workAgrees_of_clear h0⟩
  · split
    · exact ⟨hs.sound_mark he, State.workAgrees_of_mark⟩
    · exact hs.begins_image rfl he rfl rfl (fun _ => rfl) fun _ h => absurd rfl h

theorem State.runs.begins_move (hs : s.runs) (hc : c ∈ s.commits.queue) {a b : Nat} (hch : c.change = .moveEntry a b)
    {e : Entry} (he : s.entryAt a = some e) :
    s.begins (.moveEntry a b) (.moveImage a b { e with state := s.entryState a e }) := by
  have claim : (b, e.id, Holder.move) ∈ s.claims :=
    State.mem_claims.2 (.inl ⟨c, hc, by rw [hch]; simp only [State.claimOf, he, Option.map_some]⟩)
  refine ⟨hs.sound_move he rfl (hs.directory.claims.no_entry claim) (hs.directory.claimsPlaced b e.id _ claim),
    State.workAgrees_of_move he rfl rfl ?_⟩
  unfold State.entryState
  cases hr : s.isRetiring a e with
  | true => simp
  | false =>
    have : e.state ≠ .retiring := of_decide_eq_false (Bool.or_eq_false_iff.1 hr).1
    simp [this]

/-- A stage write leaves images alone (R114, R152). -/
theorem State.runs.begins_stage (hs : s.runs) {i n : Nat} {y : Item} {x : Entry} (hy : s.batch.items[i]? = some y)
    (hx : s.stagedImage n y = some x) : s.begins (.stageItem i n) (.writeStaged n x) := by
  refine ⟨fun k => Store.sound_congr (fun m => ?_) hs.store, State.workAgrees_of_stage hy hx⟩
  simp only [Work.updates, Store.slot_setSlot]
  split
  · rename_i h; rw [h]; exact ⟨rfl, rfl, rfl⟩
  · exact ⟨rfl, rfl, rfl⟩

/-! ### The PROMOTE (R114) -/

/-- The promotion decided for an item with its record as the PROMOTE begins (R114, R154). -/
theorem State.runs.promotionOf_record (hs : s.runs) (hl : s.batch.isLocked = true) {i : Nat} {y : Item} {r : ItemRecord}
    (hy : s.batch.items[i]? = some y) (hr : s.batch.records[i]? = some r) :
    (s.promotionOf (y, r)).1 = r.slot ∧ ((s.promotionOf (y, r)).2 = .makeCurrent → r.needsStage = true) ∧
      ((s.promotionOf (y, r)).2 = .clear → s.openHolds r.slot = 0) ∧
      (y.isRetire = false → (s.promotionOf (y, r)).2 = .makeCurrent) := by
  have idle := (hs.batch.stagedItems hl i y r hy hr).1
  have staged : y.isRetire = false → r.needsStage = true := fun hn => by
    by_contra h
    rw [(idle (Bool.eq_false_iff.2 h)).1] at hn
    cases hn
  cases y with
  | retire id k =>
    unfold State.promotionOf
    refine ⟨rfl, fun hm => ?_, fun hm => ?_, nofun⟩
    · by_contra h
      rcases (idle (Bool.eq_false_iff.2 h)).2 with h0 | hw
      · simp [h0] at hm
      · simp only [State.wornResident, hw, if_true] at hm
        split at hm <;> cases hm
    · by_contra h0
      simp only [if_neg h0] at hm
      split at hm <;> cases hm
  | _ => exact ⟨rfl, fun _ => staged rfl, nofun, fun _ => rfl⟩

/-- The image and retire mark of a slot after its promotion (R114). -/
theorem State.promotes.image {y : Item} {n : Nat} {u : Promotion} (h : s.promotes y n u) (hs : s.runs) :
    (∀ e, (promotedDurable u (s.store.slot n)).image = some e → (∃ d, s.entryAt n = some d ∧ d.id = e.id) ∨
      ∃ x, x ≠ Holder.move ∧ (n, e.id, x) ∈ s.claims) ∧
    ((promotedDurable u (s.store.slot n)).image = none → (promotedDurable u (s.store.slot n)).retireMark = false) := by
  have images := hs.directory.images n
  cases u with
  | makeCurrent =>
    have staged := h.staged rfl
    simp only [promotedDurable]
    cases hi : y.isInsert with
    | true =>
      cases y with
      | insert image =>
        have claim : (n, image.id, Holder.batchInsert) ∈ s.claims := State.mem_claims.2 (.inr (h.inserts hi))
        rw [staged, State.stagedImage_of_insert]
        exact ⟨fun e he => by cases he; exact .inr ⟨.batchInsert, nofun, claim⟩, nofun⟩
      | _ => cases hi
    | false =>
      obtain ⟨d, hd, -⟩ := h.named hi
      rw [staged, State.stagedImage_of_named s n hi, hd]
      exact ⟨fun e he => by cases he; exact .inl ⟨d, rfl, (Item.rewrite_id hi d).symm⟩, nofun⟩
  | clear => exact ⟨nofun, fun _ => rfl⟩
  | mark =>
    simp only [promotedDurable]
    refine ⟨fun e he => .inl (hs.entry_of_image he), fun hn => ?_⟩
    rw [← images.1] at hn
    cases hi : y.isInsert with
    | true =>
      cases y with
      | insert image => cases h.retires rfl
      | _ => cases hi
    | false =>
      obtain ⟨d, hd, -⟩ := h.named hi
      rw [hn] at hd
      cases hd

theorem State.runs.begins_promote (hs : s.runs) {w : Option Work} (hc : s.commits = ⟨c :: rest, w⟩)
    (hch : c.change = .promoteBatch) : s.begins .promoteBatch (.promote (s.batch.recorded.map s.promotionOf)) := by
  obtain ⟨hl, fed⟩ := hs.once.2 c (by rw [hc]; exact List.mem_cons_self) hch hs.phase
  have quiet := hs.quiet_of_promote hc hch
  have hrec := hs.batch.recorded hl
  have length : (s.batch.recorded.map s.promotionOf).length = s.batch.records.length := by
    simp [Batch.recorded, hrec]
  have at_ : ∀ (i : Nat) (y : Item) (r : ItemRecord), s.batch.items[i]? = some y → s.batch.records[i]? = some r →
      (s.batch.recorded.map s.promotionOf)[i]? = some (s.promotionOf (y, r)) := fun i y r hy hr => by
    rw [List.getElem?_map]
    have : s.batch.recorded[i]? = some (y, r) := List.getElem?_zip_eq_some.2 ⟨hy, hr⟩
    rw [this]
    rfl
  have slots : (s.batch.recorded.map s.promotionOf).map (·.1) = s.batch.records.map (·.slot) := by
    have zip := List.map_snd_zip (Nat.le_of_eq hrec)
    conv_rhs => rw [← zip]
    rw [List.map_map, List.map_map]
    refine List.map_congr_left fun x hx => ?_
    obtain ⟨i, hy, hr⟩ := Batch.mem_recorded.1 hx
    exact (hs.promotionOf_record hl hy hr).1
  have nodup : ((s.batch.recorded.map s.promotionOf).map (·.1)).Nodup := slots ▸ hs.records_nodup hl
  refine ⟨fun k => ?_, State.workAgrees_of_promote ⟨length, fun i y r u hy hr hu => ?_⟩⟩
  · change ((s.batch.recorded.map s.promotionOf).foldl Store.promoteSlot s.store).sound
    have shape : ∀ n, (((s.batch.recorded.map s.promotionOf).foldl Store.promoteSlot s.store).slot n = s.store.slot n) ∨
        ∃ y u, s.promotes y n u ∧ ((s.batch.recorded.map s.promotionOf).foldl Store.promoteSlot s.store).slot n
          = promotedDurable u (s.store.slot n) := by
      intro n
      by_cases hn : n ∈ (s.batch.recorded.map s.promotionOf).map (·.1)
      · rw [slots] at hn
        obtain ⟨r, hr, rfl⟩ := List.mem_map.1 hn
        obtain ⟨i, hi⟩ := List.mem_iff_getElem?.1 hr
        obtain ⟨y, hy⟩ := hs.item_of_record hl hi
        obtain ⟨hslot, hcur, hclr, hret⟩ := hs.promotionOf_record hl hy hi
        refine .inr ⟨y, _, hs.promotes_of_record hl fed quiet hy hi hcur hclr hret, ?_⟩
        have := Store.promoteSlots_at _ nodup s.store (List.mem_of_getElem? (at_ i y r hy hi))
        rw [hslot] at this
        exact this
      · exact .inl (Store.slot_promoteSlots_other _ _ hn)
    refine hs.store_sound_of (fun n e he => ?_) fun n hn => ?_
    · rcases shape n with h | ⟨y, u, hp, h⟩ <;> rw [h] at he
      · exact .inl (hs.entry_of_image he)
      · exact (hp.image hs).1 e he
    · rcases shape n with h | ⟨y, u, hp, h⟩ <;> rw [h] at hn ⊢
      · exact hs.store.unmarked n hn
      · exact (hp.image hs).2 hn
  · rw [at_ i y r hy hr] at hu
    cases hu
    exact hs.promotionOf_record hl hy hr

/-! ### COMMIT_BEGIN (R102) -/

theorem State.runs.begins_formWork (hs : s.runs) {v : Option Work} (hc : s.commits = ⟨c :: rest, v⟩) {w : Work}
    (hw : s.formWork c.change = some w) : s.begins c.change w := by
  have queued : c ∈ s.commits.queue := by rw [hc]; exact List.mem_cons_self
  have living := fun n hliv e he => hs.living_entry queued (n := n) hliv (e := e) he
  cases hch : c.change with
  | insertEntry n e =>
    rw [hch] at hw
    cases hw
    have claim : (n, e.id, Holder.singleInsert) ∈ s.claims :=
      State.mem_claims.2 (.inl ⟨c, queued, by rw [hch]; rfl⟩)
    exact ⟨fun _ => hs.sound_writeImage (.inr ⟨.singleInsert, nofun, claim⟩), State.workAgrees_of_insert⟩
  | modifyEntry n f =>
    rw [hch] at hw living
    obtain ⟨e, he, rfl⟩ := Option.map_eq_some_iff.1 hw
    exact hs.begins_image rfl he rfl rfl nofun fun _ _ => living n rfl e he
  | topUpEntry n a =>
    rw [hch] at hw living
    obtain ⟨e, he, rfl⟩ := Option.map_eq_some_iff.1 hw
    exact hs.begins_image rfl he rfl rfl nofun fun _ _ => living n rfl e he
  | setEntryState n y =>
    rw [hch] at hw
    obtain ⟨e, he, rfl⟩ := Option.map_eq_some_iff.1 hw
    exact hs.begins_image rfl he rfl rfl nofun fun _ _ => (hs.subjects.fresh c queued).2 n y hch
  | settleHold n p u =>
    rw [hch] at hw
    obtain ⟨e, he, rfl⟩ := Option.map_eq_some_iff.1 hw
    exact hs.begins_image rfl he rfl rfl nofun nofun
  | retireEntry n =>
    rw [hch] at hw
    obtain ⟨e, he, rfl⟩ := Option.map_eq_some_iff.1 hw
    exact hs.begins_retire he
  | clearEntry n =>
    rw [hch] at hw
    cases hw
    exact ⟨fun _ => hs.sound_clear n,
      State.workAgrees_of_clear ((hs.holds.clearing n).1 (.inr (State.clearQueued_iff.2 ⟨c, queued, hch⟩))).2⟩
  | moveEntry a b =>
    rw [hch] at hw
    obtain ⟨e, he, rfl⟩ := Option.map_eq_some_iff.1 hw
    exact hs.begins_move queued hch he
  | writeClass k r =>
    rw [hch] at hw
    cases hw
    exact ⟨fun _ => Store.sound_congr (st := s.store) (fun _ => ⟨rfl, rfl, rfl⟩) hs.store, State.workAgrees_of_class⟩
  | stageItem i n =>
    rw [hch] at hw
    obtain ⟨y, hy, hformed⟩ := Option.bind_eq_some_iff.1 hw
    obtain ⟨x, hx, rfl⟩ := Option.map_eq_some_iff.1 hformed
    exact hs.begins_stage hy hx
  | promoteBatch =>
    rw [hch] at hw
    cases hw
    exact hs.begins_promote hc hch

theorem State.runs.tableSound_beginCommit (hs : s.runs) : s.beginCommit.tableSound := by
  unfold State.beginCommit
  split
  · rename_i hp
    split
    · exact hs.tableSound
    · rename_i c rest hq
      split
      · rename_i w hw
        have hc : s.commits = ⟨c :: rest, s.commits.work⟩ := by rw [← hq]
        obtain ⟨works, agrees⟩ := hs.begins_formWork hc hw
        unfold State.noteBegin
        split
        · rename_i hch
          obtain ⟨hl, -⟩ := hs.once.2 c (by rw [hq]; exact List.mem_cons_self) hch hs.phase
          have feed : s.batch.sameFeed { s.batch with state := .promoting } := ⟨⟨hl.symm, rfl, rfl⟩, rfl, rfl⟩
          have hs' := hs.setBatch_feed feed
          exact hs'.tableSound_begin (c := c) (by rw [State.setBatch_commits, hq]; rfl) works
            (agrees.congr (fun _ => rfl) (fun _ => rfl) rfl rfl fun _ _ h0 => h0)
        · exact hs.tableSound_begin (c := c) (by rw [hq]; rfl) works agrees
      · exact hs.tableSound
  · exact hs.tableSound

end Sys2Proof.Machine
end

section
/-! The admission of the batch's next commit (R105, R151). -/

namespace Sys2Proof.Machine

variable {s t u : State}

/-! ### The feed -/

/-- The first record at or after an index that needs a stage write. -/
theorem nextStage_eq_some {l : List ItemRecord} {i j : Nat} {x : ItemRecord} (h : nextStage i l = some (j, x)) :
    ∃ k, j = i + k ∧ l[k]? = some x ∧ x.needsStage = true ∧
      ∀ m r, m < k → l[m]? = some r → r.needsStage = false := by
  induction l generalizing i with
  | nil => cases h
  | cons y l ih =>
    unfold nextStage at h
    split at h
    · rename_i hy
      cases h
      exact ⟨0, rfl, rfl, hy, fun m r hm => absurd hm (Nat.not_lt_zero m)⟩
    · rename_i hy
      obtain ⟨k, hj, hx, hn, hlow⟩ := ih h
      refine ⟨k + 1, by omega, by simpa using hx, hn, fun m r hm hr => ?_⟩
      cases m with
      | zero =>
        simp only [List.getElem?_cons_zero, Option.some.injEq] at hr
        exact hr ▸ Bool.eq_false_iff.2 hy
      | succ m => exact hlow m r (by omega) (by simpa using hr)

theorem nextStage_eq_none {l : List ItemRecord} {i : Nat} (h : nextStage i l = none) : ∀ r ∈ l, r.needsStage = false := by
  induction l generalizing i with
  | nil => exact fun r hr => by cases hr
  | cons y l ih =>
    unfold nextStage at h
    split at h
    · cases h
    · rename_i hy
      exact List.forall_mem_cons.2 ⟨Bool.eq_false_iff.2 hy, ih h⟩

/-- What the batch unit has ready: the next stage write in index order, or the PROMOTE once none is left (R151). -/
theorem Batch.offer_cases {b b' : Batch} {c : Change} (h : b.offer = some (c, b')) : b.isLocked = true ∧
    ((∃ i r, c = .stageItem i r.slot ∧ b' = { b with fed := i + 1 } ∧ b.fed ≤ i ∧ b.records[i]? = some r ∧
        r.needsStage = true ∧ ∀ m q, b.fed ≤ m → m < i → b.records[m]? = some q → q.needsStage = false) ∨
      (c = .promoteBatch ∧ b' = { b with fed := b.records.length, promoteFed := true } ∧ b.promoteFed = false ∧
        ∀ m q, b.fed ≤ m → b.records[m]? = some q → q.needsStage = false)) := by
  unfold Batch.offer at h
  split at h
  · rename_i hw
    have locked : b.isLocked = true := by unfold Batch.isLocked; rw [hw]
    split at h
    · rename_i i r hn
      cases h
      obtain ⟨k, rfl, hr, hneed, hlow⟩ := nextStage_eq_some hn
      rw [List.getElem?_drop] at hr
      refine ⟨locked, .inl ⟨_, r, rfl, rfl, Nat.le_add_right _ _, hr, hneed, fun m q hm hlt hq => ?_⟩⟩
      refine hlow (m - b.fed) q (by omega) ?_
      rw [List.getElem?_drop, Nat.add_sub_cancel' hm]
      exact hq
    · rename_i hn
      split at h
      · cases h
      · rename_i hp
        cases h
        refine ⟨locked, .inr ⟨rfl, rfl, Bool.eq_false_iff.2 hp, fun m q hm hq => ?_⟩⟩
        refine nextStage_eq_none hn q (List.mem_of_getElem? (i := m - b.fed) ?_)
        rw [List.getElem?_drop, Nat.add_sub_cancel' hm]
        exact hq
  · cases h
  · cases h
  · cases h

/-! ### The admission -/

/-- The batch's next commit is ready to join the queue, where no entry it is for is pending (R23). -/
theorem State.runs.readyFor_offer (hs : s.runs) {c : Change} {b : Batch} (ho : s.batch.offer = some (c, b))
    (hp : s.hasPendingSubject c = false) : s.readyFor (s.setBatch b) ⟨c, .batch⟩ := by
  obtain ⟨hl, hcase⟩ := Batch.offer_cases ho
  have plan : s.batch.samePlan b := by
    rcases hcase with ⟨i, r, -, rfl, -⟩ | ⟨-, rfl, -⟩ <;> exact ⟨rfl, rfl, rfl⟩
  have kind : (∃ i n, c = .stageItem i n) ∨ c = .promoteBatch := by
    rcases hcase with ⟨i, r, h, -⟩ | ⟨h, -⟩
    · exact .inl ⟨i, _, h⟩
    · exact .inr h
  have none : c.subject = none ∧ s.claimOf c = none ∧ c.needsLiving = none := by
    rcases kind with ⟨i, n, rfl⟩ | rfl <;> exact ⟨rfl, rfl, rfl⟩
  have other : (∀ n e, c ≠ .insertEntry n e) ∧ (∀ n x, c ≠ .setEntryState n x) ∧ (∀ n p v, c ≠ .settleHold n p v) ∧
      (∀ n f, c ≠ .modifyEntry n f) ∧ ∀ n, c ≠ .clearEntry n := by
    rcases kind with ⟨i, n, rfl⟩ | rfl <;> exact ⟨nofun, nofun, nofun, nofun, nofun⟩
  obtain ⟨hsub, hcl, hliv⟩ := none
  obtain ⟨hins, hset, hsettle, hmod, hclear⟩ := other
  have claims := hs.directory.claims
  refine
    { entries := fun _ => rfl
      worn := fun _ => rfl
      marks := fun _ => rfl
      spill := rfl
      holds := rfl
      commits := rfl
      store := rfl
      plan := plan
      claims := by
        rw [hcl, Option.toList_none, List.append_nil]
        exact ⟨claims.reserved, claims.slots, claims.ids, claims.placed, claims.newIds⟩
      subject := fun n hn => by rw [hsub] at hn; cases hn
      single := fun n e he hf => ?_
      fresh := ⟨fun n e h => absurd h (hins n e), fun n x h => absurd h (hset n x)⟩
      living := fun n hn => by rw [hliv] at hn; cases hn
      settling := fun n p v h => absurd h (hsettle n p v)
      modifying := fun n f b h => absurd h (hmod n f)
      due := fun n => or_iff_left (hclear n)
      left := fun n _ => hclear n }
  have locked : n ∈ s.batch.lockedSlots := by
    rcases Change.isFor_iff.1 hf with h | ⟨i, h⟩ | ⟨-, h⟩
    · rw [hsub] at h; cases h
    · rcases hcase with ⟨j, r, hc, -, -, hr, -⟩ | ⟨hc, -⟩
      · have h : c = .stageItem i n := h
        rw [hc] at h
        cases h
        rcases (hs.names_iff hl r.slot).1 ⟨_, r, hr, rfl⟩ with hn | ⟨y, hy, hyn⟩
        · exact (Batch.mem_subjects.1 hn).2
        · have := hs.directory.claims.no_entry (State.mem_claims.2 (.inr hy))
          rw [hyn, he] at this
          cases this
      · have h : c = .stageItem i n := h
        rw [hc] at h
        cases h
    · exact h
  by_contra hpend
  rw [Bool.not_eq_false] at hpend
  rw [State.hasPendingSubject_iff.2 ⟨n, locked, hf, hpend⟩] at hp
  cases hp

/-- A PROMOTE in the queue has been fed, after every record (R151). -/
theorem State.runs.fed_of_queued (hs : s.runs) {c : Commit} (hc : c ∈ s.commits.queue) (hp : c.change = .promoteBatch) :
    s.batch.promoteFed = true ∧ s.batch.records.length ≤ s.batch.fed := by
  have fed := (hs.once.2 c hc hp hs.phase).2
  exact ⟨fed, hs.batch.fedWhole fed⟩

/-- The batch stays sound as its feed advances. -/
theorem State.runs.batchSound_offer (hs : s.runs) {c : Change} {b : Batch} (ho : s.batch.offer = some (c, b))
    (h : s.readyFor (s.setBatch b) ⟨c, .batch⟩) : ((s.setBatch b).joinQueue ⟨c, .batch⟩).batchSound := by
  obtain ⟨hl, hcase⟩ := Batch.offer_cases ho
  have p := hs.batch
  have plan : s.batch.samePlan b := h.plan
  have d : ((s.setBatch b).joinQueue ⟨c, .batch⟩).batch = b := rfl
  -- a record that the feed has passed is one it had passed, or needs no stage write, or is the one now admitted
  have passed : ∀ (m : Nat) (q : ItemRecord), s.batch.records[m]? = some q → q.needsStage = true → m < b.fed →
      m < s.batch.fed ∨ c = .stageItem m q.slot := by
    intro m q hq hneed hm
    by_contra hno
    rw [not_or] at hno
    obtain ⟨hfed, hno⟩ := hno
    rcases hcase with ⟨i, r, rfl, rfl, -, hr, -, hlow⟩ | ⟨rfl, rfl, -, hlow⟩
    · rcases Nat.lt_or_ge m i with hlt | hge
      · rw [hlow m q (by omega) hlt hq] at hneed
        cases hneed
      · have hmi : m = i := by
          have hm : m < i + 1 := hm
          omega
        subst hmi
        rw [hr] at hq
        cases hq
        exact hno rfl
    · rw [hlow m q (by omega) hq] at hneed
      cases hneed
  refine
    { apart := by rw [d, plan.items]; exact p.apart
      fresh := by rw [d, plan.items]; exact p.fresh
      noScan := by rw [d, plan.locked]; exact p.noScan
      recorded := by rw [d, plan.locked, plan.items, plan.records]; exact p.recorded
      named := ?_
      stagedItems := ?_
      fedWhole := ?_
      stageWrites := ?_
      order := ?_ }
  · rw [d, plan.locked, plan.items, plan.records]
    exact p.named
  · rw [d, plan.locked, plan.items, plan.records]
    intro hl i x r hx hr
    obtain ⟨idle, staged⟩ := p.stagedItems hl i x r hx hr
    refine ⟨idle, fun hneed hfed hq => ?_⟩
    rcases passed i r hr hneed hfed with hlt | rfl
    · exact staged hneed hlt fun e he => hq e (h.mem_queue.2 (.inl he))
    · exact absurd rfl (hq _ (h.mem_queue.2 (.inr rfl)))
  · rw [d, plan.records]
    intro hp
    rcases hcase with ⟨i, r, -, rfl, hle, -⟩ | ⟨-, rfl, -⟩
    · exact (p.fedWhole hp).trans (Nat.le_succ_of_le hle)
    · exact le_rfl
  · rw [d, plan.locked, plan.records]
    intro e he i n hen
    rcases h.mem_queue.1 he with he | rfl
    · obtain ⟨-, hlt, hr⟩ := p.stageWrites e he i n hen
      refine ⟨hl, ?_, hr⟩
      rcases hcase with ⟨j, r, -, rfl, hle, -⟩ | ⟨-, rfl, -⟩
      · exact Nat.lt_succ_of_lt (Nat.lt_of_lt_of_le hlt hle)
      · exact (List.getElem?_eq_some_iff.1 hr).1
    · have hen : c = .stageItem i n := hen
      rcases hcase with ⟨j, r, rfl, rfl, -, hr, hneed, -⟩ | ⟨rfl, -⟩
      · cases hen
        refine ⟨hl, Nat.lt_succ_self _, hr.trans (congrArg some ?_)⟩
        obtain ⟨slot, needs⟩ := r
        cases hneed
        rfl
      · cases hen
  · intro front e back hq he x hx i n hxn
    -- no PROMOTE is queued before this admission
    have first : ∀ y ∈ s.commits.queue, y.change ≠ .promoteBatch := by
      intro y hy hyp
      obtain ⟨fed, whole⟩ := hs.fed_of_queued hy hyp
      rcases hcase with ⟨j, r, -, -, hle, hr, -⟩ | ⟨-, -, hnot, -⟩
      · have := (List.getElem?_eq_some_iff.1 hr).1
        omega
      · rw [fed] at hnot; cases hnot
    rw [h.queue] at hq
    rcases List.append_eq_append_iff.1 hq with ⟨l, rfl, hl'⟩ | ⟨l, hl', hrest⟩
    · cases l with
      | nil =>
        simp only [List.nil_append, List.cons.injEq] at hl'
        obtain ⟨-, rfl⟩ := hl'
        cases hx
      | cons y l => simp at hl'
    · cases l with
      | nil =>
        simp only [List.nil_append, List.cons.injEq] at hrest
        obtain ⟨-, rfl⟩ := hrest
        cases hx
      | cons y l =>
        simp only [List.cons_append, List.cons.injEq] at hrest
        obtain ⟨rfl, -⟩ := hrest
        exact absurd he (first e (by rw [hl']; simp))

theorem State.runs.tableSound_admitBatch (hs : s.runs) : s.admitBatch.tableSound := by
  rcases State.admitBatch_cases s with h | ⟨c, b, -, -, ho, hp, h⟩
  · rw [h]; exact hs.tableSound
  · rw [h]
    have ready := hs.readyFor_offer ho hp
    exact ready.tableSound hs (hs.batchSound_offer ho ready)

end Sys2Proof.Machine
end

section
/-! The batch that is planned anew: Stage, Discard and Apply, and the scan commands beside it (R141 to R149, 08, 09). -/

namespace Sys2Proof.Machine

variable {s t u : State}

/-! ### A new plan -/

/-- `t` is `s`, whose batch is not locked, with another batch and its reservations made. -/
structure State.replans (s t : State) : Prop where
  entries : ∀ n, t.entryAt n = s.entryAt n
  worn : ∀ n, (t.slot n).worn = (s.slot n).worn
  marks : ∀ n, (t.slot n).retireMark = (s.slot n).retireMark
  spill : t.engine.spillCounts = s.engine.spillCounts
  due : t.engine.clearDue = s.engine.clearDue
  holds : t.holds = s.holds
  commits : t.commits = s.commits
  store : t.store = s.store
  claims : t.claimsSound (s.claims ++ t.batch.claims)
  apart : (s.subjects ++ t.batch.subjects).Nodup
  lie : ∀ n ∈ t.batch.subjects, ∃ e, s.entryAt n = some e

/-- No commit of a batch is queued while none is locked (R151). -/
theorem State.runs.no_batch_commit (hs : s.runs) (hl : s.batch.isLocked = false) {c : Commit} (hc : c ∈ s.commits.queue) :
    (∀ i n, c.change ≠ .stageItem i n) ∧ c.change ≠ .promoteBatch := by
  refine ⟨fun i n h => ?_, fun h => ?_⟩
  · have := (hs.batch.stageWrites c hc i n h).1
    rw [hl] at this; cases this
  · have := (hs.once.2 c hc h hs.phase).1
    rw [hl] at this; cases this

/-- What a single commit is for does not rest on the batch (R23). -/
theorem Change.isFor_congr {c : Change} (hc : (∀ i n, c ≠ .stageItem i n) ∧ c ≠ .promoteBatch) (l l' : List Nat) (n : Nat) :
    c.isFor l n = c.isFor l' n :=
  Bool.eq_iff_iff.2 ⟨fun h => Change.isFor_iff.2 (.inl (Change.subject_of_isFor hc h)),
    fun h => Change.isFor_iff.2 (.inl (Change.subject_of_isFor hc h))⟩

/-- The work in progress is a PROMOTE only for the batch's commit (R108). -/
theorem State.runs.promotes_of_work (hs : s.runs) {c : Commit} {ups : List (Nat × Promotion)}
    (hc : s.commits.queue.head? = some c) (hw : s.commits.work = some (.promote ups)) : c.change = .promoteBatch := by
  obtain ⟨d, hd, hfit⟩ := hs.formed.2 _ hw
  rw [hc] at hd
  cases hd
  have shape := Work.shape_of_fits hfit
  cases hch : c.change <;> rw [hch] at shape <;> simp_all [Change.workShape]

theorem State.replans.counts (h : s.replans t) (n : Nat) : t.openHolds n = s.openHolds n ∧ t.heldUnits n = s.heldUnits n :=
  State.counts_congr h.holds n

theorem State.replans.retiring (h : s.replans t) (n : Nat) : t.slotRetiring n = s.slotRetiring n :=
  State.slotRetiring_of_entry (h.entries n) (h.marks n)

theorem State.replans.claims_eq (h : s.replans t) (hl : s.batch.isLocked = false) :
    t.claims = s.claims ++ t.batch.claims := by
  have claimOf : ∀ c : Change, t.claimOf c = s.claimOf c := fun c => State.claimOf_congr fun n _ => congrArg _ (h.entries n)
  rw [State.claims_eq, State.claims_eq, Batch.claims_of_unlocked hl, List.append_nil, h.commits]
  simp only [claimOf]

theorem State.replans.subjects_eq (h : s.replans t) (hl : s.batch.isLocked = false) :
    t.subjects = s.subjects ++ t.batch.subjects := by
  rw [State.subjects_eq, State.subjects_eq, Batch.subjects_of_unlocked hl, List.append_nil, h.commits]

/-- A new plan leaves the table sound where the batch itself is sound. -/
theorem State.replans.tableSound (h : s.replans t) (hs : s.runs) (hl : s.batch.isLocked = false) (hb : t.batchSound) :
    t.tableSound := by
  have claims := h.claims_eq hl
  have subjects := h.subjects_eq hl
  have directory : t.directorySound :=
    State.directorySound_of (by rw [h.store]; exact hs.store) (by rw [h.store]; exact hs.unmarked)
      (fun n => by rw [h.entries, h.worn, h.marks, h.store]; exact hs.directory.images n)
      (State.spillSound_congr h.spill (fun n => congrArg _ (h.entries n)) hs.directory.spill)
      (by rw [claims]; exact h.claims)
  have clearQueued : ∀ n, t.clearQueued n = s.clearQueued n := fun n => by unfold State.clearQueued; rw [h.commits]
  have holds : t.holdsSound :=
    { lie := fun p x hp => by
        rw [State.place_congr h.holds] at hp
        rw [h.entries]
        exact hs.holds.lie p x hp
      within := fun n e b he hb => by
        rw [(h.counts n).2]
        exact hs.holds.within n e b ((h.entries n).symm.trans he) hb
      settling := fun c hc n p v hcn => by
        rw [State.place_congr h.holds]
        exact hs.holds.settling c (h.commits ▸ hc) n p v hcn
      modifying := fun c hc n f b hcn hf => by
        rw [(h.counts n).2]
        exact hs.holds.modifying c (h.commits ▸ hc) n f b hcn hf
      clearing := fun n => by
        rw [h.due, clearQueued, h.retiring, (h.counts n).1]
        exact hs.holds.clearing n
      cleared := fun n hn => by
        rw [clearQueued]
        exact hs.holds.cleared n (h.due ▸ hn) }
  have subjectsSound : t.subjectsSound :=
    { apart := by rw [subjects]; exact h.apart
      lie := fun n hn => by
        rw [h.entries]
        rw [subjects] at hn
        exact (List.mem_append.1 hn).elim (hs.subjects.lie n) (h.lie n)
      single := fun n e he => by
        refine le_trans ?_ (hs.subjects.single n e ((h.entries n).symm.trans he))
        rw [h.commits]
        exact le_of_eq (congrArg _ (List.filter_congr fun c hc => Change.isFor_congr (hs.no_batch_commit hl hc) _ _ n))
      fresh := fun c hc => hs.subjects.fresh c (h.commits ▸ hc)
      living := fun c hc n hn => by
        rw [h.retiring]
        exact hs.subjects.living c (h.commits ▸ hc) n hn
      work := fun c w hc hw => by
        rw [h.commits] at hc hw
        have plain := hs.no_batch_commit hl (List.mem_of_mem_head? hc)
        have agrees := hs.subjects.work c w hc hw
        exact
          { inserts := agrees.inserts
            writes := fun n x hn hx => by rw [h.entries]; exact agrees.writes n x hn hx
            clears := fun n hn => (h.counts n).1.trans (agrees.clears n hn)
            moves := fun a b x hx => by
              obtain ⟨e, he, hid, hbal, hret⟩ := agrees.moves a b x hx
              refine ⟨e, (h.entries a).trans he, hid, hbal, ?_⟩
              unfold State.isRetiring
              rw [h.marks]
              exact hret
            stages := fun i n x hcn => absurd hcn (plain.1 i n)
            promotes := fun ups hx => absurd (hs.promotes_of_work hc (hx ▸ hw)) plain.2 } }
  exact State.tableSound_of (by rw [h.store]; exact hs.store) (by rw [h.store, h.commits]; exact hs.works) directory holds
    subjectsSound hb

/-- A batch that is not locked keeps the reservations and the subjects as they are. -/
theorem State.runs.replans_unlocked (hs : s.runs) {b : Batch} (hb : b.isLocked = false) : s.replans (s.setBatch b) := by
  have c := hs.directory.claims
  refine ⟨fun _ => rfl, fun _ => rfl, fun _ => rfl, rfl, rfl, rfl, rfl, rfl, ?_, ?_, fun n hn => ?_⟩
  · rw [State.setBatch_batch, Batch.claims_of_unlocked hb, List.append_nil]
    exact ⟨c.reserved, c.slots, c.ids, c.placed, c.newIds⟩
  · rw [State.setBatch_batch, Batch.subjects_of_unlocked hb, List.append_nil]
    exact hs.subjects.apart
  · rw [State.setBatch_batch, Batch.subjects_of_unlocked hb] at hn
    cases hn

/-- Items exchanged in a batch that is not locked leave the table sound where the items are (R141, R142). -/
theorem State.runs.tableSound_setItems (hs : s.runs) (hl : s.batch.isLocked = false) {b : Batch} (hb : b.isLocked = false)
    (feed : b.records = s.batch.records ∧ b.fed = s.batch.fed ∧ b.promoteFed = s.batch.promoteFed)
    (apart : (b.items.map Item.id).Nodup) (fresh : ∀ e, .insert e ∈ b.items → e.state ≠ .retiring) :
    (s.setBatch b).tableSound := by
  obtain ⟨records, fed, promoteFed⟩ := feed
  refine (hs.replans_unlocked hb).tableSound hs hl (State.batchSound_of_unlocked hb apart fresh ?_
    fun c hc => (hs.no_batch_commit hl hc).1)
  rw [State.setBatch_batch, records, fed, promoteFed]
  exact hs.batch.fedWhole

/-- No item of the batch names an ID that is not found in it (R141). -/
theorem Batch.indexOf_eq_none {b : Batch} {id : List Byte} (h : b.indexOf id = none) : id ∉ b.items.map Item.id := by
  rintro hm
  obtain ⟨x, hx, rfl⟩ := List.mem_map.1 hm
  unfold Batch.indexOf at h
  rw [List.findIdx?_eq_none_iff] at h
  simpa using h x hx

theorem State.runs.tableSound_takeStage (hs : s.runs) (r : Request) : (takeStage r s).tableSound := by
  rcases takeStage_cases s r with h | ⟨x, payload, hl, hx, -, hn, h⟩
  · exact (State.sameTable_answersTo h).tableSound hs.tableSound
  · rw [h]
    refine (State.sameTable_answer _ _ _ _ _).tableSound (hs.tableSound_setItems hl rfl ⟨rfl, rfl, rfl⟩ ?_ fun e he => ?_)
    · rw [List.map_append]
      refine List.nodup_append'.2 ⟨hs.batch.apart, List.nodup_singleton _, fun id hid hid' => ?_⟩
      rw [List.map_singleton, List.mem_singleton] at hid'
      exact Batch.indexOf_eq_none hn (hid' ▸ hid)
    · rcases List.mem_append.1 he with he | he
      · exact hs.batch.fresh e he
      · exact (readStage_newOk hx e (List.mem_singleton.1 he).symm).1

theorem State.runs.tableSound_takeDiscard (hs : s.runs) (r : Request) : (takeDiscard r s).tableSound := by
  rcases takeDiscard_cases s r with h | ⟨payload, ho, h⟩
  · exact (State.sameTable_answersTo h).tableSound hs.tableSound
  · rw [h]
    have hl : s.batch.isLocked = false := by unfold Batch.isLocked; rw [ho]
    exact (State.sameTable_answer _ _ _ _ _).tableSound (hs.tableSound_setItems hl rfl ⟨rfl, rfl, rfl⟩ List.nodup_nil
      fun e he => by cases he)

end Sys2Proof.Machine
end

section
/-! Apply: the validation in index order with its reservations, and the plan it accepts (R144 to R149). -/

namespace Sys2Proof.Machine

variable {s t u : State} {C : List (Nat × List Byte × Holder)}

/-! ### States that differ in reservations alone -/

/-- `u` is `s` with reservations made in slots without entries. -/
structure State.reserves (s u : State) : Prop where
  frame : u = { s with engine := { s.engine with slots := u.engine.slots } }
  entries : ∀ n, u.entryAt n = s.entryAt n
  worn : ∀ n, (u.slot n).worn = (s.slot n).worn
  marks : ∀ n, (u.slot n).retireMark = (s.slot n).retireMark

theorem State.reserves.refl (s : State) : s.reserves s := ⟨rfl, fun _ => rfl, fun _ => rfl, fun _ => rfl⟩

theorem State.reserves.trans (h : s.reserves t) (h' : t.reserves u) : s.reserves u where
  frame := by rw [h'.frame, h.frame]
  entries n := (h'.entries n).trans (h.entries n)
  worn n := (h'.worn n).trans (h.worn n)
  marks n := (h'.marks n).trans (h.marks n)

theorem State.reserves_reserveSlot {n : Nat} (hp : s.placeable n = true) (id : List Byte) (x : Holder) :
    s.reserves (s.reserveSlot n id x) where
  frame := rfl
  entries := State.entryAt_reserveSlot hp id x
  worn m := (s.marks_reserveSlot n id x m).1
  marks m := (s.marks_reserveSlot n id x m).2

theorem State.reserves.holds (h : s.reserves u) : u.holds = s.holds := by rw [h.frame]

theorem State.reserves.commits (h : s.reserves u) : u.commits = s.commits := by rw [h.frame]

theorem State.reserves.batch (h : s.reserves u) : u.batch = s.batch := by rw [h.frame]

theorem State.reserves.counts (h : s.reserves u) (n : Nat) : u.openHolds n = s.openHolds n ∧ u.heldUnits n = s.heldUnits n :=
  State.counts_congr h.holds n

theorem State.reserves.isPending (h : s.reserves u) (n : Nat) : u.isPending n = s.isPending n := by
  unfold State.isPending State.pendingChange
  rw [h.commits, h.batch]

/-- An ID that is neither found nor reserved on a state with more reservations is new. -/
theorem State.reserves.id_new (h : s.reserves u) (hs : s.runs) (hC : u.claimsSound C) {id : List Byte}
    (hf : u.foundOrReserved id = none) : id ∉ C.map (·.2.1) ∧ ∀ m e, u.entryAt m = some e → e.id ≠ id := by
  have spill : u.spillSound := State.spillSound_congr (by rw [h.frame]) (fun n => congrArg _ (h.entries n)) hs.directory.spill
  unfold State.foundOrReserved at hf
  split at hf
  · cases hf
  · rename_i hl
    obtain ⟨ways, rest⟩ := State.lookup_eq_none hl
    refine ⟨fun hm => ?_, fun m e he hid => ?_⟩
    · obtain ⟨⟨m, i, x⟩, hmem, hid⟩ := List.mem_map.1 hm
      exact State.reservedFor_eq_none hf ((hC.reserved m i x).2 hmem) hid
    · rcases hs.entry_liesRight ((h.entries m).symm.trans he) with hm | hm
      · exact ways m (hid ▸ hm) e he hid
      · have hm := mem_spillArea_iff_inSpill.2 hm
        refine rest ?_ m hm e he hid
        rw [spill]
        exact List.length_pos_of_mem (List.mem_filter.2 ⟨hm, by simp [he, hid]⟩)

/-! ### The validation (R145) -/

/-- What the validation has found of an item and recorded (R145, R151). -/
structure State.validated (s : State) (x : Item) (r : ItemRecord) : Prop where
  named : x.isInsert = false → (∃ e, s.entryAt r.slot = some e ∧ e.id = x.id) ∧ s.isPending r.slot = false ∧
    s.slotRetiring r.slot = false
  modifying : ∀ id y f b, x = .modify id y f → f.balance = some (some b) → s.heldUnits r.slot ≤ b
  idle : r.needsStage = false → x.isRetire = true ∧ (s.openHolds r.slot = 0 ∨ (s.slot r.slot).worn = true)

/-- An item without stage write is a RETIRE of an entry with no open hold or in a WORN slot (R151). -/
theorem State.needsStage_eq_false {x : Item} {n : Nat} (h : s.needsStage x n = false) :
    x.isRetire = true ∧ (s.openHolds n = 0 ∨ (s.slot n).worn = true) := by
  cases x with
  | retire id y => exact ⟨rfl, by simpa [State.needsStage, State.wornResident, or_iff_not_imp_left] using h⟩
  | _ => cases h

/-- The reservations of the INSERT items of a plan. -/
def insertClaims (l : List (Item × ItemRecord)) : List (Nat × List Byte × Holder) :=
  (l.filter fun x => x.1.isInsert).map fun x => (x.2.slot, x.1.id, Holder.batchInsert)

/-- A validated item makes its reservation, if it is an INSERT, and is recorded. -/
theorem State.reserves.validate (h : s.reserves u) (hs : s.runs) (hC : u.claimsSound C) {sample : Bool} {x : Item} {n : Nat}
    (hv : u.validate sample x = .ok n) : s.reserves (u.reserveFor x n .batchInsert) ∧
      (u.reserveFor x n .batchInsert).claimsSound (C ++ insertClaims [(x, ⟨n, u.needsStage x n⟩)]) ∧
      s.validated x ⟨n, u.needsStage x n⟩ := by
  have idle : u.needsStage x n = false → x.isRetire = true ∧ (s.openHolds n = 0 ∨ (s.slot n).worn = true) := fun hn => by
    rw [← (h.counts n).1, ← h.worn]
    exact State.needsStage_eq_false hn
  cases hx : x.isInsert with
  | true =>
    cases x with
    | insert image =>
      obtain ⟨hf, hp, hr⟩ := State.validateInsert_eq_ok hv
      obtain ⟨hid, habs⟩ := h.id_new hs hC hf
      exact ⟨h.trans (State.reserves_reserveSlot hp _ _), hC.reserve hp hr hid fun _ => habs, nofun, nofun, idle⟩
    | _ => cases hx
  | false =>
    rw [State.validate_of_named hx] at hv
    obtain ⟨e, he, hid, hpend, hret, hmod⟩ := State.validateNamed_eq_ok hv
    have same : u.reserveFor x n .batchInsert = u := by unfold State.reserveFor; rw [hx]; rfl
    have none : insertClaims [(x, ⟨n, u.needsStage x n⟩)] = [] := by simp [insertClaims, hx]
    rw [same, none, List.append_nil]
    refine ⟨h, hC, fun _ => ⟨⟨e, (h.entries n).symm.trans he, hid⟩, (h.isPending n).symm.trans hpend,
      (State.slotRetiring_of_entry (h.entries n) (h.marks n)).symm.trans hret⟩, fun id y f b hf hb => ?_, idle⟩
    rw [← (h.counts n).2]
    exact hmod id y f b hf hb

/-- What a validation that passes leaves: the reservations of the INSERT items, and a record for each item (R145). -/
theorem State.reserves.validateItems (hs : s.runs) {sample : Bool} {items : List Item} :
    ∀ {index : Nat} {u t : State} {records : List ItemRecord} {C : List (Nat × List Byte × Holder)}, s.reserves u →
      u.claimsSound C → u.validateItems sample index items = .ok (t, records) → s.reserves t ∧
        t.claimsSound (C ++ insertClaims (items.zip records)) ∧ records.length = items.length ∧
        ∀ x ∈ items.zip records, s.validated x.1 x.2 := by
  induction items with
  | nil =>
    intro index u t records C h hC hv
    cases hv
    exact ⟨h, by simpa [insertClaims] using hC, rfl, fun x hx => by cases hx⟩
  | cons x rest ih =>
    intro index u t records C h hC hv
    unfold State.validateItems at hv
    split at hv
    · cases hv
    · rename_i n hn
      split at hv
      · cases hv
      · rename_i v l hrest
        cases hv
        obtain ⟨hstep, claims, valid⟩ := h.validate hs hC hn
        obtain ⟨reserves, claims', length, all⟩ := ih hstep claims hrest
        refine ⟨reserves, ?_, congrArg (· + 1) length, ?_⟩
        · have split : insertClaims ((x :: rest).zip (⟨n, u.needsStage x n⟩ :: l))
              = insertClaims [(x, ⟨n, u.needsStage x n⟩)] ++ insertClaims (rest.zip l) := by
            unfold insertClaims
            rw [← List.map_append, ← List.filter_append]
            rfl
          rw [split, ← List.append_assoc]
          exact claims'
        · rw [List.zip_cons_cons]
          exact List.forall_mem_cons.2 ⟨valid, all⟩

/-! ### The accepted plan (R148) -/

/-- The batch as an accepted Apply leaves it (R148). -/
def Batch.accepted (b : Batch) (tag : Byte) (records : List ItemRecord) : Batch :=
  { b with
    state := .writing, records := records, lastResult := none, fed := 0, promoteFed := false, staged := 0
    applyTag := tag }

/-- The accepted plan is written to the batch, answered, and the place of its notice reserved (R148). -/
theorem State.acceptApply_eq (t : State) (r : Request) (records : List ItemRecord) : t.acceptApply r records =
    ((t.setBatch (t.batch.accepted r.tag records)).answer .mp r .accepted (be 1 (t.batch.accepted r.tag records).items.length
      ++ be 1 (t.batch.accepted r.tag records).needed)).reserve .mp applyNotice r.tag := rfl

/-- The slots that the named items of a validated plan lock are different slots (R141). -/
theorem State.runs.lockedSlots_nodup (hs : s.runs) {tag : Byte} {records : List ItemRecord}
    (length : records.length = s.batch.items.length)
    (valid : ∀ x ∈ s.batch.items.zip records, s.validated x.1 x.2) : (s.batch.accepted tag records).lockedSlots.Nodup := by
  have ids : ((s.batch.items.zip records).map fun x => x.1.id).Nodup := by
    have := hs.batch.apart
    rw [← List.map_fst_zip (l₁ := s.batch.items) (l₂ := records) length.ge, List.map_map] at this
    exact this
  refine List.Nodup.map_on (fun x hx y hy hxy => ?_) ((List.Nodup.of_map _ ids).filter _)
  obtain ⟨hx, hxi⟩ := List.mem_filter.1 hx
  obtain ⟨hy, hyi⟩ := List.mem_filter.1 hy
  obtain ⟨⟨e, he, hid⟩, -⟩ := (valid x hx).named (by simpa using hxi)
  obtain ⟨⟨e', he', hid'⟩, -⟩ := (valid y hy).named (by simpa using hyi)
  have hxy : x.2.slot = y.2.slot := hxy
  rw [hxy, he'] at he
  cases he
  exact List.inj_on_of_nodup_map ids hx hy (hid.symm.trans hid')

theorem State.runs.tableSound_accepted (hs : s.runs) (hl : s.batch.isLocked = false) (hscan : s.scan.state ≠ .running)
    (h : s.reserves t) {tag : Byte} {records : List ItemRecord}
    (claims : t.claimsSound (s.claims ++ insertClaims (s.batch.items.zip records)))
    (length : records.length = s.batch.items.length)
    (valid : ∀ x ∈ s.batch.items.zip records, s.validated x.1 x.2) :
    (t.setBatch (s.batch.accepted tag records)).tableSound := by
  have locked : ∀ n ∈ (s.batch.accepted tag records).lockedSlots, (∃ e, s.entryAt n = some e) ∧ n ∉ s.subjects := by
    intro n hn
    obtain ⟨x, r, hm, hx, rfl⟩ := Batch.mem_lockedSlots.1 hn
    obtain ⟨⟨e, he, -⟩, hp, -⟩ := (valid (x, r) hm).named hx
    exact ⟨⟨e, he⟩, State.not_subject hp (State.locked_of_unlocked hl _)⟩
  have plan : s.replans (t.setBatch (s.batch.accepted tag records)) :=
    { entries := h.entries
      worn := h.worn
      marks := h.marks
      spill := by rw [State.setBatch_engine, h.frame]
      due := by rw [State.setBatch_engine, h.frame]
      holds := h.holds
      commits := h.commits
      store := by rw [State.setBatch_store, h.frame]
      claims := ⟨claims.reserved, claims.slots, claims.ids, claims.placed, claims.newIds⟩
      apart := List.nodup_append'.2 ⟨hs.subjects.apart, hs.lockedSlots_nodup length valid,
        fun n hn hn' => (locked n hn').2 hn⟩
      lie := fun n hn => (locked n hn).1 }
  have beside : ∀ {i : Nat} {x : Item} {r : ItemRecord}, s.batch.items[i]? = some x → records[i]? = some r →
      s.validated x r := fun {i x r} hx hr =>
    valid (x, r) (List.mem_iff_getElem?.2 ⟨i, List.getElem?_zip_eq_some.2 ⟨hx, hr⟩⟩)
  have none : ∀ c ∈ (t.setBatch (s.batch.accepted tag records)).commits.queue,
      (∀ i n, c.change ≠ .stageItem i n) ∧ c.change ≠ .promoteBatch := fun c hc =>
    hs.no_batch_commit hl (h.commits ▸ hc)
  refine plan.tableSound hs hl
    { apart := hs.batch.apart
      fresh := hs.batch.fresh
      noScan := fun _ => by rw [State.setBatch_scan, h.frame]; exact hscan
      recorded := fun _ => length
      named := fun _ i x r hx hr => ?_
      stagedItems := fun _ i x r hx hr => ⟨fun hn => ?_, fun _ hlt => absurd hlt (Nat.not_lt_zero i)⟩
      fedWhole := fun hp => by cases hp
      stageWrites := fun c hc i n hcn => absurd hcn ((none c hc).1 i n)
      order := fun front c back hq hcp => absurd hcp (none c (by rw [hq]; simp)).2 }
  · have v := beside hx hr
    refine ⟨fun hi => ?_, fun id y f b hf hb => ?_⟩
    · obtain ⟨⟨e, he, hid⟩, -, hret⟩ := v.named hi
      exact ⟨⟨e, (plan.entries _).trans he, hid⟩, (plan.retiring _).trans hret⟩
    · rw [(plan.counts _).2]
      exact v.modifying id y f b hf hb
  · rw [(plan.counts _).1, plan.worn]
    exact (beside hx hr).idle hn

theorem State.runs.tableSound_takeApply (hs : s.runs) (r : Request) : (takeApply r s).tableSound := by
  rcases takeApply_cases s r with h | ⟨result, h⟩ | ⟨t, records, hl, hscan, hv, h⟩
  · exact (State.sameTable_answersTo h).tableSound hs.tableSound
  · exact (State.sameTable_answersTo h).tableSound 
      (hs.setBatch_feed (b := { s.batch with lastResult := some result }) ⟨⟨rfl, rfl, rfl⟩, rfl, rfl⟩).tableSound
  · rw [h]
    obtain ⟨reserves, claims, length, valid⟩ :=
      State.reserves.validateItems hs (.refl s) hs.directory.claims hv
    have sound := hs.tableSound_accepted hl hscan reserves claims length valid (tag := r.tag)
    rw [← reserves.batch] at sound
    rw [State.acceptApply_eq]
    exact (State.sameTable_setPort _ _ _).tableSound ((State.sameTable_answer _ _ _ _ _).tableSound sound)

/-! ### The scan's commands (09) -/

/-- A scan that runs only where no batch is locked leaves the table sound (R149). -/
theorem State.runs.tableSound_setScan (hs : s.runs) {x : Scan} (h : x.state = .running → s.batch.isLocked = false) :
    (s.setScan x).tableSound := by
  obtain ⟨store, works, fits, directory, holds, subjects, batch⟩ :=
    (State.sameTable_setScan (s := s) (x := { s.scan with state := .idle }) nofun).tableSound hs.tableSound
  refine ⟨store, works, fits, fun hp => ?_, fun hp => ?_, fun hp => ?_, fun hp => ?_⟩
  · have d := directory hp
    exact ⟨d.images, d.alone, d.spill, d.reserved, d.claimsApart, d.claimsPlaced, d.newIds⟩
  · have d := holds hp
    exact ⟨d.lie, d.within, d.settling, d.modifying, d.clearing, d.cleared⟩
  · have d := subjects hp
    refine ⟨d.apart, d.lie, d.single, d.fresh, d.living, fun c w hc hw => ?_⟩
    have a := d.work c w hc hw
    exact ⟨a.inserts, a.writes, a.clears, a.moves, a.stages, a.promotes⟩
  · have d := batch hp
    refine ⟨d.apart, d.fresh, fun hl hr => ?_, d.recorded, d.named, d.stagedItems, d.fedWhole, d.stageWrites, d.order⟩
    rw [State.setScan_batch, h hr] at hl
    cases hl

theorem State.runs.tableSound_takeStartScan (hs : s.runs) (r : Request) : (takeStartScan r s).tableSound := by
  rcases takeStartScan_cases s r with h | ⟨kind, argument, payload, -, hl, h⟩
  · exact (State.sameTable_answersTo h).tableSound hs.tableSound
  · rw [h]
    exact (State.sameTable_setPort _ _ _).tableSound
      ((State.sameTable_answer _ _ _ _ _).tableSound (hs.tableSound_setScan fun _ => hl))

theorem State.runs.tableSound_movesScan (hs : s.runs) {r : Request} (h : s.movesScan r t) : t.tableSound := by
  obtain ⟨state, hl, h⟩ := h
  exact (State.sameTable_answersTo h).tableSound (hs.tableSound_setScan hl)

theorem State.runs.tableSound_takeAbortScan (hs : s.runs) (r : Request) : (takeAbortScan r s).tableSound := by
  rcases takeAbortScan_cases s r with h | ⟨payload, -, h⟩
  · exact (State.sameTable_answersTo h).tableSound hs.tableSound
  · rw [h]
    exact ((State.sameTable_answer _ _ _ _ _).trans (State.sameTable_endWalk _)).tableSound hs.tableSound

end Sys2Proof.Machine
end

section
/-! The scan's step: what it admits, slot by slot (R160 to R167). -/

namespace Sys2Proof.Machine

variable {s t u : State}

/-! ### The decision for a slot (R162, R163) -/

theorem State.slotDecision_eq_retire {sample : Bool} {n : Nat} (h : s.slotDecision sample n = .retire) :
    ∃ e, s.entryAt n = some e ∧ s.slotRetiring n = false ∧ s.isPending n = false ∧ s.locked n = false := by
  unfold State.slotDecision at h
  split at h
  · cases h
  · rename_i e he
    split at h
    · rename_i hq
      split at h
      · cases h
      · rename_i hbusy
        rw [not_or, Bool.not_eq_true, Bool.not_eq_true] at hbusy
        obtain ⟨hp, hl⟩ := hbusy
        refine ⟨e, he, ?_, hp, hl⟩
        unfold State.slotRetiring
        rw [he]
        simp only [State.qualifies, Bool.and_eq_true, Bool.not_eq_true'] at hq
        exact hq.1
    · unfold State.rehoming at h
      split at h
      · split at h
        · split at h <;> cases h
        · cases h
      · cases h

theorem State.slotDecision_eq_rehome {sample : Bool} {n target : Nat} {id : List Byte}
    (h : s.slotDecision sample n = .rehome id target) :
    ∃ e, s.entryAt n = some e ∧ e.id = id ∧ s.freeWay id = some target ∧ s.isPending n = false := by
  unfold State.slotDecision at h
  split at h
  · cases h
  · rename_i e he
    split at h
    · split at h
      · cases h
      · split at h <;> cases h
    · unfold State.rehoming at h
      split at h
      · split at h
        · rename_i way hway
          split at h
          · cases h
          · rename_i hp
            cases h
            exact ⟨e, he, rfl, hway, Bool.eq_false_iff.2 hp⟩
        · cases h
      · cases h

/-! ### A step (R161) -/

/-- The machine runs, and so does its scan. -/
def State.scans (s : State) : Prop := s.runs ∧ s.scan.state = .running

theorem State.scans.unlocked (h : s.scans) : s.batch.isLocked = false := by
  obtain ⟨hs, hscan⟩ := h
  exact Bool.eq_false_iff.2 fun hl => hs.batch.noScan hl hscan

/-- Counters and cursor move while the scan runs. -/
theorem State.scans.setScan (h : s.scans) {x : Scan} (hx : x.state = .running) : (s.setScan x).scans :=
  ⟨(State.sameTable_setScan fun _ => h.2).runs h.1, hx⟩

theorem State.scans.advanceCursor (h : s.scans) : s.advanceCursor.scans := h.setScan h.2

/-- A commit of scan origin that is ready joins the queue, and the cursor passes (R161). -/
theorem State.scans.scanAdmit (h : s.scans) {c : Change} (ready : s.readyFor u ⟨c, .scan⟩) (hb : u.batch = s.batch)
    (hscan : u.scan = s.scan) (hc : (∀ i n, c ≠ .stageItem i n) ∧ c ≠ .promoteBatch)
    (hwf : Table.wf emptySlot u.engine.slots = true) (hphase : u.phase = s.phase)
    (fits : Commit.originFits ⟨c, .scan⟩) : (u.scanAdmit c).advanceCursor.scans := by
  obtain ⟨hs, hrun⟩ := h
  have joined : (u.joinQueue ⟨c, .scan⟩).scans :=
    ⟨hs.joinQueue ready hb (by rw [hscan]; exact id) hc hwf hphase fits nofun, (congrArg Scan.state hscan).trans hrun⟩
  exact (joined.setScan (x := { u.scan with inFlight := u.scan.inFlight + 1 })
    ((congrArg Scan.state hscan).trans hrun)).advanceCursor

/-- The RETIRE of an entry that qualifies (R162). -/
theorem State.scans.retire (h : s.scans) {sample : Bool} {n : Nat} (hd : s.slotDecision sample n = .retire) :
    (s.scanAdmit (.retireEntry n)).advanceCursor.scans := by
  obtain ⟨e, he, hret, hp, hl⟩ := State.slotDecision_eq_retire hd
  refine h.scanAdmit (h.1.readyFor_plain rfl (fun m hm => ?_) (fun m k _ hf => ?_) nofun (fun m hm => ?_) nofun nofun nofun)
    rfl rfl ⟨nofun, nofun⟩ h.1.wf rfl (.inl rfl)
  · cases hm
    exact ⟨State.not_subject hp hl, e, he⟩
  · have : (Change.retireEntry n).subject = some m := Change.subject_of_isFor (c := .retireEntry n) ⟨nofun, nofun⟩ hf
    cases this
    exact hp
  · cases hm
    exact hret

/-- The MOVE of an entry in spill to a FREE way of its home bucket (R163). -/
theorem State.scans.rehome (h : s.scans) {sample : Bool} {n target : Nat} {id : List Byte}
    (hd : s.slotDecision sample n = .rehome id target) :
    ((s.reserveSlot target id .move).scanAdmit (.moveEntry n target)).advanceCursor.scans := by
  obtain ⟨e, he, rfl, hway, hp⟩ := State.slotDecision_eq_rehome hd
  obtain ⟨hfree, hlies⟩ := State.freeWay_lies hway
  exact h.scanAdmit
    (h.1.readyFor_move he hp (State.not_subject hp (State.locked_of_unlocked h.unlocked n)) hfree hlies .scan)
    rfl rfl ⟨nofun, nofun⟩ (State.wf_setSlot _ _ _ h.1.wf) rfl (.inl rfl)

/-- A step keeps the machine running, slot by slot. -/
theorem State.scans.examine (sample : Bool) (n : Nat) (h : s.scans) : (State.examine sample n s).scans := by
  induction n generalizing s with
  | zero => exact h
  | succ n ih =>
    unfold State.examine
    split
    · exact h
    · split
      · exact ih h.advanceCursor
      · exact ih ((h.setScan (x := s.scan.countSkipped) h.2).advanceCursor)
      · rename_i hd
        split
        · exact h
        · exact ih (h.retire hd)
      · rename_i id target hd
        split
        · exact h
        · exact ih (h.rehome hd)

theorem State.sameTable_setPointer (s : State) (c : Candidate) : s.sameTable (s.setPointer c) :=
  ⟨rfl, rfl, rfl, rfl, rfl, rfl, rfl, rfl, id⟩

theorem State.runs.tableSound_scanStep (hs : s.runs) : s.scanStep.tableSound := by
  unfold State.scanStep
  split
  · rename_i hg
    have hscan : s.scan.state = .running := by
      rw [State.granted, if_pos hs.phase] at hg
      exact of_decide_eq_true (List.find?_some (p := s.isCandidate) hg)
    have start : (s.setPointer Candidate.scan.after).scans := ⟨(s.sameTable_setPointer _).runs hs, hscan⟩
    have examined := start.examine s.inhibited Config.stepSlots
    dsimp only
    split
    · exact (State.sameTable_endWalk _).tableSound examined.1.tableSound
    · exact examined.1.tableSound
  · exact hs.tableSound

end Sys2Proof.Machine
end

section
/-! Start-up: the store as a loss of power and a restore leave it, and the table that is built from it (R26, R108, R116 to
R118). -/

namespace Sys2Proof.Machine

variable {s t : State} {st st' : Store} {w : Work}

/-! ### The store while intake is closed -/

/-- The soundness of a store reads its slots alone. -/
theorem Store.sound_of_slots (hs : st.sound) (h : st'.slots = st.slots) : st'.sound :=
  Store.sound_congr (fun n => by unfold Store.slot; rw [h]; exact ⟨rfl, rfl, rfl⟩) hs

/-- An update of a slot reads and writes the slots alone. -/
theorem Store.promoteSlot_counter (x : Nat × Promotion) (c : Nat) :
    Store.promoteSlot { st with startCounter := c } x = { st.promoteSlot x with startCounter := c } := by
  obtain ⟨n, _ | _ | _⟩ := x <;> rfl

/-- The updates of a work pass over the start counter (R115). -/
theorem Work.updates_counter (w : Work) (k c : Nat) (st : Store) :
    w.updates k { st with startCounter := c } = { w.updates k st with startCounter := c } := by
  cases w with
  | moveImage a b e =>
    unfold Work.updates
    dsimp only
    split
    · rfl
    · split <;> rfl
  | promote ups =>
    change ups.foldl Store.promoteSlot { st with startCounter := c } = { ups.foldl Store.promoteSlot st with startCounter := c }
    induction ups generalizing st with
    | nil => rfl
    | cons x ups ih => rw [List.foldl_cons, List.foldl_cons, Store.promoteSlot_counter, ih]
  | _ => rfl

/-- The table stays sound as a start-up begins, ends or is stopped with the slots of the store as they are (R116). -/
theorem State.tableSound.closed (hs : s.tableSound) (hp : t.phase ≠ .running)
    (hstore : ∃ c, t.store = { s.store with startCounter := c })
    (hw : t.commits.work = none ∨ t.commits.work = s.commits.work) (hspill : t.engine.spillCounts = s.engine.spillCounts) :
    t.tableSound := by
  obtain ⟨c, hstore⟩ := hstore
  refine State.tableSound_of_closed hp (by rw [hstore]; exact Store.sound_of_slots hs.store rfl) (fun w hwork k => ?_)
    fun b => by unfold State.spillCount; rw [hspill]; exact hs.spillFits b
  rw [hstore, Work.updates_counter]
  rcases hw with hw | hw
  · rw [hw] at hwork; cases hwork
  · exact Store.sound_of_slots (hs.works w (hw ▸ hwork) k) rfl

theorem State.tableSound.beginStartUp (hs : s.tableSound) : s.beginStartUp.tableSound :=
  hs.closed nofun ⟨_, rfl⟩ s.commits.atStartUp_drops.2 rfl

theorem State.tableSound.resetFall (hs : s.tableSound) (raised : Bool) : (s.resetFall raised).tableSound := by
  have drops := s.commits.atStartUp_drops.2
  unfold State.resetFall
  split
  · exact hs
  · split
    · rename_i hp
      exact hs.closed (by rw [hp]; nofun) ⟨_, rfl⟩ (.inr rfl) rfl
    · exact hs.closed nofun ⟨_, rfl⟩ drops rfl
    · split
      · exact hs.closed nofun ⟨_, rfl⟩ drops rfl
      · exact hs.closed nofun ⟨_, rfl⟩ drops rfl
    · exact hs.closed nofun ⟨_, rfl⟩ drops rfl

/-! ### A loss of power (R108) -/

/-- A work that a loss of power cuts off leaves the store sound (R108, R110, R112). -/
theorem Work.sound_cut (h : st.sound) (hw : ∀ k, (w.updates k st).sound) (cut : PowerCut) : (w.cut cut st).sound := by
  have written : ∀ whole, (w.written whole st).sound := fun whole => by
    cases w with
    | writeClass c r => cases whole <;> exact Store.sound_of_slots h rfl
    | _ => exact h
  cases cut with
  | beforeUpdates => exact h
  | duringWrite => exact written false
  | afterWrite => exact written true
  | afterUpdates k =>
    unfold Work.cut
    dsimp only
    split
    · exact h
    · exact hw k
  | afterFault => exact w.sound_faulted h

theorem State.tableSound.storeAfterLoss (hs : s.tableSound) (cut : PowerCut) : (s.storeAfterLoss cut).sound := by
  unfold State.storeAfterLoss
  split
  · rename_i w hw
    exact Work.sound_cut hs.store (hs.works w hw) cut
  · split
    · exact Store.sound_of_slots hs.store rfl
    · exact hs.store

theorem State.tableSound.unpowered (hs : s.tableSound) (cut : PowerCut) :
    (s.unpowered (s.storeAfterLoss cut)).tableSound :=
  State.tableSound_of_closed nofun (hs.storeAfterLoss cut) (fun w hw => by cases hw) fun _ => Nat.zero_le _

/-! ### Restore settles the store (R117) -/

/-- A slot with an image is listed. -/
theorem Store.mem_keys {n : Nat} {e : Entry} (h : (st.slot n).image = some e) : n ∈ Table.keys st.slots := by
  refine List.mem_map.2 ⟨_, Table.mem_of_get (d := emptyDurable) fun hd => ?_, rfl⟩
  change st.slot n = emptyDurable at hd
  rw [hd] at h
  cases h

theorem Store.slot_of_not_mem_keys {n : Nat} (h : n ∉ Table.keys st.slots) : st.slot n = emptyDurable := by
  by_contra hd
  exact h (List.mem_map.2 ⟨_, Table.mem_of_get (d := emptyDurable) hd, rfl⟩)

/-- An entry without a twin is the only one with its ID (R117). -/
theorem Store.hasTwin_eq_false {n : Nat} {id : List Byte} (h : st.hasTwin n id = false) {m : Nat} {x : Entry}
    (hx : (st.slot m).image = some x) (hid : x.id = id) : m = n := by
  by_contra hmn
  have := List.any_eq_false.1 h m (Store.mem_keys hx)
  simp [hmn, hx, hid] at this

/-- Sound, with no more than one move-target mark (R112). -/
def Store.marked (st : Store) : Prop :=
  st.sound ∧ ∀ m n, (st.slot m).moveTarget = true → (st.slot n).moveTarget = true → m = n

/-- A mark dropped from a slot whose entry has no twin leaves the store sound (R117). -/
theorem Store.marked.drop (h : st.marked) {n : Nat}
    (alone : ∀ m x e, (st.slot n).image = some e → (st.slot m).image = some x → x.id = e.id → m = n) :
    (st.setSlot n { st.slot n with moveTarget := false }).marked := by
  obtain ⟨hs, one⟩ := h
  have slot : ∀ m, (st.setSlot n { st.slot n with moveTarget := false }).slot m
      = { st.slot m with moveTarget := if m = n then false else (st.slot m).moveTarget } := fun m => by
    rw [Store.slot_setSlot]
    split
    · rename_i hm; rw [hm]
    · rfl
  refine ⟨⟨fun m e he => ?_, fun k m x y hx hy hid => ?_, fun m hm => ?_⟩, fun k m hk hm => ?_⟩
  · rw [slot] at he; exact hs.placed m e he
  · rw [slot] at hx hy
    rw [slot, slot]
    by_cases hkn : k = n
    · subst hkn
      exact .inl (alone m y x hx hy hid.symm).symm
    · by_cases hmn : m = n
      · subst hmn
        exact .inl (alone k x y hy hx hid)
      · simp only [if_neg hkn, if_neg hmn]
        exact hs.alone k m x y hx hy hid
  · rw [slot] at hm ⊢; exact hs.unmarked m hm
  · rw [slot] at hk hm
    refine one k m ?_ ?_
    · split at hk
      · cases hk
      · exact hk
    · split at hm
      · cases hm
      · exact hm

/-- A slot cleared leaves the store sound (R110). -/
theorem Store.marked.clear (h : st.marked) (n : Nat) : (st.clear n).marked := by
  obtain ⟨hs, one⟩ := h
  have image : ∀ m e, ((st.clear n).slot m).image = some e → (st.slot m).image = some e ∧ m ≠ n := fun m e he => by
    rw [Store.slot_clear] at he
    split at he
    · cases he
    · rename_i hm; exact ⟨he, hm⟩
  have mark : ∀ m, ((st.clear n).slot m).moveTarget = true → (st.slot m).moveTarget = true := fun m hm => by
    rw [Store.slot_clear] at hm
    split at hm
    · cases hm
    · exact hm
  refine ⟨⟨fun m e he => hs.placed m e (image m e he).1, fun k m x y hx hy hid => ?_, fun m hm => ?_⟩,
    fun k m hk hm => one k m (mark k hk) (mark m hm)⟩
  · obtain ⟨hx, hkn⟩ := image k x hx
    obtain ⟨hy, hmn⟩ := image m y hy
    rw [Store.slot_clear, Store.slot_clear, if_neg hkn, if_neg hmn]
    exact hs.alone k m x y hx hy hid
  · rw [Store.slot_clear] at hm ⊢
    split
    · rfl
    · rename_i hmn
      rw [if_neg hmn] at hm
      exact hs.unmarked m hm

theorem Store.marked.settleMark (h : st.marked) (n : Nat) : (st.settleMark n).marked := by
  unfold Store.settleMark
  split
  · split
    · rename_i e he
      split
      · exact h.clear n
      · rename_i htwin
        refine h.drop fun m x y hy hx hid => ?_
        rw [he] at hy
        cases hy
        exact Store.hasTwin_eq_false (Bool.eq_false_iff.2 htwin) hx hid
    · rename_i he
      exact h.drop fun m x y hy => by rw [he] at hy; cases hy
  · exact h

/-- Restore leaves the store sound (R117). -/
theorem Store.marked.settle (h : st.marked) : st.settle.sound := by
  have settled : ((Table.keys st.slots).foldl Store.settleMark st).marked :=
    foldl_keeps (P := Store.marked) _ (fun u n _ hu => hu.settleMark n) st h
  refine Store.sound_congr (fun n => ?_) settled.1
  obtain ⟨x, hx⟩ := ((Table.keys st.slots).foldl Store.settleMark st).slot_discardStaged n
  unfold Store.settle
  rw [hx]
  exact ⟨rfl, rfl, rfl⟩

/-! ### The table built from the store (R26) -/

/-- The store holds a RETIRING entry in the slot (R25). -/
def DurableSlot.retiring (d : DurableSlot) : Bool :=
  match d.image with
  | some e => decide (e.state = .retiring) || d.retireMark
  | none => false

theorem State.loadSlot_frame (s : State) (n : Nat) : s.loadSlot n = { s with engine := (s.loadSlot n).engine } := by
  unfold State.loadSlot State.spillGain
  dsimp only
  split
  · split <;> split <;> rfl
  · rfl

theorem State.slot_loadSlot (s : State) (n m : Nat) :
    (s.loadSlot n).slot m = if m = n then (s.store.slot n).working else s.slot m := by
  rw [← State.slot_setSlot]
  unfold State.loadSlot
  dsimp only
  split
  · split
    · exact State.slot_spillGain _ _ _ _
    · exact State.slot_spillGain _ _ _ _
  · rfl

theorem DurableSlot.entry_working (d : DurableSlot) : d.working.content.entry? = d.image := by
  unfold DurableSlot.working
  cases d.image <;> rfl

theorem State.entryAt_loadSlot (s : State) (n m : Nat) :
    (s.loadSlot n).entryAt m = if m = n then (s.store.slot n).image else s.entryAt m := by
  unfold State.entryAt
  rw [State.slot_loadSlot]
  split
  · exact DurableSlot.entry_working _
  · rfl

theorem State.isRetiring_setSlot_working {n : Nat} {e : Entry} (he : (s.store.slot n).image = some e) :
    (s.setSlot n (s.store.slot n).working).isRetiring n e = (s.store.slot n).retiring := by
  unfold State.isRetiring DurableSlot.retiring
  rw [State.slot_setSlot, if_pos rfl, he]
  rfl

theorem State.mem_clearDue_loadSlot (s : State) (n m : Nat) : m ∈ (s.loadSlot n).engine.clearDue ↔
    if m = n then (s.store.slot n).retiring = true ∨ m ∈ s.engine.clearDue else m ∈ s.engine.clearDue := by
  have gain : ∀ (u : State) (id : List Byte), (u.spillGain n id).engine.clearDue = u.engine.clearDue := fun u id => by
    unfold State.spillGain
    split <;> rfl
  unfold State.loadSlot
  dsimp only
  split
  · rename_i e he
    rw [State.isRetiring_setSlot_working he]
    split
    · rename_i hr
      simp only [State.joinClearDue, mem_insertRising, gain, hr, true_or]
      by_cases hm : m = n <;> simp [hm]
    · rename_i hr
      simp [gain, hr]
  · rename_i he
    simp [DurableSlot.retiring, he]

theorem State.spillCount_loadSlot (s : State) (n b : Nat) :
    (s.loadSlot n).spillCount b = s.spillCount b + spillPart n b (s.store.slot n).image := by
  have gain : ∀ e : Entry, ((s.setSlot n (s.store.slot n).working).spillGain n e.id).spillCount b
      = s.spillCount b + spillPart n b (some e) := fun e => by
    rw [State.spillCount_spillGain, State.spillCount_setSlot]
    simp only [spillPart, eq_comm (b := b)]
  unfold State.loadSlot
  dsimp only
  split
  · rename_i e he
    rw [he]
    split
    · exact gain e
    · exact gain e
  · rename_i he
    rw [he]
    rfl

/-- A slot read for the first time keeps the counts sound. -/
theorem State.spillSound_loadSlot (hs : s.spillSound) {n : Nat} (he : s.entryAt n = none) : (s.loadSlot n).spillSound := by
  intro b
  have one := State.spillResidents_of_one (s := s) (t := s.loadSlot n) (n := n)
    (fun m hm => by rw [State.entryAt_loadSlot, if_neg hm]) b
  rw [State.entryAt_loadSlot, if_pos rfl, he] at one
  have hb := hs b
  have count := s.spillCount_loadSlot n b
  have zero : spillPart n b none = 0 := rfl
  omega

/-- The slots read one after the other keep the counts sound. -/
theorem State.spillSound_loadSlots (l : List Nat) (hl : l.Nodup) (hs : s.spillSound) (he : ∀ n ∈ l, s.entryAt n = none) :
    (l.foldl State.loadSlot s).spillSound := by
  induction l generalizing s with
  | nil => exact hs
  | cons n l ih =>
    obtain ⟨hn, hl⟩ := List.nodup_cons.1 hl
    refine ih hl (State.spillSound_loadSlot hs (he n List.mem_cons_self)) fun m hm => ?_
    rw [State.entryAt_loadSlot, if_neg fun h : m = n => hn (h ▸ hm)]
    exact he m (List.mem_cons_of_mem _ hm)

end Sys2Proof.Machine
end

section
/-! The end of restore (R118), the inversion of every command, and O45. -/

namespace Sys2Proof.Machine

variable {s t : State}

/-! ### The table that restore builds (R26) -/

/-- What every slot of the built table reads, and which entries are clear due. -/
theorem State.buildTable_at (s : State) (hwf : Table.wf emptyDurable s.store.slots = true) (n : Nat) :
    s.buildTable.slot n = (s.store.slot n).working ∧
      (n ∈ s.buildTable.engine.clearDue ↔ (s.store.slot n).retiring = true) := by
  have keys : ((Table.keys s.store.slots).map id).Nodup := by
    rw [List.map_id]
    exact ((rising_iff _).1 (Bool.and_eq_true_iff.1 hwf).1).imp fun h => Nat.ne_of_lt h
  have keep : ∀ (u : State) (m : Nat), u.store = s.store → (u.loadSlot m).store = s.store := fun u m hu => by
    rw [State.loadSlot_frame]; exact hu
  have slots := foldl_keyed (f := State.loadSlot) (key := id) (get := State.slot) (g := fun n _ => (s.store.slot n).working)
    (P := fun u => u.store = s.store) keep (fun u n m hu => by rw [State.slot_loadSlot, hu]; rfl) _ keys
    { s with engine := ⟨[], [], [], .port .mp⟩ } rfl
  have lists := foldl_keyed (f := State.loadSlot) (key := id) (get := fun u m => m ∈ u.engine.clearDue)
    (g := fun n p => (s.store.slot n).retiring = true ∨ p)
    (P := fun u => u.store = s.store) keep
    (fun u n m hu => by
      rw [eq_iff_iff, State.mem_clearDue_loadSlot, hu]
      by_cases h : m = n <;> simp [h]) _ keys
    { s with engine := ⟨[], [], [], .port .mp⟩ } rfl
  simp only [List.map_id] at slots lists
  by_cases hn : n ∈ Table.keys s.store.slots
  · refine ⟨slots.1 n hn, (iff_of_eq (lists.1 n hn)).trans (or_iff_left (List.not_mem_nil))⟩
  · have empty := Store.slot_of_not_mem_keys hn
    refine ⟨(slots.2 n hn).trans (by rw [empty]; rfl), (iff_of_eq (lists.2 n hn)).trans ?_⟩
    rw [empty]
    exact ⟨nofun, nofun⟩

theorem State.buildTable_frame (s : State) : s.buildTable = { s with engine := s.buildTable.engine } :=
  foldl_keeps (P := fun u => u = { s with engine := u.engine }) (f := State.loadSlot) _
    (fun u n _ hu => by rw [State.loadSlot_frame, hu]) _ rfl

theorem State.spillSound_buildTable (s : State) (hwf : Table.wf emptyDurable s.store.slots = true) :
    s.buildTable.spillSound := by
  refine State.spillSound_loadSlots _ ?_ (fun b => ?_) fun n _ => rfl
  · exact ((rising_iff _).1 (Bool.and_eq_true_iff.1 hwf).1).imp fun h => Nat.ne_of_lt h
  · rw [State.spillResidents_eq_sum]
    exact (Finset.sum_eq_zero fun n _ => rfl).symm

/-- The table that restore builds from a sound store without marks, with every other block at its start, is sound (R118). -/
theorem State.tableSound_buildTable (hwf : Table.wf emptyDurable s.store.slots = true) (store : s.store.sound)
    (unmarked : ∀ n, (s.store.slot n).moveTarget = false) (hc : s.commits = ⟨[], none⟩) (hh : s.holds = [])
    (hb : s.batch = emptyBatch) : s.buildTable.tableSound := by
  have frame := s.buildTable_frame
  have commits : s.buildTable.commits = ⟨[], none⟩ := by rw [frame]; exact hc
  have batch : s.buildTable.batch = emptyBatch := by rw [frame]; exact hb
  have stored : s.buildTable.store = s.store := by rw [frame]
  have place : ∀ p, s.buildTable.place p = freshPlace := fun p => by
    unfold State.place; rw [frame]; dsimp only; rw [hh]; rfl
  have slot := fun n => (s.buildTable_at hwf n).1
  have due := fun n => (s.buildTable_at hwf n).2
  have entry : ∀ n, s.buildTable.entryAt n = (s.store.slot n).image := fun n => by
    unfold State.entryAt; rw [slot]; exact DurableSlot.entry_working _
  have retiring : ∀ n, s.buildTable.slotRetiring n = (s.store.slot n).retiring := fun n => by
    unfold State.slotRetiring State.isRetiring DurableSlot.retiring; rw [entry, slot]; rfl
  have claims : s.buildTable.claims = [] := by unfold State.claims; rw [commits, batch]; rfl
  have subjects : s.buildTable.subjects = [] := by unfold State.subjects; rw [commits, batch]; rfl
  have idle : ∀ n, s.buildTable.openHolds n = 0 := fun n =>
    State.openHolds_eq_zero.2 fun p h _ hp => by rw [place] at hp; cases hp
  have queue : ∀ c, c ∉ s.buildTable.commits.queue := fun c => by rw [commits]; exact List.not_mem_nil
  refine State.tableSound_of (by rw [stored]; exact store) (fun w hw => by rw [commits] at hw; cases hw) ?_ ?_ ?_ ?_
  · refine State.directorySound_of (by rw [stored]; exact store) (by rw [stored]; exact unmarked)
      (fun n => by rw [entry, slot, stored]; exact ⟨rfl, rfl, rfl⟩) (s.spillSound_buildTable hwf) ?_
    rw [claims]
    refine ⟨fun n id x => ⟨fun h => ?_, nofun⟩, List.nodup_nil, List.nodup_nil, nofun, nofun⟩
    rw [slot] at h
    unfold DurableSlot.working at h
    cases hi : (s.store.slot n).image <;> rw [hi] at h <;> cases h
  · exact
      { lie := fun p h hp => by rw [place] at hp; cases hp
        within := fun n e b _ _ => by rw [State.heldUnits_eq_zero (idle n)]; exact Nat.zero_le _
        settling := fun c hc => absurd hc (queue c)
        modifying := fun c hc => absurd hc (queue c)
        clearing := fun n => by
          have unqueued : s.buildTable.clearQueued n = false := by unfold State.clearQueued; rw [commits]; rfl
          rw [due, unqueued, retiring, idle]
          simp
        cleared := fun n _ => by unfold State.clearQueued; rw [commits]; rfl }
  · exact
      { apart := by rw [subjects]; exact List.nodup_nil
        lie := fun n hn => by rw [subjects] at hn; cases hn
        single := fun n e _ => by rw [commits]; exact Nat.zero_le _
        fresh := fun c hc => absurd hc (queue c)
        living := fun c hc => absurd hc (queue c)
        work := fun c w hc _ => by rw [commits] at hc; cases hc }
  · refine State.batchSound_of_unlocked (by rw [batch]; rfl) (by rw [batch]; exact List.nodup_nil)
      (fun e he => by rw [batch] at he; cases he) (fun h => by rw [batch] at h; cases h) fun c hc => absurd hc (queue c)

/-! ### Commands -/

/-- A take leaves the table sound where its body does while intake is open. -/
theorem State.tableSound_take {p : Port} {k : Kind} {body : Request → State → State} (ht : s.tableSound)
    (hruns : s.phase = .running → s.runs) (h : ∀ r u, u.runs → (body r u).tableSound) : (s.take p k body).tableSound := by
  rcases State.take_cases p k body (s := s) with hs | ⟨r, hr, hs⟩
  · rw [hs]; exact ht
  · rw [hs]
    exact h r _ ((s.sameTable_dequeue p).runs (hruns (State.takeable_running hr)))

/-- An event that occurs only while intake is open. -/
theorem State.tableSound_whileRunning {f : State → State} (ht : s.tableSound) (hruns : s.phase = .running → s.runs)
    (closed : s.phase ≠ .running → f s = s) (h : s.runs → (f s).tableSound) : (f s).tableSound := by
  by_cases hp : s.phase = .running
  · exact h (hruns hp)
  · rw [closed hp]; exact ht

theorem State.scanStep_closed (hp : s.phase ≠ .running) : s.scanStep = s := by
  have none : s.granted ≠ some .scan := by rw [State.granted, if_neg hp]; nofun
  unfold State.scanStep
  rw [if_neg none]

theorem State.secondEvent_closed (hp : s.phase ≠ .running) : s.secondEvent = s := by
  unfold State.secondEvent
  rw [if_neg fun h => hp h.1]

theorem State.beginCommit_closed (hp : s.phase ≠ .running) : s.beginCommit = s := by
  unfold State.beginCommit
  rw [if_neg fun h => hp h.1]

theorem State.admitClear_closed (hp : s.phase ≠ .running) : s.admitClear = s := by
  unfold State.admitClear
  rw [if_neg fun h => hp (State.admitsInternal_iff.1 h).1]

theorem State.admitBatch_closed (hp : s.phase ≠ .running) : s.admitBatch = s := by
  unfold State.admitBatch
  rw [if_neg fun h => hp (State.admitsInternal_iff.1 h.1).1]

/-- An exchange writes its port alone (R174). -/
theorem State.sameTable_exchange (s : State) (p : Port) (x : Exchange) : s.sameTable (s.exchange p x) := by
  have refl : ∀ u : State, u.sameTable u := fun u => ⟨rfl, rfl, rfl, rfl, rfl, rfl, rfl, rfl, id⟩
  unfold State.exchange
  split
  · exact s.sameTable_setPort _ _
  · have begun : s.sameTable (if x.selectFalls = true then s.openTransaction p else s) := by
      split
      · exact s.sameTable_setPort _ _
      · exact refl s
    have clocked := foldl_keeps (P := fun u => s.sameTable u) (f := State.clockByte p) x.sent (fun u b _ hu => by
      refine hu.trans ?_
      unfold State.clockByte
      split
      · exact refl u
      · exact u.sameTable_setPort _ _) _ begun
    dsimp only
    split
    · exact clocked.trans (State.sameTable_setPort _ _ _)
    · exact clocked

/-- Every command leaves the table sound. -/
theorem exec_tableSound (c : Instr) (hwf : Table.wf emptyDurable s.store.slots = true) (hm : s.marksSettled)
    (ht : s.tableSound) (hruns : s.phase = .running → s.runs) : ∃ t, exec c s = .next t ∧ t.tableSound := by
  have answers : ∀ {p : Port} {r : Request} {u v : State}, u.runs → u.answersTo p r v → v.tableSound :=
    fun hu h => (State.sameTable_answersTo h).tableSound hu.tableSound
  have answer : ∀ {u : State} (p : Port) (r : Request) (status : Status) (payload : List Byte), u.runs →
      (u.answer p r status payload).tableSound := fun p r status payload hu =>
    (State.sameTable_answer _ _ _ _ _).tableSound hu.tableSound
  have change : ∀ {k : Kind} {read : List Byte → Option Item}, (∀ payload x, read payload = some x → x.newOk) →
      (s.take .mp k fun r => takeChange (read r.payload) r).tableSound := fun hread =>
    State.tableSound_take ht hruns fun r u hu => hu.tableSound_takeChange _ r fun e he => (hread _ _ he e rfl).1
  cases c with
  | request p x => exact ⟨_, rfl, (s.sameTable_exchange p x).tableSound ht⟩
  | fetch p x => exact ⟨_, rfl, (s.sameTable_exchange p x).tableSound ht⟩
  | portStatus p x => exact ⟨_, rfl, (s.sameTable_exchange p x).tableSound ht⟩
  | present p => exact ⟨_, rfl, State.tableSound_take ht hruns fun r u hu => answers hu (takePresent_answers u p r)⟩
  | draw p => exact ⟨_, rfl, State.tableSound_take ht hruns fun r u hu => hu.tableSound_takeDraw p r⟩
  | extend p => exact ⟨_, rfl, State.tableSound_take ht hruns fun r u hu => hu.tableSound_takeExtend p r⟩
  | settle p => exact ⟨_, rfl, State.tableSound_take ht hruns fun r u hu => hu.tableSound_takeSettle p r⟩
  | release p =>
    exact ⟨_, rfl, State.tableSound_take ht hruns fun r u hu =>
      (takeRelease_cases u p r).elim (answers hu) hu.tableSound_closesHold⟩
  | forceRelease =>
    exact ⟨_, rfl, State.tableSound_take ht hruns fun r u hu =>
      (takeForceRelease_cases u r).elim (answers hu) hu.tableSound_closesHold⟩
  | queryHold p => exact ⟨_, rfl, State.tableSound_take ht hruns fun r u hu => answers hu (takeQueryHold_answers u p r)⟩
  | listHolds => exact ⟨_, rfl, State.tableSound_take ht hruns fun r u hu => answers hu (takeListHolds_answers u r)⟩
  | readTime p => exact ⟨_, rfl, State.tableSound_take ht hruns fun r u hu => answer _ _ _ _ hu⟩
  | readIdentity p => exact ⟨_, rfl, State.tableSound_take ht hruns fun r u hu => answer _ _ _ _ hu⟩
  | status => exact ⟨_, rfl, State.tableSound_take ht hruns fun r u hu => answer _ _ _ _ hu⟩
  | setTime =>
    refine ⟨_, rfl, State.tableSound_take ht hruns fun r u hu => ?_⟩
    rcases takeSetTime_cases u r with h | ⟨payload, h⟩
    · exact answers hu h
    · rw [h]
      exact (State.sameTable_answer _ _ _ _ _).tableSound
        (State.sameTable.tableSound (s := u) ⟨rfl, rfl, rfl, rfl, rfl, rfl, rfl, rfl, id⟩ hu.tableSound)
  | setClass => exact ⟨_, rfl, State.tableSound_take ht hruns fun r u hu => hu.tableSound_takeSetClass r⟩
  | readClass => exact ⟨_, rfl, State.tableSound_take ht hruns fun r u hu => answers hu (takeReadClass_answers u r)⟩
  | insert => exact ⟨_, rfl, change fun _ _ => readInsertItem_newOk⟩
  | modify => exact ⟨_, rfl, change fun _ _ => readModify_newOk⟩
  | topUp => exact ⟨_, rfl, change fun _ _ => readTopUp_newOk⟩
  | bar => exact ⟨_, rfl, change fun _ _ => readBarItem_newOk⟩
  | unbar => exact ⟨_, rfl, change fun _ _ => readUnbarItem_newOk⟩
  | retire => exact ⟨_, rfl, change fun _ _ => readRetireItem_newOk⟩
  | relocate => exact ⟨_, rfl, State.tableSound_take ht hruns fun r u hu => hu.tableSound_takeRelocate r⟩
  | readEntry => exact ⟨_, rfl, State.tableSound_take ht hruns fun r u hu => answers hu (takeReadEntry_answers u r)⟩
  | stage => exact ⟨_, rfl, State.tableSound_take ht hruns fun r u hu => hu.tableSound_takeStage r⟩
  | discard => exact ⟨_, rfl, State.tableSound_take ht hruns fun r u hu => hu.tableSound_takeDiscard r⟩
  | readBatch => exact ⟨_, rfl, State.tableSound_take ht hruns fun r u hu => answer _ _ _ _ hu⟩
  | apply => exact ⟨_, rfl, State.tableSound_take ht hruns fun r u hu => hu.tableSound_takeApply r⟩
  | startScan => exact ⟨_, rfl, State.tableSound_take ht hruns fun r u hu => hu.tableSound_takeStartScan r⟩
  | suspendScan =>
    exact ⟨_, rfl, State.tableSound_take ht hruns fun r u hu =>
      (takeSuspendScan_cases u r).elim (answers hu) hu.tableSound_movesScan⟩
  | resumeScan =>
    exact ⟨_, rfl, State.tableSound_take ht hruns fun r u hu =>
      (takeResumeScan_cases u r).elim (answers hu) hu.tableSound_movesScan⟩
  | abortScan => exact ⟨_, rfl, State.tableSound_take ht hruns fun r u hu => hu.tableSound_takeAbortScan r⟩
  | reset => exact ⟨_, rfl, State.tableSound_take ht hruns fun r u hu => hu.tableSound.beginStartUp⟩
  | scanStep => exact ⟨_, rfl, State.tableSound_whileRunning ht hruns State.scanStep_closed fun hs => hs.tableSound_scanStep⟩
  | secondEvent =>
    exact ⟨_, rfl, State.tableSound_whileRunning ht hruns State.secondEvent_closed fun hs => hs.tableSound_secondEvent⟩
  | holdExpiry n =>
    refine ⟨_, rfl, ?_⟩
    split
    · rename_i hp; exact (hruns hp).tableSound_expire n
    · exact ht
  | commitBegin =>
    exact ⟨_, rfl, State.tableSound_whileRunning ht hruns State.beginCommit_closed fun hs => hs.tableSound_beginCommit⟩
  | clearDueAdmission =>
    exact ⟨_, rfl, State.tableSound_whileRunning ht hruns State.admitClear_closed fun hs => hs.tableSound_admitClear⟩
  | batchCommitAdmission =>
    exact ⟨_, rfl, State.tableSound_whileRunning ht hruns State.admitBatch_closed fun hs => hs.tableSound_admitBatch⟩
  | settlementCompletion v =>
    exact ⟨_, rfl, State.tableSound_complete ht hruns fun _ _ _ hs hc hk hw => hs.tableSound_settlementEffect hc hk hw v⟩
  | insertCompletion v =>
    exact ⟨_, rfl, State.tableSound_complete ht hruns fun _ _ _ hs hc hk hw => hs.tableSound_insertEffect hc hk hw v⟩
  | modifyCompletion v =>
    exact ⟨_, rfl, State.tableSound_complete ht hruns fun _ _ _ hs hc hk hw => hs.tableSound_modifyEffect hc hk hw v⟩
  | topUpCompletion v =>
    exact ⟨_, rfl, State.tableSound_complete ht hruns fun _ _ _ hs hc hk hw => hs.tableSound_topUpEffect hc hk hw v⟩
  | barCompletion v =>
    exact ⟨_, rfl, State.tableSound_complete ht hruns fun _ _ _ hs hc hk hw => hs.tableSound_barEffect hc hk hw v⟩
  | retireCompletion v =>
    exact ⟨_, rfl, State.tableSound_complete ht hruns fun _ _ _ hs hc hk hw => hs.tableSound_retireEffect hc hk hw v⟩
  | slotClearCompletion =>
    exact ⟨_, rfl, State.tableSound_complete ht hruns fun _ _ _ hs hc hk hw => hs.tableSound_clearEffect hc hk hw .ok _⟩
  | moveCompletion v =>
    exact ⟨_, rfl, State.tableSound_complete ht hruns fun _ _ _ hs hc hk hw => hs.tableSound_moveEffect hc hk hw v⟩
  | classWriteCompletion v =>
    exact ⟨_, rfl, State.tableSound_complete ht hruns fun _ _ _ hs hc hk hw => hs.tableSound_classEffect hc hk hw v⟩
  | stageWriteCompletion v =>
    exact ⟨_, rfl, State.tableSound_complete ht hruns fun _ _ _ hs hc hk hw => hs.tableSound_stageEffect hc hk hw v⟩
  | promoteCompletion =>
    exact ⟨_, rfl, State.tableSound_complete ht hruns fun _ _ _ hs hc hk hw => hs.tableSound_promoteEffect hc hk hw .ok _⟩
  | powerOn =>
    refine ⟨_, rfl, ?_⟩
    split
    · exact ht.closed nofun ⟨_, rfl⟩ (.inr rfl) rfl
    · exact ht
  | powerLoss cut =>
    refine ⟨_, rfl, ?_⟩
    split
    · exact ht
    · exact ht.unpowered cut
  | resetNFall raised => exact ⟨_, rfl, ht.resetFall raised⟩
  | resetNRelease =>
    exact ⟨_, rfl, State.sameTable.tableSound (s := s) ⟨rfl, rfl, rfl, rfl, rfl, rfl, rfl, rfl, id⟩ ht⟩
  | chgInhChange asserted =>
    exact ⟨_, rfl, State.sameTable.tableSound (s := s) ⟨rfl, rfl, rfl, rfl, rfl, rfl, rfl, rfl, id⟩ ht⟩
  | startUpRestore =>
    refine ⟨_, rfl, ?_⟩
    split
    · rename_i h
      obtain ⟨-, -, idle⟩ := h
      obtain ⟨-, -, one⟩ := hm
      exact State.tableSound_of_closed nofun (Store.marked.settle ⟨ht.store, one⟩)
        (fun w hw => by rw [show s.commits.work = some w from hw] at idle; cases idle) ht.spillFits
    · exact ht
  | restoreComplete =>
    refine ⟨_, rfl, ?_⟩
    split
    · rename_i h
      exact State.tableSound_buildTable hwf (Store.sound_of_slots ht.store rfl) (hm.1 (.inl h.1)) rfl rfl rfl
    · exact ht
  | tbclkPeriod =>
    refine ⟨_, rfl, ?_⟩
    split
    · exact State.sameTable.tableSound (s := s) ⟨rfl, rfl, rfl, rfl, rfl, rfl, rfl, rfl, id⟩ ht
    · exact ht

/-- Settles O45: a command is a take, an event of a block, a completion or a part of a start-up, and each leaves the table
sound. -/
theorem stepKeepsTheTableSound : Obligations.StepKeepsTheTableSound := by
  intro s t hc hm ha ht h
  unfold step at h
  split at h
  · cases h; exact ht
  · rename_i c rest hp
    have same : s.sameTable { s with pending := rest } := ⟨rfl, rfl, rfl, rfl, rfl, rfl, rfl, rfl, id⟩
    obtain ⟨-, -, -, hwf, -⟩ := id hc
    obtain ⟨t', ht', sound⟩ := exec_tableSound (s := { s with pending := rest }) c hwf hm (same.tableSound ht)
      fun hr => same.runs (State.runs_of hr hc hm ha ht)
    rw [ht'] at h
    cases h
    exact sound

end Sys2Proof.Machine
end

section
/-! Read Class, Set Class and the completion of a CLASS_WRITE (O20, O21). -/

namespace Sys2Proof.Machine

/-! ### The flags of a class (R34, R36) -/

theorem State.classPending_iff {s : State} {c : Nat} :
    s.classPending c = true ↔ ∃ y ∈ s.commits.queue, ∃ z, y.change = .writeClass c z := by
  unfold State.classPending
  rw [List.any_eq_true]
  refine exists_congr fun y => and_congr_right fun _ => ?_
  cases y.change with
  | writeClass n z => simp
  | _ => simp

theorem Change.guards_iff {c : Nat} {d : Change} : d.guards c = true ↔ ∃ z, d = .writeClass c z ∧ z.guarded = true := by
  cases d with
  | writeClass n z =>
    simp only [Change.guards, Bool.and_eq_true, beq_iff_eq, Change.writeClass.injEq]
    exact ⟨fun ⟨hn, hz⟩ => ⟨z, ⟨hn, rfl⟩, hz⟩, fun ⟨_, ⟨hn, hz⟩, hg⟩ => ⟨hn, hz ▸ hg⟩⟩
  | _ => simp [Change.guards]

theorem State.underGuard_iff {s : State} {c : Nat} : s.underGuard c = true ↔
    (s.classOf c).guarded = true ∨ ∃ y ∈ s.commits.queue, ∃ z, y.change = .writeClass c z ∧ z.guarded = true := by
  simp only [State.underGuard, Bool.or_eq_true, List.any_eq_true, Change.guards_iff]

/-! ### Read Class (R34) -/

/-- Settles O20: the take reads what stood before it, and its answer is the one that the class number asks for. -/
theorem readClassReports : Obligations.ReadClassReports := by
  refine ⟨fun s c => State.classPending_iff, fun r s c x ht hc hx => ?_⟩
  have taken : exec .readClass s = .next (takeReadClass r (s.dequeue .mp)) :=
    congrArg Host.Outcome.next (State.take_of_takeable ht takeReadClass)
  have kind : r.kind = .readClass := State.takeable_kind ht
  rw [taken]
  subst hc hx
  unfold takeReadClass
  refine ⟨fun above => ?_, fun within => ?_⟩
  · have refused : ¬ field r.payload 0 1 < Config.classes := Nat.not_lt.2 above
    simp only [refused, if_false, State.dequeue_answer, kind, Kind.code]
  · have read : field r.payload 0 1 < Config.classes := Nat.lt_succ_of_le within
    simp only [read, if_true, State.dequeue_answer, State.dequeue_classOf, State.dequeue_classPending, kind, Kind.code,
      ClassRecord.bytes, yesNo, List.cons_append, List.nil_append, List.append_assoc]

/-! ### Set Class (R31) -/

theorem readClassRecord_eq_some {bytes : List Byte} {x : ClassRecord} (h : readClassRecord bytes = some x) :
    10 ≤ x.lifetime ∧ x.lifetime ≤ x.lifetimeLimit ∧ x.lifetimeLimit ≤ 65535 := by
  unfold readClassRecord at h
  dsimp only at h
  split at h
  · rename_i inRange
    obtain ⟨-, -, -, lifetimes⟩ := inRange
    cases h
    exact lifetimes
  · cases h

theorem readSetClass_eq_some {payload : List Byte} {c : Nat} {x : ClassRecord} (h : readSetClass payload = some (c, x)) :
    c ≤ 15 ∧ 10 ≤ x.lifetime ∧ x.lifetime ≤ x.lifetimeLimit ∧ x.lifetimeLimit ≤ 65535 := by
  unfold readSetClass at h
  split at h
  · cases h
  · split at h
    · rename_i within
      obtain ⟨y, hy, heq⟩ := Option.map_eq_some_iff.1 h
      cases heq
      exact ⟨Nat.le_of_lt_succ within, readClassRecord_eq_some hy⟩
    · cases h

theorem exec_setClass {s : State} {r : Request} (ht : s.takeable .mp .setClass = some r) :
    exec .setClass s = .next (takeSetClass r (s.dequeue .mp)) :=
  congrArg Host.Outcome.next (State.take_of_takeable ht takeSetClass)

/-- A payload that is no class record is refused (R31 checks 1 and 2). -/
theorem exec_setClass_of_malformed {s : State} {r : Request} (ht : s.takeable .mp .setClass = some r)
    (hr : readSetClass r.payload = none) : exec .setClass s = .next (s.answered .mp ⟨0x22#8, r.tag, .badField, []⟩) := by
  rw [exec_setClass ht]
  simp only [takeSetClass, hr, State.dequeue_answer, State.takeable_kind ht, Kind.code]

/-- A class record meets the guard, and is queued where that lets it pass (R31 check 3, R38). -/
theorem exec_setClass_of_record {s : State} {r : Request} (ht : s.takeable .mp .setClass = some r) {c : Nat} {x : ClassRecord}
    (hr : readSetClass r.payload = some (c, x)) : exec .setClass s = .next
      (if s.inhibited = true ∧ s.underGuard c = true then s.answered .mp ⟨0x22#8, r.tag, .guarded, []⟩
       else s.accepted .mp 0x22#8 r.tag (.writeClass c x)) := by
  rw [exec_setClass ht]
  simp only [takeSetClass, hr, State.dequeue_answer, State.dequeue_accept, State.dequeue_inhibited, State.dequeue_underGuard,
    State.takeable_kind ht, Kind.code]

/-! ### The completion of a CLASS_WRITE (R28, R32) -/

theorem Store.inUse_makeClassCurrent (st : Store) (c d : Nat) (x : ClassRecord) :
    ((st.makeClassCurrent c x).classAt d).inUse = if d = c then x else (st.classAt d).inUse :=
  (congrArg ClassStore.inUse (Store.classAt_setClass _ _ _ _)).trans (apply_ite _ _ _ _)

theorem Store.classAt_spoilClass (st : Store) (c d : Nat) :
    ((st.spoilClass c).classAt d).inUse = (st.classAt d).inUse ∧
      ((st.spoilClass c).classAt d).current = (st.classAt d).current := by
  unfold Store.spoilClass
  rw [Store.classAt_setClass]
  split
  · rename_i hd
    rw [hd]
    exact ⟨rfl, rfl⟩
  · exact ⟨rfl, rfl⟩

/-- Settles O21: the checks in the order the take makes them, and the two results of the write. -/
theorem setClassAndItsCompletion : Obligations.SetClassAndItsCompletion := by
  refine ⟨⟨fun s c => State.underGuard_iff, fun r s ht => ⟨exec_setClass_of_malformed ht, fun c x hr =>
    ⟨readSetClass_eq_some hr, exec_setClass_of_record ht hr⟩⟩⟩, fun s c x o rest hrun hc => ⟨?_, ?_⟩⟩
  · have inUse : ∀ d, (s.ended rest (s.store.makeClassCurrent c x)).classOf d = if d = c then x else s.classOf d :=
      fun d => Store.inUse_makeClassCurrent _ _ _ _
    refine ⟨_, ?_, rfl, inUse⟩
    refine (congrArg Host.Outcome.next (State.complete_running hrun hc Change.isClassWrite rfl .ok classEffect)).trans ?_
    change Host.Outcome.next (State.report _ o .ok (byte c ::
      ((s.ended rest (s.store.makeClassCurrent c x)).classOf c).bytes)) = _
    rw [inUse, if_pos rfl]
    rfl
  · have inUse : ∀ d, (s.ended rest (s.store.spoilClass c)).classOf d = s.classOf d :=
      fun d => (Store.classAt_spoilClass _ _ _).1
    refine ⟨_, ?_, rfl, inUse⟩
    refine (congrArg Host.Outcome.next (State.complete_running hrun hc Change.isClassWrite rfl .fault classEffect)).trans ?_
    change Host.Outcome.next (State.report _ o .storeFault (byte c ::
      ((s.ended rest (s.store.spoilClass c)).classOf c).bytes)) = _
    rw [inUse]
    rfl

end Sys2Proof.Machine
end

section
/-! What a failed verify and a loss of power leave of a work (O28). -/

namespace Sys2Proof.Machine

/-! ### A failed verify (R109, R110, R153) -/

/-- A discard empties every staging position and writes nothing else (R117, R153). -/
theorem Store.slot_discardStaged_none (st : Store) (m : Nat) :
    st.discardStaged.slot m = { st.slot m with staged := none } := by
  have fold : ∀ (l : List Nat) (u : Store), (l.foldl (fun x n => x.setSlot n { x.slot n with staged := none }) u).slot m =
      if m ∈ l then { u.slot m with staged := none } else u.slot m := by
    intro l
    induction l with
    | nil => exact fun u => rfl
    | cons n l ih =>
      intro u
      rw [List.foldl_cons, ih, Store.slot_setSlot]
      by_cases hm : m = n
      · subst hm
        simp
      · simp [hm]
  refine (fold _ st).trans ?_
  split
  · rfl
  · rename_i unlisted
    rw [Store.slot_of_not_mem_keys unlisted]
    rfl

theorem Store.classes_discardStaged (st : Store) : st.discardStaged.classes = st.classes := by
  unfold Store.discardStaged
  refine foldl_keeps (P := fun u : Store => u.classes = st.classes) _ ?_ st rfl
  exact fun _ _ _ hu => hu

theorem Work.slot_faulted_writeStaged (n : Nat) (e : Entry) (st : Store) (m : Nat) :
    ((Work.writeStaged n e).faulted st).slot m =
      { st.slot m with staged := none, worn := (st.slot m).worn || decide (m = n) } := by
  change (st.wear n).discardStaged.slot m = _
  rw [Store.slot_discardStaged_none, Store.slot_wear]
  by_cases hm : m = n
  · simp [hm]
  · simp [hm]

theorem Work.complete_fault {w : Work} (h : w.canFault = true) (st : Store) : w.complete .fault st = w.faulted st := by
  simp [Work.complete, Work.result, h]

/-- The operand of a work of directory updates alone is not read (R110, log 28). -/
theorem Work.complete_of_cannot_fault {w : Work} (h : w.canFault = false) (v : Verify) (st : Store) :
    w.complete v st = w.updates 3 st := by
  simp [Work.complete, Work.result, h]

/-- A failed verify wears the slot whose image or staging position it wrote (R109). -/
theorem Work.worn_faulted {w : Work} {n : Nat} {e : Entry}
    (h : w = .writeImage n e ∨ w = .writeStaged n e ∨ ∃ a, w = .moveImage a n e) (st : Store) :
    ((w.faulted st).slot n).worn = true := by
  have worn : ((st.wear n).slot n).worn = true := by rw [Store.slot_wear, if_pos rfl]
  rcases h with rfl | rfl | ⟨a, rfl⟩
  · exact worn
  · rw [Work.slot_faulted_writeStaged]
    simp
  · exact worn

/-- A failed verify leaves the record in use of every class (R28, R32). -/
theorem Work.inUse_faulted (w : Work) (st : Store) (c : Nat) :
    ((w.faulted st).classAt c).inUse = (st.classAt c).inUse := by
  cases w with
  | writeClass d x => exact (Store.classAt_spoilClass st d c).1
  | writeStaged n e =>
    change ((st.wear n).discardStaged.classAt c).inUse = _
    unfold Store.classAt
    rw [Store.classes_discardStaged]
    rfl
  | _ => rfl

/-! ### A loss of power while a work is in progress (R108, log 8) -/

/-- What a loss of power leaves is the part without supply, with the store as the work was cut. -/
theorem exec_powerLoss {s : State} {w : Work} (cut : PowerCut) (hp : s.phase ≠ .off) (hw : s.commits.work = some w) :
    exec (.powerLoss cut) s = .next (s.unpowered (w.cut cut s.store)) := by
  change Host.Outcome.next (if s.phase = .off then s else s.unpowered (s.storeAfterLoss cut)) = _
  simp only [hp, if_false, State.storeAfterLoss, hw]

theorem Work.cut_afterUpdates (w : Work) {k : Nat} (hk : k ≠ 0) (st : Store) :
    w.cut (.afterUpdates k) st = w.updates k st := if_neg hk

/-- Everything a loss of power can do to a work: it has made no update, has something written that is not current, has made
some updates, or has failed its verify (R28, R108). -/
theorem Work.cut_cases (w : Work) (cut : PowerCut) (st : Store) :
    w.cut cut st = st ∨ (∃ whole, w.cut cut st = w.written whole st) ∨ (∃ k, w.cut cut st = w.updates k st) ∨
      w.cut cut st = w.faulted st := by
  cases cut with
  | beforeUpdates => exact .inl rfl
  | duringWrite => exact .inr (.inl ⟨false, rfl⟩)
  | afterWrite => exact .inr (.inl ⟨true, rfl⟩)
  | afterUpdates k => exact (ite_eq_or_eq _ _ _).imp_right fun made => .inr (.inl ⟨k, made⟩)
  | afterFault => exact .inr (.inr (.inr rfl))

/-! ### What stays whole -/

theorem Work.image_cut_writeImage (n : Nat) (e : Entry) (cut : PowerCut) (st : Store) :
    (((Work.writeImage n e).cut cut st).slot n).image = (st.slot n).image ∨
      (((Work.writeImage n e).cut cut st).slot n).image = some e := by
  rcases Work.cut_cases (.writeImage n e) cut st with h | ⟨_, h⟩ | ⟨_, h⟩ | h <;> rw [h]
  · exact .inl rfl
  · exact .inl rfl
  · exact .inr (congrArg DurableSlot.image ((Store.slot_writeImage st n e n).trans (if_pos rfl)))
  · exact .inl (Work.slot_faulted _ st n).1

theorem Work.slot_cut_writeImage_other {m n : Nat} (hm : m ≠ n) (e : Entry) (cut : PowerCut) (st : Store) :
    ((Work.writeImage n e).cut cut st).slot m = st.slot m := by
  rcases Work.cut_cases (.writeImage n e) cut st with h | ⟨_, h⟩ | ⟨_, h⟩ | h <;> rw [h]
  · rfl
  · exact (Store.slot_writeImage st n e m).trans (if_neg hm)
  · exact (Store.slot_wear st n m).trans (if_neg hm)

/-- A promotion is made in one update or not at all (R114). -/
theorem Work.cut_promote (ups : List (Nat × Promotion)) (cut : PowerCut) (st : Store) :
    (Work.promote ups).cut cut st = st ∨ (Work.promote ups).cut cut st = (Work.promote ups).complete .ok st := by
  rcases Work.cut_cases (.promote ups) cut st with h | ⟨_, h⟩ | ⟨_, h⟩ | h
  · exact .inl h
  · exact .inl h
  · exact .inr h
  · exact .inl h

/-- A CLASS_WRITE writes positions of its class alone (R28). -/
theorem Work.cut_writeClass (c : Nat) (x : ClassRecord) (cut : PowerCut) (st : Store) :
    (Work.writeClass c x).cut cut st = st ∨ ∃ y, (Work.writeClass c x).cut cut st = st.setClass c y := by
  rcases Work.cut_cases (.writeClass c x) cut st with h | ⟨whole, h⟩ | ⟨_, h⟩ | h
  · exact .inl h
  · cases whole with
    | false => exact .inr ⟨_, h⟩
    | true => exact .inr ⟨_, h⟩
  · exact .inr ⟨_, h⟩
  · exact .inr ⟨_, h⟩

theorem Work.cut_writeClass_frame (c : Nat) (x : ClassRecord) (cut : PowerCut) (st : Store) :
    (Work.writeClass c x).cut cut st = { st with classes := ((Work.writeClass c x).cut cut st).classes } ∧
      ∀ d, d ≠ c → ((Work.writeClass c x).cut cut st).classAt d = st.classAt d := by
  rcases Work.cut_writeClass c x cut st with h | ⟨y, h⟩
  · rw [h]
    exact ⟨rfl, fun _ _ => rfl⟩
  · rw [h]
    exact ⟨rfl, fun d hd => (Store.classAt_setClass _ _ _ _).trans (if_neg hd)⟩

theorem Work.image_cut_writeStaged (n : Nat) (e : Entry) (cut : PowerCut) (st : Store) (m : Nat) :
    (((Work.writeStaged n e).cut cut st).slot m).image = (st.slot m).image := by
  rcases Work.cut_cases (.writeStaged n e) cut st with h | ⟨_, h⟩ | ⟨_, h⟩ | h <;> rw [h]
  · rfl
  · simp only [Work.updates, Store.slot_setSlot]
    split
    · rename_i hm
      rw [hm]
    · rfl
  · exact (Work.slot_faulted _ st m).1

/-- Restore keeps no staged version (R117 step 2). -/
theorem Store.staged_settle (st : Store) (m : Nat) : (st.settle.slot m).staged = none := by
  unfold Store.settle
  rw [Store.slot_discardStaged_none]

/-! ### The obligation -/

theorem faulted_keeps_images_whole {w : Work} (h : w.canFault = true) (st : Store) :
    (∀ n, ((w.complete .fault st).slot n).image = (st.slot n).image) ∧
    (∀ n e, w = .writeImage n e ∨ w = .writeStaged n e ∨ (∃ a, w = .moveImage a n e) →
      ((w.complete .fault st).slot n).worn = true) ∧
    (∀ c x, w = .writeClass c x → (w.complete .fault st).slots = st.slots) ∧
    (∀ c, ((w.complete .fault st).classAt c).inUse = (st.classAt c).inUse) := by
  rw [Work.complete_fault h]
  exact ⟨fun n => (w.slot_faulted st n).1, fun n e hw => Work.worn_faulted hw st, fun c x hw => by rw [hw]; rfl,
    w.inUse_faulted st⟩

/-- Settles O28: a failed verify keeps images and records in use, and each point at which a loss of power cuts a work leaves the
store as before it, as after its update, or as after a failed verify. -/
theorem faultAndPowerLossKeepImagesWhole : Obligations.FaultAndPowerLossKeepImagesWhole := by
  refine ⟨fun w st h => faulted_keeps_images_whole h st,
    fun w st h => (Work.complete_of_cannot_fault h .fault st).trans (Work.complete_of_cannot_fault h .ok st).symm,
    fun s n e cut hp hw => ?_, fun s ups cut hp hw => ?_, fun s c x cut hp hw => ?_, fun s n e cut hp hw => ?_⟩
  · exact ⟨_, exec_powerLoss cut hp hw, rfl, rfl, Work.image_cut_writeImage n e cut s.store,
      fun m hm => Work.slot_cut_writeImage_other hm e cut s.store⟩
  · exact ⟨_, exec_powerLoss cut hp hw, rfl, Work.cut_promote ups cut s.store⟩
  · obtain ⟨frame, others⟩ := Work.cut_writeClass_frame c x cut s.store
    refine ⟨_, exec_powerLoss cut hp hw, rfl, rfl, frame, others, ?_, ?_, ?_, ?_⟩
    · rintro rfl
      rfl
    · rintro (rfl | rfl)
      · exact Store.classAt_spoilClass s.store c c
      · exact Store.classAt_spoilClass s.store c c
    · rintro rfl
      exact (Store.classAt_setClass s.store c c _).trans (if_pos rfl)
    · rintro k hk rfl
      rw [Work.cut_afterUpdates _ hk]
      exact (Store.classAt_setClass s.store c c _).trans (if_pos rfl)
  · refine ⟨_, exec_powerLoss cut hp hw, rfl, rfl, rfl,
      fun m => ⟨Work.image_cut_writeStaged n e cut s.store m, Store.staged_settle _ m⟩, ?_, ?_, ?_⟩
    · rintro (rfl | rfl | rfl)
      · rfl
      · rfl
      · rfl
    · rintro k hk rfl
      exact Work.cut_afterUpdates _ hk s.store
    · rintro rfl
      exact Work.slot_faulted_writeStaged n e s.store

end Sys2Proof.Machine
end

section
/-! The first start-up of a device that was never used (O53). -/

namespace Sys2Proof.Machine

theorem exec_powerOn_of_off {s : State} (h : s.phase = .off) : exec .powerOn s = .next { s with phase := .starting } :=
  congrArg Host.Outcome.next (if_pos h)

theorem exec_startUpRestore_of_starting {s : State} (h : s.phase = .starting ∧ s.resetLow = false ∧ s.commits.work = none) :
    exec .startUpRestore s = .next { s with store := s.store.settle, phase := .settled } :=
  congrArg Host.Outcome.next (if_pos h)

theorem exec_restoreComplete_of_settled {s : State} (h : s.phase = .settled ∧ s.resetLow = false) :
    exec .restoreComplete s = .next s.completeRestore := congrArg Host.Outcome.next (if_pos h)

/-- A store without slots is settled as it stands (R117). -/
theorem Store.settle_of_no_slots {st : Store} (h : st.slots = []) : st.settle = st := by
  simp [Store.settle, Store.discardStaged, h, Table.keys]

/-- The table built from a store without slots is empty (R26). -/
theorem State.buildTable_of_no_slots {s : State} (h : s.store.slots = []) :
    s.buildTable = { s with engine := ⟨[], [], [], .port .mp⟩ } := by
  simp [State.buildTable, h, Table.keys]

/-- Settles O53: the factory store has no slot, so restore leaves it as it is and builds the empty table. -/
theorem factoryDeviceStartsAtReset : Obligations.FactoryDeviceStartsAtReset := by
  have restored : exec .startUpRestore { State.factory with phase := .starting } =
      .next { State.factory with phase := .settled } := by
    rw [exec_startUpRestore_of_starting ⟨rfl, rfl, rfl⟩, Store.settle_of_no_slots rfl]
  have opened : exec .restoreComplete { State.factory with phase := .settled } = .next State.reset := by
    rw [exec_restoreComplete_of_settled ⟨rfl, rfl⟩, State.completeRestore, State.buildTable_of_no_slots rfl]
    rfl
  have summaries : ∀ p, State.reset.summary p = 0x88#8 := by
    intro p
    cases p <;> decide
  exact ⟨exec_powerOn_of_off rfl, restored, opened, rfl, rfl, fun _ => rfl, summaries⟩

end Sys2Proof.Machine
end

section
/-! The divider, and what a second event does to the counts and to the holds (O17). -/

namespace Sys2Proof.Machine

variable {s : State}

/-! ### The divider (R42) -/

theorem Timebase.period_counts {x : Timebase} (h : x.divider < 32767) :
    x.period = { x with divider := x.divider + 1 } :=
  if_pos (Nat.succ_lt_succ h)

theorem Timebase.period_wraps {x : Timebase} (h : x.divider = 32767) :
    x.period = { x with divider := 0, secondsDue := x.secondsDue + 1 } :=
  if_neg (by rw [h]; exact Nat.lt_irrefl _)

theorem exec_tbclkPeriod_running (hp : s.phase = .running) :
    exec .tbclkPeriod s = .next { s with time := s.time.period } := congrArg Host.Outcome.next (if_pos hp)

theorem exec_tbclkPeriod_closed (hp : s.phase ≠ .running) : exec .tbclkPeriod s = .next s :=
  congrArg Host.Outcome.next (if_neg hp)

/-! ### Holds made due (R84) -/

/-- A hold place once the hold clock has come to `clock`: an OPEN hold whose deadline is reached is due. -/
def HoldPlace.dueAt (x : HoldPlace) (clock : Nat) : HoldPlace :=
  match x.live with
  | some h => { x with live := some { h with due := h.due || h.atDeadline clock } }
  | none => x

theorem HoldPlace.dueAt_of_live {x : HoldPlace} {h : Hold} (hl : x.live = some h) (clock : Nat) :
    x.dueAt clock = { x with live := some { h with due := h.due || h.atDeadline clock } } := by
  simp only [HoldPlace.dueAt, hl]

theorem HoldPlace.dueAt_of_free {x : HoldPlace} (hl : x.live = none) (clock : Nat) : x.dueAt clock = x := by
  simp only [HoldPlace.dueAt, hl]

/-- A place whose live hold is written back as it is. -/
theorem HoldPlace.withLive_self {x : HoldPlace} {h : Hold} (hl : x.live = some h) : { x with live := some h } = x := by
  rw [← hl]

/-- A hold is made due once. -/
theorem HoldPlace.dueAt_dueAt (x : HoldPlace) (clock : Nat) : (x.dueAt clock).dueAt clock = x.dueAt clock := by
  cases hl : x.live with
  | none => rw [HoldPlace.dueAt_of_free hl, HoldPlace.dueAt_of_free hl]
  | some h =>
    rw [HoldPlace.dueAt_of_live hl, HoldPlace.dueAt_of_live rfl]
    simp only [Hold.atDeadline, Bool.or_assoc, Bool.or_self]

/-- Making one place due writes that place of the hold table. -/
theorem State.markDue_eq (s : State) (n : Nat) : s.markDue n = s ∧ (s.place n).dueAt s.time.holdClock = s.place n ∨
    s.markDue n = s.setPlace n ((s.place n).dueAt s.time.holdClock) := by
  unfold State.markDue
  split
  · rename_i h hl
    rw [HoldPlace.dueAt_of_live hl]
    split
    · rename_i hd
      rw [hd, Bool.or_true]
      exact .inr rfl
    · rename_i hd
      rw [Bool.eq_false_iff.2 hd, Bool.or_false]
      exact .inl ⟨rfl, HoldPlace.withLive_self hl⟩
  · rename_i hl
    exact .inl ⟨rfl, HoldPlace.dueAt_of_free hl _⟩

theorem State.markDue_frame (s : State) (n : Nat) : s.markDue n = { s with holds := (s.markDue n).holds } := by
  rcases s.markDue_eq n with ⟨h, -⟩ | h
  · rw [h]
  · rw [h]
    rfl

theorem State.place_markDue (s : State) (n m : Nat) :
    (s.markDue n).place m = if m = n then (s.place m).dueAt s.time.holdClock else s.place m := by
  rcases s.markDue_eq n with ⟨h, same⟩ | h
  · rw [h]
    split
    · rename_i hm
      rw [hm, same]
    · rfl
  · rw [h, State.place_setPlace]
    split
    · rename_i hm
      rw [hm]
    · rfl

theorem State.markDue_foldl_frame (s : State) (l : List Nat) :
    l.foldl State.markDue s = { s with holds := (l.foldl State.markDue s).holds } :=
  foldl_keeps (P := fun u : State => u = { s with holds := u.holds }) l
    (fun u n _ hu => by rw [State.markDue_frame, hu]) s rfl

theorem State.place_foldl_markDue (s : State) (l : List Nat) (m : Nat) :
    (l.foldl State.markDue s).place m = if m ∈ l then (s.place m).dueAt s.time.holdClock else s.place m := by
  induction l generalizing s with
  | nil => rfl
  | cons n l ih =>
    have clock : (s.markDue n).time = s.time := by rw [State.markDue_frame]
    rw [List.foldl_cons, ih, clock, State.place_markDue]
    by_cases hm : m = n
    · simp [hm, HoldPlace.dueAt_dueAt]
    · simp [hm]

/-! ### The second event (R43) -/

theorem State.secondEvent_of_due (h : s.phase = .running ∧ 0 < s.time.secondsDue) : s.secondEvent =
    (List.range Config.holdPlaces).foldl State.markDue { s with time := s.time.second } := if_pos h

/-- A second event writes the timebase and the hold table. -/
theorem State.secondEvent_frame (h : s.phase = .running ∧ 0 < s.time.secondsDue) :
    s.secondEvent = { s with time := s.time.second, holds := s.secondEvent.holds } := by
  rw [State.secondEvent_of_due h, State.markDue_foldl_frame]

theorem State.place_secondEvent (h : s.phase = .running ∧ 0 < s.time.secondsDue) (n : Nat) :
    s.secondEvent.place n = if n < 32 then (s.place n).dueAt s.time.second.holdClock else s.place n := by
  rw [State.secondEvent_of_due h, State.place_foldl_markDue]
  simp only [List.mem_range, Config.holdPlaces]
  rfl

/-- Everything a second event can do to the timebase (R42, R43). -/
theorem State.secondEvent_time_cases (s : State) : s.secondEvent.time = s.time ∨ s.secondEvent.time = s.time.second := by
  by_cases h : s.phase = .running ∧ 0 < s.time.secondsDue
  · exact .inr (by rw [State.secondEvent_frame h])
  · exact .inl (congrArg State.time (if_neg h))

/-- Settles O17: the divider counts or wraps, and a second event writes the timebase and then each place of the hold table as
`HoldPlace.dueAt` says. -/
theorem dividerAndSecondEvent : Obligations.DividerAndSecondEvent := by
  refine ⟨fun s => ⟨fun hp hd => ?_, fun hp hd => ?_, exec_tbclkPeriod_closed⟩, fun s hp hdue => ?_⟩
  · rw [exec_tbclkPeriod_running hp, Timebase.period_counts hd]
  · rw [exec_tbclkPeriod_running hp, Timebase.period_wraps hd]
  · have frame := State.secondEvent_frame ⟨hp, hdue⟩
    have time : s.secondEvent.time = s.time.second := by rw [frame]
    refine ⟨s.secondEvent, rfl, ?_, ?_, ?_, ?_, ?_, fun n => ?_⟩
    · rw [time]
      exact frame
    · rw [time]
      rfl
    · rw [time]
      rfl
    · rw [time]
      rfl
    · rw [time]
      exact Nat.sub_add_cancel hdue
    · rw [State.place_secondEvent ⟨hp, hdue⟩, time]
      cases hl : (s.place n).live with
      | none =>
        rw [HoldPlace.dueAt_of_free hl, ite_self]
      | some h =>
        by_cases hn : n < 32
        · rw [if_pos hn, HoldPlace.dueAt_of_live hl]
          simp only [hn, Hold.atDeadline, decide_true, Bool.true_and]
        · simp only [hn, if_false, decide_false, Bool.false_and, Bool.or_false]
          exact (HoldPlace.withLive_self hl).symm

end Sys2Proof.Machine
end

section
/-! Set Time by the rows of Table 3-1 (O18). -/

namespace Sys2Proof.Machine

variable {s : State} {r : Request}

/-! ### The rows of Table 3-1 (R45) -/

/-- A byte above 1 is no yes or no (Table 10-3). -/
theorem readYesNo_above {v : Nat} (h : 1 < v) : readYesNo v = none := by
  unfold readYesNo
  rw [if_neg (by omega), if_neg (by omega)]

theorem readYesNo_within {v : Nat} (h : v ≤ 1) : readYesNo v = some (decide (v = 1)) := by
  rcases Nat.le_one_iff_eq_zero_or_eq_one.1 h with rfl | rfl <;> rfl

theorem setTimeStatus_known (now t : Nat) (force : Bool) :
    setTimeStatus (some now) t (some force) = if now ≤ t ∨ force = true then .ok else .timeBackward := by
  by_cases ht : now ≤ t
  · simp [setTimeStatus, ht]
  · simp [setTimeStatus, ht]

/-! ### The take -/

theorem exec_setTime (ht : s.takeable .mp .setTime = some r) :
    exec .setTime s = .next (takeSetTime r (s.dequeue .mp)) :=
  congrArg Host.Outcome.next (State.take_of_takeable ht takeSetTime)

/-- A Set Time that is OK writes device time; its answer carries the time after and before. -/
theorem exec_setTime_ok (ht : s.takeable .mp .setTime = some r)
    (hok : setTimeStatus s.time.deviceTime (field r.payload 0 4) (readYesNo (field r.payload 4 1)) = .ok) :
    exec .setTime s = .next
      ({ s with time := { s.time with deviceTime := some (field r.payload 0 4) } }.answered .mp
        ⟨0x21#8, r.tag, .ok, optional 4 (some (field r.payload 0 4)) ++ optional 4 s.time.deviceTime⟩) := by
  have code : r.kind.code = 0x21#8 := by rw [State.takeable_kind ht]; rfl
  rw [exec_setTime ht]
  simp only [takeSetTime, State.dequeue_time, hok]
  rw [← code]
  exact congrArg Host.Outcome.next (State.answer_eq_answered r _ _
    { s with time := { s.time with deviceTime := some (field r.payload 0 4) } } rfl)

/-- A Set Time that is not OK leaves device time; its answer carries that time. -/
theorem exec_setTime_refused (ht : s.takeable .mp .setTime = some r) {status : Status}
    (hs : setTimeStatus s.time.deviceTime (field r.payload 0 4) (readYesNo (field r.payload 4 1)) = status)
    (hne : status ≠ .ok) :
    exec .setTime s = .next (s.answered .mp ⟨0x21#8, r.tag, status, optional 4 s.time.deviceTime⟩) := by
  have code : r.kind.code = 0x21#8 := by rw [State.takeable_kind ht]; rfl
  rw [exec_setTime ht]
  simp only [takeSetTime, State.dequeue_time, hs]
  rw [State.dequeue_answer, code]

/-- Settles O18: each row of Table 3-1 gives a status, and the take writes device time where that is OK. -/
theorem setTimeOutcomes : Obligations.SetTimeOutcomes := by
  refine ⟨fun p => by cases p <;> rfl, fun r s t force ht hfield hforce => ?_⟩
  subst hfield hforce
  refine ⟨fun above => ?_, fun within unset => ?_, fun now known => ⟨fun within accepted => ?_, fun unforced back => ?_⟩⟩
  · exact exec_setTime_refused ht (by rw [readYesNo_above above]; rfl) nofun
  · rw [exec_setTime_ok ht (by rw [readYesNo_within within, unset]; rfl), unset]
    rfl
  · rw [exec_setTime_ok ht (by rw [readYesNo_within within, known, setTimeStatus_known, if_pos (by simpa using accepted)]), known]
    rfl
  · have row : setTimeStatus s.time.deviceTime (field r.payload 0 4) (readYesNo (field r.payload 4 1)) = .timeBackward := by
      rw [readYesNo_within (by omega), known, setTimeStatus_known, if_neg (by simp [unforced, back])]
    rw [exec_setTime_refused ht row nofun, known]
    rfl

end Sys2Proof.Machine
end

section
/-! Which operations leave the timebase alone: every one but the count of the divider, the second event and Set Time (R44,
R50). -/

namespace Sys2Proof.Machine

variable {s t : State}

/-! ### Ports -/

@[simp] theorem State.fill_time (s : State) (p : Port) (r : Response) : (s.fill p r).time = s.time :=
  State.setPort_time s p _

@[simp] theorem State.reserve_time (s : State) (p : Port) (kind tag : Byte) : (s.reserve p kind tag).time = s.time :=
  State.setPort_time s p _

@[simp] theorem State.answer_time (s : State) (p : Port) (r : Request) (status : Status) (payload : List Byte) :
    (s.answer p r status payload).time = s.time := State.fill_time s p _

@[simp] theorem State.fillReserved_time (s : State) (p : Port) (kind tag : Byte) (status : Status) (payload : List Byte) :
    (s.fillReserved p kind tag status payload).time = s.time := by
  rcases State.fillReserved_cases p kind tag status payload (s := s) with h | ⟨-, h⟩
  · rw [h]
  · rw [h, State.setPort_time]

@[simp] theorem State.report_time (s : State) (o : Origin) (status : Status) (payload : List Byte) :
    (s.report o status payload).time = s.time := by
  rcases State.report_cases o status payload (s := s) with h | ⟨p, x, h⟩
  · rw [h]
  · rw [h, State.setPort_time]

@[simp] theorem State.accept_time (s : State) (p : Port) (r : Request) (c : Change) : (s.accept p r c).time = s.time :=
  State.reserve_time _ _ _ _

theorem State.clockByte_time (p : Port) (s : State) (b : Byte) : (State.clockByte p s b).time = s.time := by
  unfold State.clockByte
  split
  · rfl
  · exact State.setPort_time s p _

/-- Operations along a list leave the timebase alone where each of them does. -/
theorem State.foldl_time {α : Type} {f : State → α → State} (h : ∀ u x, (f u x).time = u.time) (l : List α) (s : State) :
    (l.foldl f s).time = s.time :=
  foldl_keeps (P := fun u : State => u.time = s.time) l (fun u x _ hu => (h u x).trans hu) s rfl

theorem State.exchange_time (s : State) (p : Port) (x : Exchange) : (s.exchange p x).time = s.time := by
  unfold State.exchange
  split
  · exact State.setPort_time s p _
  · have begun : (if x.selectFalls = true then s.openTransaction p else s).time = s.time := by
      split
      · exact State.setPort_time s p _
      · rfl
    have clocked := (State.foldl_time (State.clockByte_time p) x.sent _).trans begun
    dsimp only
    split
    · exact (State.setPort_time _ p _).trans clocked
    · exact clocked

/-! ### Slots -/

@[simp] theorem State.spillGain_time (s : State) (n : Nat) (id : List Byte) : (s.spillGain n id).time = s.time := by
  unfold State.spillGain
  split <;> rfl

@[simp] theorem State.setEntry_time (s : State) (n : Nat) (e : Entry) : (s.setEntry n e).time = s.time := rfl

@[simp] theorem State.occupySlot_time (s : State) (n : Nat) (e : Entry) : (s.occupySlot n e).time = s.time :=
  State.spillGain_time _ _ _

@[simp] theorem State.clearSlot_time (s : State) (n : Nat) : (s.clearSlot n).time = s.time := by rw [State.clearSlot_frame]

@[simp] theorem State.reserveSlot_time (s : State) (n : Nat) (id : List Byte) (x : Holder) :
    (s.reserveSlot n id x).time = s.time := rfl

@[simp] theorem State.releaseSlot_time (s : State) (n : Nat) : (s.releaseSlot n).time = s.time := rfl

@[simp] theorem State.wearSlot_time (s : State) (n : Nat) : (s.wearSlot n).time = s.time := rfl

@[simp] theorem State.spoilSlot_time (s : State) (n : Nat) : (s.spoilSlot n).time = s.time := rfl

@[simp] theorem State.markRetiring_time (s : State) (n : Nat) : (s.markRetiring n).time = s.time := rfl

@[simp] theorem State.settleRetiring_time (s : State) (n : Nat) : (s.settleRetiring n).time = s.time := by
  unfold State.settleRetiring
  split <;> rfl

@[simp] theorem State.reserveFor_time (s : State) (x : Item) (n : Nat) (h : Holder) : (s.reserveFor x n h).time = s.time := by
  unfold State.reserveFor
  split <;> rfl

@[simp] theorem State.spendFree_time (s : State) (n : Nat) : (s.spendFree n).time = s.time := by
  unfold State.spendFree
  split <;> rfl

@[simp] theorem State.mapEntry_time (s : State) (n : Nat) (f : Entry → Entry) : (s.mapEntry n f).time = s.time := by
  unfold State.mapEntry
  split <;> rfl

/-! ### Holds -/

@[simp] theorem State.setHold_time (s : State) (n : Nat) (h : Hold) : (s.setHold n h).time = s.time := rfl

@[simp] theorem State.openHold_time (s : State) (n : Nat) (h : Hold) : (s.openHold n h).time = s.time := rfl

@[simp] theorem State.handOver_time (s : State) (n : Nat) : (s.handOver n).time = s.time := by
  unfold State.handOver
  split <;> rfl

@[simp] theorem State.endHold_time (s : State) (n : Nat) (o : HoldOutcome) : (s.endHold n o).time = s.time := by
  unfold State.endHold
  split
  · exact State.handOver_time _ _
  · rfl

theorem State.expire_time (s : State) (n : Nat) : (s.expire n).time = s.time := by
  unfold State.expire
  split
  · split
    · split
      · exact State.endHold_time _ _ _
      · rfl
    · rfl
  · rfl

theorem State.followMove_time (a b : Nat) (s : State) (n : Nat) : (State.followMove a b s n).time = s.time := by
  unfold State.followMove
  split
  · split <;> rfl
  · rfl

theorem State.moveEntry_time (s : State) (a b : Nat) (e : Entry) : (s.moveEntry a b e).time = s.time := by
  have moved : (((s.clearSlot a).occupySlot b e).moveHolds a b).time = s.time :=
    (State.foldl_time (State.followMove_time a b) _ _).trans (by simp)
  unfold State.moveEntry State.moveClearDue
  split
  · simpa using moved
  · exact moved

/-! ### Scans -/

@[simp] theorem State.endScan_time (s : State) : s.endScan.time = s.time :=
  State.fillReserved_time _ _ _ _ _ _

@[simp] theorem State.endWalk_time (s : State) : s.endWalk.time = s.time := by
  unfold State.endWalk
  split
  · exact State.endScan_time s
  · rfl

@[simp] theorem State.tellScan_time (s : State) (o : Origin) (count : Scan → Scan) : (s.tellScan o count).time = s.time := by
  cases o with
  | scan =>
    simp only [State.tellScan, State.scanCompletion]
    split
    · exact State.endScan_time _
    · rfl
  | _ => rfl

theorem State.examine_time (sample : Bool) (n : Nat) (s : State) : (State.examine sample n s).time = s.time := by
  induction n generalizing s with
  | zero => rfl
  | succ n ih =>
    unfold State.examine
    split
    · rfl
    · split
      · exact ih _
      · exact ih _
      · split
        · rfl
        · exact ih _
      · split
        · rfl
        · exact ih _

theorem State.scanStep_time (s : State) : s.scanStep.time = s.time := by
  unfold State.scanStep
  split
  · have examined := State.examine_time s.inhibited Config.stepSlots (s.setPointer Candidate.scan.after)
    dsimp only
    split
    · exact (State.endWalk_time _).trans examined
    · exact examined
  · rfl

/-! ### Takes -/

theorem State.answersTo.time {p : Port} {r : Request} (h : s.answersTo p r t) : t.time = s.time := by
  obtain ⟨status, payload, rfl⟩ := h
  exact State.answer_time _ _ _ _ _

/-- A take leaves the timebase alone where its body does. -/
theorem State.take_time {p : Port} {k : Kind} {body : Request → State → State} (h : ∀ r u, (body r u).time = u.time)
    (s : State) : (s.take p k body).time = s.time := by
  rcases State.take_cases p k body (s := s) with hs | ⟨r, -, hs⟩
  · rw [hs]
  · rw [hs, h, State.dequeue_time]

theorem takeDraw_time (p : Port) (r : Request) (s : State) : (takeDraw p r s).time = s.time := by
  rcases takeDraw_cases s p r with h | ⟨_, _, _, slot, e, n, -, -, h⟩
  · exact h.time
  · rw [h]
    exact State.answer_time _ _ _ _ _

theorem takeExtend_time (p : Port) (r : Request) (s : State) : (takeExtend p r s).time = s.time := by
  rcases takeExtend_cases s p r with h | ⟨n, x, d, payload, -, -, h⟩
  · exact h.time
  · rw [h]
    exact State.answer_time _ _ _ _ _

theorem State.closesHold.time {p : Port} {r : Request} (h : s.closesHold p r t) : t.time = s.time := by
  obtain ⟨n, x, o, payload, -, -, -, rfl⟩ := h
  simp

theorem takeSettle_time (p : Port) (r : Request) (s : State) : (takeSettle p r s).time = s.time := by
  rcases takeSettle_cases s p r with h | ⟨n, x, u, -, -, -, h⟩
  · exact h.time
  · rw [h]
    exact State.accept_time _ _ _ _

theorem takeChange_time (item : Option Item) (r : Request) (s : State) : (takeChange item r s).time = s.time := by
  rcases takeChange_cases item r s with h | ⟨x, n, -, -, -, h⟩
  · exact h.time
  · rw [h]
    simp

theorem takeRelocate_time (r : Request) (s : State) : (takeRelocate r s).time = s.time := by
  rcases takeRelocate_cases s r with ⟨n, h⟩ | h | ⟨id, a, b, -, -, -, -, -, h⟩
  · exact h.time.trans (State.spendFree_time s n)
  · exact h.time
  · rw [h]
    exact State.accept_time _ _ _ _

theorem takeSetClass_time (r : Request) (s : State) : (takeSetClass r s).time = s.time := by
  rcases takeSetClass_cases s r with h | ⟨c, record, h⟩
  · exact h.time
  · rw [h]
    exact State.accept_time _ _ _ _

theorem takeStage_time (r : Request) (s : State) : (takeStage r s).time = s.time := by
  rcases takeStage_cases s r with h | ⟨x, payload, -, -, -, -, h⟩
  · exact h.time
  · rw [h]
    exact State.answer_time _ _ _ _ _

theorem takeDiscard_time (r : Request) (s : State) : (takeDiscard r s).time = s.time := by
  rcases takeDiscard_cases s r with h | ⟨payload, -, h⟩
  · exact h.time
  · rw [h]
    exact State.answer_time _ _ _ _ _

theorem State.validateItems_time {sample : Bool} {items : List Item} {index : Nat} {records : List ItemRecord}
    (h : s.validateItems sample index items = .ok (t, records)) : t.time = s.time := by
  induction items generalizing index s t records with
  | nil => cases h; rfl
  | cons x rest ih =>
    unfold State.validateItems at h
    split at h
    · cases h
    · split at h
      · cases h
      · rename_i hv
        cases h
        exact (ih hv).trans (State.reserveFor_time _ _ _ _)

theorem takeApply_time (r : Request) (s : State) : (takeApply r s).time = s.time := by
  rcases takeApply_cases s r with h | ⟨result, h⟩ | ⟨u, records, -, -, hv, h⟩
  · exact h.time
  · exact h.time
  · rw [h]
    have accepted : (u.acceptApply r records).time = u.time := by simp [State.acceptApply]
    exact accepted.trans (State.validateItems_time hv)

theorem takeStartScan_time (r : Request) (s : State) : (takeStartScan r s).time = s.time := by
  rcases takeStartScan_cases s r with h | ⟨kind, argument, payload, -, -, h⟩
  · exact h.time
  · rw [h]
    simp

theorem State.movesScan.time {r : Request} (h : s.movesScan r t) : t.time = s.time := by
  obtain ⟨state, -, h⟩ := h
  exact h.time

theorem takeAbortScan_time (r : Request) (s : State) : (takeAbortScan r s).time = s.time := by
  rcases takeAbortScan_cases s r with h | ⟨payload, -, h⟩
  · exact h.time
  · rw [h]
    simp

/-! ### The commit unit -/

theorem State.beginCommit_time (s : State) : s.beginCommit.time = s.time := by
  unfold State.beginCommit State.noteBegin
  split
  · split
    · rfl
    · split
      · split <;> rfl
      · rfl
  · rfl

theorem State.admitClear_time (s : State) : s.admitClear.time = s.time := by
  rcases s.admitClear_cases with h | ⟨n, -, -, h⟩ <;> rw [h]
  rfl

theorem State.admitBatch_time (s : State) : s.admitBatch.time = s.time := by
  rcases s.admitBatch_cases with h | ⟨c, b, -, -, -, -, h⟩ <;> rw [h]
  rfl

/-- A completion leaves the timebase alone where its effect does. -/
theorem State.complete_time {isKind : Change → Bool} {v : Verify} {effect : Commit → Work → Verify → State → State}
    (h : ∀ c w v u, (effect c w v u).time = u.time) (s : State) : (s.complete isKind v effect).time = s.time := by
  rcases State.complete_cases isKind v effect (s := s) with he | ⟨c, rest, w, -, -, he⟩
  · rw [he]
  · rw [he]
    split
    · exact h _ _ _ _
    · rfl

variable (c : Commit) (w : Work) (v : Verify) (u : State)

theorem settlementEffect_time : (settlementEffect c w v u).time = u.time := by
  unfold settlementEffect
  split
  · simp [State.settleOk]
  · unfold State.settleFault
    dsimp only
    split
    · split <;> simp
    · simp
  · rfl

theorem insertEffect_time : (insertEffect c w v u).time = u.time := by
  unfold insertEffect
  split <;> simp

theorem modifyEffect_time : (modifyEffect c w v u).time = u.time := by
  unfold modifyEffect
  split <;> simp

theorem topUpEffect_time : (topUpEffect c w v u).time = u.time := by
  unfold topUpEffect
  split <;> simp

theorem barEffect_time : (barEffect c w v u).time = u.time := by
  unfold barEffect
  split <;> simp

theorem retireEffect_time : (retireEffect c w v u).time = u.time := by
  unfold retireEffect
  split <;> simp

theorem clearEffect_time : (clearEffect c w v u).time = u.time := by
  unfold clearEffect
  split <;> simp

theorem moveEffect_time : (moveEffect c w v u).time = u.time := by
  unfold moveEffect
  split <;> simp [State.moveEntry_time]

theorem classEffect_time : (classEffect c w v u).time = u.time := by
  unfold classEffect
  split <;> simp

theorem stageEffect_time : (stageEffect c w v u).time = u.time := by
  unfold stageEffect
  split
  · rfl
  · exact (State.fillReserved_time _ _ _ _ _ _).trans (State.foldl_time State.releaseSlot_time _ _)
  · rfl

theorem State.promoteItem_time (s : State) (x : Item × Nat × Promotion) : (s.promoteItem x).time = s.time := by
  obtain ⟨item, n, update⟩ := x
  cases item with
  | retire id y => cases update <;> simp [State.promoteItem]
  | _ => simp [State.promoteItem]

theorem promoteEffect_time : (promoteEffect c w v u).time = u.time := by
  unfold promoteEffect
  split
  · exact (State.fillReserved_time _ _ _ _ _ _).trans (State.foldl_time State.promoteItem_time _ _)
  · rfl

end Sys2Proof.Machine
end

section
/-! What every command does to the timebase, and from it O55. -/

namespace Sys2Proof.Machine

variable {s t : State}

/-- The timebase after a Set Time, whatever it answers (R45). -/
theorem State.take_setTime_time (s : State) : (s.take .mp .setTime takeSetTime).time = s.time ∨
    ∃ v, (s.take .mp .setTime takeSetTime).time = { s.time with deviceTime := some v } := by
  rcases State.take_cases .mp .setTime takeSetTime (s := s) with h | ⟨r, -, h⟩
  · exact .inl (by rw [h])
  · rw [h]
    rcases takeSetTime_cases (s.dequeue .mp) r with ha | ⟨payload, ha⟩
    · exact .inl (ha.time.trans (State.dequeue_time s .mp))
    · refine .inr ⟨field r.payload 0 4, ?_⟩
      rw [ha, State.answer_time, State.dequeue_time]

/-- Everything a command can do to the timebase outside a start-up and a loss of power (R42 to R45). -/
def timeMoves (c : Instr) (x y : Timebase) : Prop :=
  y = x ∨ (c = .tbclkPeriod ∧ y = x.period) ∨ (c = .secondEvent ∧ y = x.second) ∨
    (c = .setTime ∧ ∃ v, y = { x with deviceTime := some v })

theorem exec_time (c : Instr) (s : State) (hc : restarts c = false) : ∃ t, exec c s = .next t ∧ timeMoves c s.time t.time := by
  cases c with
  | request p x => exact ⟨_, rfl, .inl (s.exchange_time p x)⟩
  | fetch p x => exact ⟨_, rfl, .inl (s.exchange_time p x)⟩
  | portStatus p x => exact ⟨_, rfl, .inl (s.exchange_time p x)⟩
  | present p => exact ⟨_, rfl, .inl (s.take_time fun r u => (takePresent_answers u p r).time)⟩
  | draw p => exact ⟨_, rfl, .inl (s.take_time (takeDraw_time p))⟩
  | extend p => exact ⟨_, rfl, .inl (s.take_time (takeExtend_time p))⟩
  | settle p => exact ⟨_, rfl, .inl (s.take_time (takeSettle_time p))⟩
  | release p => exact ⟨_, rfl, .inl (s.take_time fun r u => (takeRelease_cases u p r).elim (·.time) (·.time))⟩
  | forceRelease => exact ⟨_, rfl, .inl (s.take_time fun r u => (takeForceRelease_cases u r).elim (·.time) (·.time))⟩
  | queryHold p => exact ⟨_, rfl, .inl (s.take_time fun r u => (takeQueryHold_answers u p r).time)⟩
  | listHolds => exact ⟨_, rfl, .inl (s.take_time fun r u => (takeListHolds_answers u r).time)⟩
  | readTime p => exact ⟨_, rfl, .inl (s.take_time fun r u => u.answer_time _ _ _ _)⟩
  | readIdentity p => exact ⟨_, rfl, .inl (s.take_time fun r u => u.answer_time _ _ _ _)⟩
  | status => exact ⟨_, rfl, .inl (s.take_time fun r u => u.answer_time _ _ _ _)⟩
  | setTime => exact ⟨_, rfl, s.take_setTime_time.imp_right fun written => .inr (.inr ⟨rfl, written⟩)⟩
  | setClass => exact ⟨_, rfl, .inl (s.take_time takeSetClass_time)⟩
  | readClass => exact ⟨_, rfl, .inl (s.take_time fun r u => (takeReadClass_answers u r).time)⟩
  | insert => exact ⟨_, rfl, .inl (s.take_time fun r => takeChange_time _ r)⟩
  | modify => exact ⟨_, rfl, .inl (s.take_time fun r => takeChange_time _ r)⟩
  | topUp => exact ⟨_, rfl, .inl (s.take_time fun r => takeChange_time _ r)⟩
  | bar => exact ⟨_, rfl, .inl (s.take_time fun r => takeChange_time _ r)⟩
  | unbar => exact ⟨_, rfl, .inl (s.take_time fun r => takeChange_time _ r)⟩
  | retire => exact ⟨_, rfl, .inl (s.take_time fun r => takeChange_time _ r)⟩
  | relocate => exact ⟨_, rfl, .inl (s.take_time takeRelocate_time)⟩
  | readEntry => exact ⟨_, rfl, .inl (s.take_time fun r u => (takeReadEntry_answers u r).time)⟩
  | stage => exact ⟨_, rfl, .inl (s.take_time takeStage_time)⟩
  | discard => exact ⟨_, rfl, .inl (s.take_time takeDiscard_time)⟩
  | readBatch => exact ⟨_, rfl, .inl (s.take_time fun r u => u.answer_time _ _ _ _)⟩
  | apply => exact ⟨_, rfl, .inl (s.take_time takeApply_time)⟩
  | startScan => exact ⟨_, rfl, .inl (s.take_time takeStartScan_time)⟩
  | suspendScan => exact ⟨_, rfl, .inl (s.take_time fun r u => (takeSuspendScan_cases u r).elim (·.time) (·.time))⟩
  | resumeScan => exact ⟨_, rfl, .inl (s.take_time fun r u => (takeResumeScan_cases u r).elim (·.time) (·.time))⟩
  | abortScan => exact ⟨_, rfl, .inl (s.take_time takeAbortScan_time)⟩
  | reset => cases hc
  | scanStep => exact ⟨_, rfl, .inl s.scanStep_time⟩
  | secondEvent => exact ⟨_, rfl, s.secondEvent_time_cases.imp_right fun passed => .inr (.inl ⟨rfl, passed⟩)⟩
  | holdExpiry n =>
    refine ⟨_, rfl, .inl ?_⟩
    split
    · exact s.expire_time n
    · rfl
  | commitBegin => exact ⟨_, rfl, .inl s.beginCommit_time⟩
  | clearDueAdmission => exact ⟨_, rfl, .inl s.admitClear_time⟩
  | batchCommitAdmission => exact ⟨_, rfl, .inl s.admitBatch_time⟩
  | settlementCompletion v => exact ⟨_, rfl, .inl (s.complete_time settlementEffect_time)⟩
  | insertCompletion v => exact ⟨_, rfl, .inl (s.complete_time insertEffect_time)⟩
  | modifyCompletion v => exact ⟨_, rfl, .inl (s.complete_time modifyEffect_time)⟩
  | topUpCompletion v => exact ⟨_, rfl, .inl (s.complete_time topUpEffect_time)⟩
  | barCompletion v => exact ⟨_, rfl, .inl (s.complete_time barEffect_time)⟩
  | retireCompletion v => exact ⟨_, rfl, .inl (s.complete_time retireEffect_time)⟩
  | slotClearCompletion => exact ⟨_, rfl, .inl (s.complete_time clearEffect_time)⟩
  | moveCompletion v => exact ⟨_, rfl, .inl (s.complete_time moveEffect_time)⟩
  | classWriteCompletion v => exact ⟨_, rfl, .inl (s.complete_time classEffect_time)⟩
  | stageWriteCompletion v => exact ⟨_, rfl, .inl (s.complete_time stageEffect_time)⟩
  | promoteCompletion => exact ⟨_, rfl, .inl (s.complete_time promoteEffect_time)⟩
  | powerOn =>
    refine ⟨_, rfl, .inl ?_⟩
    split <;> rfl
  | powerLoss cut => cases hc
  | resetNFall raised => cases hc
  | resetNRelease => exact ⟨_, rfl, .inl rfl⟩
  | chgInhChange asserted => exact ⟨_, rfl, .inl rfl⟩
  | startUpRestore =>
    refine ⟨_, rfl, .inl ?_⟩
    split <;> rfl
  | restoreComplete => cases hc
  | tbclkPeriod =>
    by_cases hp : s.phase = .running
    · exact ⟨_, exec_tbclkPeriod_running hp, .inr (.inl ⟨rfl, rfl⟩)⟩
    · exact ⟨_, exec_tbclkPeriod_closed hp, .inl rfl⟩

theorem Timebase.period_keeps (x : Timebase) : x.period.holdClock = x.holdClock ∧ x.period.deviceTime = x.deviceTime := by
  unfold Timebase.period
  split <;> exact ⟨rfl, rfl⟩

/-- A count of seconds in range is not set back (R43). -/
theorem le_nextSecond {v : Nat} (h : v ≤ maxSeconds) : v ≤ nextSecond v := Nat.le_min.2 ⟨Nat.le_succ v, h⟩

/-- Settles O55: of the four things a command can do to the timebase, the second event alone moves the hold clock, and it and
Set Time alone write device time. -/
theorem timeMovesOnlyAsTheRulesSay : Obligations.TimeMovesOnlyAsTheRulesSay := by
  intro c s t hc h hclock
  obtain ⟨t', ht, moved⟩ := exec_time c s hc
  rw [ht] at h
  cases h
  rcases moved with same | ⟨-, counted⟩ | ⟨rfl, passed⟩ | ⟨rfl, v, set⟩
  · rw [same]
    exact ⟨⟨Nat.le_refl _, id⟩, fun _ => rfl, fun _ _ => rfl⟩
  · obtain ⟨clock, device⟩ := s.time.period_keeps
    rw [counted, clock, device]
    exact ⟨⟨Nat.le_refl _, id⟩, fun _ => rfl, fun _ _ => rfl⟩
  · rw [passed]
    exact ⟨⟨le_nextSecond hclock, fun known => Option.isSome_map.trans known⟩, fun other => absurd rfl other,
      fun other => absurd rfl other⟩
  · rw [set]
    exact ⟨⟨Nat.le_refl _, fun _ => rfl⟩, fun _ => rfl, fun _ other => absurd rfl other⟩

end Sys2Proof.Machine
end

section
/-! The reports of time, identity and status, and the slots that Status counts (O19). -/

namespace Sys2Proof.Machine

variable {s : State}

/-! ### What a canonical store lists -/

section
variable {α : Type} {d : α} {l : Table α}

/-- A listed record of rising numbers is the one read under its number. -/
theorem Table.get_of_mem (h : rising (Table.keys l) = true) {k : Nat} {v : α} (hm : (k, v) ∈ l) : Table.get d l k = v := by
  induction l with
  | nil => cases hm
  | cons x rest ih =>
    obtain ⟨j, w⟩ := x
    obtain ⟨above, sorted⟩ := List.pairwise_cons.1 ((rising_iff _).1 h)
    rcases List.mem_cons.1 hm with same | later
    · cases same
      exact if_pos rfl
    · have larger : j < k := above k (List.mem_map.2 ⟨_, later, rfl⟩)
      rw [Table.get, if_neg (Nat.ne_of_lt larger)]
      exact ih ((rising_iff _).2 sorted) later

/-- A canonical store lists exactly the numbers that do not read as the default, with what they read. -/
theorem Table.mem_iff [DecidableEq α] (h : Table.wf d l = true) {k : Nat} {v : α} :
    (k, v) ∈ l ↔ Table.get d l k = v ∧ v ≠ d := by
  obtain ⟨sorted, listed⟩ := Bool.and_eq_true_iff.1 h
  constructor
  · intro hm
    exact ⟨Table.get_of_mem sorted hm, by simpa using List.all_eq_true.1 listed _ hm⟩
  · rintro ⟨rfl, hv⟩
    exact Table.mem_of_get hv

/-- The records counted in a canonical store are those counted number by number, where the default does not count and no number
from `size` on is listed. -/
theorem Table.count_eq_range [DecidableEq α] (h : Table.wf d l = true) {size : Nat}
    (outside : ∀ n, size ≤ n → Table.get d l n = d) {p : Nat → α → Bool} (hp : ∀ n, p n d = false) :
    Table.count p l = ((List.range size).filter fun n => p n (Table.get d l n)).length := by
  have sorted : (Table.keys l).Nodup :=
    ((rising_iff _).1 (Bool.and_eq_true_iff.1 h).1).imp fun hlt => Nat.ne_of_lt hlt
  have counted : (Table.keys (l.filter fun x => p x.1 x.2)).Nodup := sorted.sublist (List.filter_sublist.map _)
  have same : ∀ n, n ∈ Table.keys (l.filter fun x => p x.1 x.2) ↔
      n ∈ (List.range size).filter fun n => p n (Table.get d l n) := by
    intro n
    simp only [Table.keys, List.mem_map, List.mem_filter, List.mem_range]
    constructor
    · rintro ⟨⟨k, v⟩, ⟨hm, hpv⟩, rfl⟩
      obtain ⟨rfl, hv⟩ := (Table.mem_iff h).1 hm
      exact ⟨Nat.lt_of_not_le fun hn => hv (outside k hn), hpv⟩
    · rintro ⟨-, hpn⟩
      refine ⟨(n, Table.get d l n), ⟨(Table.mem_iff h).2 ⟨rfl, fun hd => ?_⟩, hpn⟩, rfl⟩
      rw [hd, hp] at hpn
      cases hpn
  have perm := (List.perm_ext_iff_of_nodup counted (List.nodup_range.filter _)).2 same
  rw [← perm.length_eq]
  exact (List.length_map _).symm

end

/-! ### The counts of Status (R13) -/

/-- A count over the working directory is a count over the slots 0 to 4,351. -/
theorem State.count_slots (h : Table.wf emptySlot s.engine.slots = true) (outside : ∀ n, 4352 ≤ n → s.slot n = emptySlot)
    {p : Nat → WorkingSlot → Bool} (hp : ∀ n, p n emptySlot = false) :
    Table.count p s.engine.slots = ((List.range 4352).filter fun n => p n (s.slot n)).length :=
  Table.count_eq_range h outside hp

/-- Among the slots 0 to 4,351 the spill slots are those from 4,096 on (R10). -/
theorem inSpill_of_slot {n : Nat} (h : n < 4352) : inSpill n = decide (4096 ≤ n) :=
  decide_eq_decide.2 ⟨fun hn => hn.1, fun hn => ⟨hn, h⟩⟩

theorem State.spillOccupied_eq (h : Table.wf emptySlot s.engine.slots = true)
    (outside : ∀ n, 4352 ≤ n → s.slot n = emptySlot) :
    s.spillOccupied = ((List.range 4352).filter fun n => (s.entryAt n).isSome && decide (4096 ≤ n)).length := by
  refine (State.count_slots h outside fun _ => rfl).trans (congrArg List.length (List.filter_congr fun n hn => ?_))
  rw [inSpill_of_slot (List.mem_range.1 hn)]
  rfl

/-- The live holds are as many as the places that are not FREE (R73). -/
theorem State.length_liveHolds (s : State) :
    s.liveHolds.length = ((List.range 32).filter fun n => (s.place n).live.isSome).length := by
  have each : ∀ l : List Nat, (l.filterMap fun n => (s.place n).live.map fun h => (n, h)).length =
      (l.filter fun n => (s.place n).live.isSome).length := by
    intro l
    induction l with
    | nil => rfl
    | cons n l ih => cases hl : (s.place n).live <;> simp [hl, ih]
  exact each _

/-! ### The figures as bytes (R185, R186) -/

theorem State.identity_eq (s : State) : s.identity =
    [0x1C#8, 0x4A#8, 0x04#8, 0x36#8, Config.siliconRevision] ++ be 8 Config.serialNumber.toNat
      ++ [0x11#8, 0x00#8, 0x02#8, 0x00#8, 8#8, 0x01#8, 0x00#8, 32#8, 16#8, 24#8, 4#8] ++ be 2 s.store.startCounter := by
  have codes : be 2 Config.vendorCode ++ be 2 Config.partCode = [0x1C#8, 0x4A#8, 0x04#8, 0x36#8] := by decide
  have sizes : be 2 Config.slots ++ be 2 Config.buckets ++ be 1 Config.ways ++ be 2 Config.spillSlots
      ++ be 1 Config.holdPlaces ++ be 1 Config.commitPlaces ++ be 1 Config.batchItems ++ be 1 Config.portPlaces
      = [0x11#8, 0x00#8, 0x02#8, 0x00#8, 8#8, 0x01#8, 0x00#8, 32#8, 16#8, 24#8, 4#8] := by decide
  unfold State.identity
  rw [codes, ← sizes]
  simp only [List.append_assoc, List.cons_append, List.nil_append]

/-- The removal of a request leaves the figures of Status (R178, R186). -/
theorem State.dequeue_figures (s : State) (p : Port) : (s.dequeue p).figures = s.figures := by
  unfold State.figures State.liveHolds
  simp

/-- Settles O19: each report is the answer of its take, its figures those of the state before it; and the counts over the
canonical directory are counts over the slots. -/
theorem timeIdentityAndStatusReports : Obligations.TimeIdentityAndStatusReports := by
  refine ⟨⟨fun p => by cases p <;> rfl, rfl, fun p r s ht => ?_⟩, ⟨fun p => by cases p <;> rfl, rfl, fun p r s ht => ?_⟩,
    fun p => by cases p <;> rfl, rfl, fun r s ht => ?_, fun s hwf outside => ⟨?_, ?_, ?_, ?_⟩⟩
  · refine (congrArg Host.Outcome.next (State.take_of_takeable ht (takeReadTime p))).trans ?_
    rw [takeReadTime, State.dequeue_answer, State.dequeue_time, State.takeable_kind ht]
    rfl
  · refine (congrArg Host.Outcome.next (State.take_of_takeable ht (takeReadIdentity p))).trans ?_
    rw [takeReadIdentity, State.dequeue_answer, State.identity_eq, State.dequeue_store, State.takeable_kind ht]
    rfl
  · refine (congrArg Host.Outcome.next (State.take_of_takeable ht takeStatus)).trans ?_
    rw [takeStatus, State.dequeue_answer, State.dequeue_figures, State.figures, State.length_liveHolds, State.takeable_kind ht]
    rfl
  · exact State.count_slots hwf outside fun _ => rfl
  · exact State.spillOccupied_eq hwf outside
  · exact State.count_slots hwf outside fun _ => rfl
  · exact State.count_slots hwf outside fun _ => rfl

end Sys2Proof.Machine
end

section
/-! The checks of Table 4-1, and the verdict as the first of them that fails (O6). -/

namespace Sys2Proof.Machine

variable {s : State} {q : Query} {slot : Nat} {e : Entry} {d : DenyReason}

/-! ### Each check as a condition (R57 to R66) -/

theorem ClassRecord.allows_eq_false (c : ClassRecord) (p : Port) :
    c.allows p = false ↔ (p = .tp0 ∧ c.tp0Allowed = false) ∨ (p = .tp1 ∧ c.tp1Allowed = false) := by
  cases p <;> simp [ClassRecord.allows]

theorem State.isRetiring_iff : s.isRetiring slot e = true ↔ e.state = .retiring ∨ (s.slot slot).retireMark = true := by
  simp [State.isRetiring]

theorem State.entryState_eq_retiring :
    s.entryState slot e = .retiring ↔ e.state = .retiring ∨ (s.slot slot).retireMark = true := by
  rw [← State.isRetiring_iff, State.entryState]
  split
  next hr => simp [hr]
  next hr =>
    obtain ⟨image, -⟩ := not_or.1 (hr ∘ State.isRetiring_iff.2)
    simp [hr, image]

/-- A retire mark hides that an entry is BARRED (R9). -/
theorem State.entryState_eq_barred :
    s.entryState slot e = .barred ↔ e.state = .barred ∧ (s.slot slot).retireMark = false := by
  rw [State.entryState]
  split
  next hr =>
    rcases State.isRetiring_iff.1 hr with h | h <;> simp [h]
  next hr =>
    obtain ⟨-, unmarked⟩ := not_or.1 (hr ∘ State.isRetiring_iff.2)
    simp [unmarked]

theorem timeUnknown_iff (t : Option Nat) :
    timeUnknown e t = true ↔ (e.validFrom ≠ none ∨ e.validUntil ≠ none) ∧ t = none := by
  simp [timeUnknown, Option.isSome_iff_ne_none]

theorem notYetValid_iff (t : Option Nat) :
    notYetValid e t = true ↔ ∃ a now, e.validFrom = some a ∧ t = some now ∧ now < a := by
  unfold notYetValid
  cases e.validFrom <;> cases t <;> simp

theorem windowOver_iff (t : Option Nat) :
    windowOver e t = true ↔ ∃ b now, e.validUntil = some b ∧ t = some now ∧ b ≤ now := by
  unfold windowOver
  cases e.validUntil <;> cases t <;> simp

theorem overCeiling_iff (units : Option Nat) :
    overCeiling e units = true ↔ ∃ c u, e.ceiling = some c ∧ units = some u ∧ c < u := by
  unfold overCeiling
  cases e.ceiling <;> cases units <;> simp

theorem grantsPart_iff (c : ClassRecord) (a : Nat) :
    grantsPart q c a = true ↔ q.draws = true ∧ q.partialFlag = true ∧ c.partialDraws = true ∧ 1 ≤ a := by
  simp [grantsPart, and_assoc]

theorem insufficient_iff (c : ClassRecord) :
    insufficient q c (s.available slot e) = true ↔ ∃ b u, e.balance = some b ∧ q.units = some u ∧
      b - s.heldUnits slot < u ∧
      ¬(q.draws = true ∧ q.partialFlag = true ∧ c.partialDraws = true ∧ 1 ≤ b - s.heldUnits slot) := by
  unfold insufficient State.available
  cases e.balance with
  | none => simp
  | some b => cases hu : q.units <;> simp [← grantsPart_iff]

theorem State.freePlace_eq_none : s.freePlace = none ↔ ∀ n, n < Config.holdPlaces → (s.place n).live ≠ none := by
  simp [State.freePlace]

/-! ### The first check that fails (R55) -/

/-- A reason stands in the list of checks as a failing one where its check applies and fails; number 1 is no check on an entry. -/
theorem State.mem_verdictChecks : (d, true) ∈ s.verdictChecks q slot e ↔ s.fails q slot e d := by
  cases d with
  | unknownToken => simp [State.verdictChecks, State.fails]
  | classDisabled => simp [State.verdictChecks, State.fails]
  | portNotAllowed => simp [State.verdictChecks, State.fails, ClassRecord.allows_eq_false]
  | barred => simp [State.verdictChecks, State.fails, State.entryState_eq_barred]
  | retiring => simp [State.verdictChecks, State.fails, State.entryState_eq_retiring]
  | timeUnknown => simp [State.verdictChecks, State.fails, timeUnknown_iff]
  | notYetValid => simp [State.verdictChecks, State.fails, notYetValid_iff]
  | expired => simp [State.verdictChecks, State.fails, windowOver_iff]
  | entryChanging => simp [State.verdictChecks, State.fails]
  | overCeiling => simp [State.verdictChecks, State.fails, overCeiling_iff]
  | insufficient => simp [State.verdictChecks, State.fails, insufficient_iff]
  | holdLimit => simp [State.verdictChecks, State.fails]
  | holdsExhausted => simp [State.verdictChecks, State.fails, State.freePlace_eq_none]

/-- The checks stand in the order of their numbers (Table 4-1). -/
theorem State.verdictChecks_rising (s : State) (q : Query) (slot : Nat) (e : Entry) :
    (s.verdictChecks q slot e).Pairwise fun x y => x.1.number < y.1.number := by
  have numbers : (s.verdictChecks q slot e).map (·.1.number) = List.range' 2 12 := rfl
  exact List.pairwise_map.1 (numbers ▸ List.pairwise_lt_range')

/-- In a list that rises by number, the first key found true is the one of lowest number. -/
theorem find?_fst_eq_some {α : Type} {f : α → Nat} {l : List (α × Bool)} (hl : l.Pairwise fun x y => f x.1 < f y.1) {a : α} :
    (l.find? (·.2)).map (·.1) = some a ↔ (a, true) ∈ l ∧ ∀ x, f x < f a → (x, true) ∉ l := by
  induction l with
  | nil => simp
  | cons y l ih =>
    obtain ⟨above, tail⟩ := List.pairwise_cons.1 hl
    obtain ⟨y, b⟩ := y
    cases b with
    | false => simpa using ih tail
    | true =>
      simp only [List.find?_cons_of_pos, Option.map_some, Option.some.injEq, List.mem_cons, Prod.mk.injEq, and_true]
      constructor
      · rintro rfl
        refine ⟨.inl rfl, fun x hx => not_or.2 ⟨?_, fun hm => ?_⟩⟩
        · rintro rfl; exact Nat.lt_irrefl _ hx
        · exact Nat.lt_asymm hx (above _ hm)
      · rintro ⟨rfl | hm, low⟩
        · rfl
        · exact absurd (.inl rfl) (low y (above _ hm))

theorem State.denial_eq_some : s.denial q slot e = some d ↔
    s.fails q slot e d ∧ ∀ d' : DenyReason, d'.number < d.number → ¬ s.fails q slot e d' := by
  simp only [← State.mem_verdictChecks]
  exact find?_fst_eq_some (s.verdictChecks_rising q slot e)

theorem State.denial_eq_none : s.denial q slot e = none ↔ ∀ d, ¬ s.fails q slot e d := by
  simp only [← State.mem_verdictChecks, State.denial, Option.map_eq_none_iff, List.find?_eq_none]
  exact ⟨fun h d hd => h _ hd rfl, fun h x hx ht => h x.1 (ht ▸ hx)⟩

/-! ### The verdict (R56) -/

theorem State.verdict_of_lookup_none {id : List Byte} (h : s.lookup id = none) : s.verdict q id = .unknown := by
  simp only [State.verdict, h]

/-- The verdict on the entry found is what its denial says. -/
theorem State.verdict_of_entry {id : List Byte} (hl : s.lookup id = some slot) (he : s.entryAt slot = some e) :
    (∀ d, s.verdict q id = .denied d slot e ↔ s.denial q slot e = some d) ∧
      (s.verdict q id = .positive slot e ↔ s.denial q slot e = none) := by
  simp only [State.verdict, hl, he]
  cases s.denial q slot e <;> simp

/-- Settles O6: the checks stand in the order of their numbers, and each is the condition that Table 4-1 states. -/
theorem verdictIsTheFirstFailingCheck : Obligations.VerdictIsTheFirstFailingCheck := by
  refine fun s q id => ⟨State.verdict_of_lookup_none, fun slot e hl he => ?_⟩
  obtain ⟨denied, positive⟩ := State.verdict_of_entry (q := q) hl he
  exact ⟨fun d => (denied d).trans State.denial_eq_some, positive.trans State.denial_eq_none⟩

end Sys2Proof.Machine
end

section
/-! A Present, and a Draw that is malformed or denied, are answered at their take (O7). -/

namespace Sys2Proof.Machine

variable {s : State} {p : Port} {r : Request} {id : List Byte} {slot : Nat} {e : Entry} {d : DenyReason}

/-! ### Present (R53, R69) -/

/-- The fields of Table 4-2 of an entry found, whatever the verdict. -/
theorem State.presentContent_found (s : State) (reason : Option DenyReason) (slot : Nat) (e : Entry) :
    s.presentContent reason (some (slot, e)) = optional 1 (reason.map DenyReason.number) ++ [1#8, byte e.cls, 1#8]
      ++ figure (e.balance.map (· - s.heldUnits slot)) ++ optional 4 e.validUntil ++ [1#8, byte e.revision] := by
  simp [State.presentContent, State.available, optional, be, byte]

@[simp] theorem State.dequeue_presentContent (s : State) (p : Port) (reason : Option DenyReason) (found : Option (Nat × Entry)) :
    (s.dequeue p).presentContent reason found = s.presentContent reason found := by cases p <;> rfl

theorem exec_present (ht : s.takeable p .present = some r) :
    exec (.present p) s = .next (takePresent p r (s.dequeue p)) :=
  congrArg Host.Outcome.next (State.take_of_takeable ht (takePresent p))

theorem exec_present_of_malformed (ht : s.takeable p .present = some r) (hr : readPresent r.payload = none) :
    exec (.present p) s = .next (s.answered p ⟨0x10#8, r.tag, .badField, []⟩) := by
  rw [exec_present ht]
  simp only [takePresent, hr, State.dequeue_answer, State.takeable_kind ht, Kind.code]

/-- The response of a Present to a verdict (R69). -/
def State.presentResponse (s : State) (tag : Byte) : Verdict → Response
  | .unknown => ⟨0x10#8, tag, .denied, s.presentContent (some .unknownToken) none⟩
  | .denied d slot e => ⟨0x10#8, tag, .denied, s.presentContent (some d) (some (slot, e))⟩
  | .positive slot e => ⟨0x10#8, tag, .ok, s.presentContent none (some (slot, e))⟩

/-- A Present that can be read is answered by its verdict. -/
theorem exec_present_of_read (ht : s.takeable p .present = some r) {units : Option Nat}
    (hr : readPresent r.payload = some (id, units)) :
    exec (.present p) s = .next (s.answered p (s.presentResponse r.tag (s.verdict ⟨p, false, units, false⟩ id))) := by
  rw [exec_present ht]
  simp only [takePresent, hr, State.dequeue_answer, State.dequeue_verdict, State.dequeue_presentContent,
    State.takeable_kind ht, Kind.code]
  cases s.verdict ⟨p, false, units, false⟩ id <;> rfl

/-! ### Draw (R54, R68) -/

/-- A denied Draw carries the ceiling for OVER_CEILING, the available units for INSUFFICIENT, and nothing else (log 15). -/
theorem State.denialContent_eq (s : State) (d : DenyReason) (slot : Nat) (e : Entry) :
    s.denialContent d slot e = byte d.number ::
      (if d = .overCeiling then be 2 (e.ceiling.getD 0)
       else if d = .insufficient then be 3 (e.balance.getD 0 - s.heldUnits slot) else []) := by
  have units : (s.available slot e).getD 0 = e.balance.getD 0 - s.heldUnits slot := by
    unfold State.available
    cases e.balance with
    | none => simp
    | some b => rfl
  rw [← units]
  cases d <;> rfl

@[simp] theorem State.dequeue_denialContent (s : State) (p : Port) (d : DenyReason) (slot : Nat) (e : Entry) :
    (s.dequeue p).denialContent d slot e = s.denialContent d slot e := by cases p <;> rfl

theorem exec_draw (ht : s.takeable p .draw = some r) : exec (.draw p) s = .next (takeDraw p r (s.dequeue p)) :=
  congrArg Host.Outcome.next (State.take_of_takeable ht (takeDraw p))

theorem exec_draw_of_malformed (ht : s.takeable p .draw = some r) (hr : readDraw r.payload = none) :
    exec (.draw p) s = .next (s.answered p ⟨0x11#8, r.tag, .badField, []⟩) := by
  rw [exec_draw ht]
  simp only [takeDraw, hr, State.dequeue_answer, State.takeable_kind ht, Kind.code]

variable {units : Nat} {part : Bool}

theorem exec_draw_of_unknown (ht : s.takeable p .draw = some r) (hr : readDraw r.payload = some (id, units, part))
    (hv : s.verdict ⟨p, true, some units, part⟩ id = .unknown) :
    exec (.draw p) s = .next (s.answered p ⟨0x11#8, r.tag, .denied, [1#8]⟩) := by
  rw [exec_draw ht]
  simp only [takeDraw, hr, State.dequeue_verdict, hv, State.dequeue_answer, State.takeable_kind ht, Kind.code]
  rfl

theorem exec_draw_of_denied (ht : s.takeable p .draw = some r) (hr : readDraw r.payload = some (id, units, part))
    (hv : s.verdict ⟨p, true, some units, part⟩ id = .denied d slot e) :
    exec (.draw p) s = .next (s.answered p ⟨0x11#8, r.tag, .denied, s.denialContent d slot e⟩) := by
  rw [exec_draw ht]
  simp only [takeDraw, hr, State.dequeue_verdict, hv, State.dequeue_denialContent, State.dequeue_answer,
    State.takeable_kind ht, Kind.code]

/-- Settles O7: each refusal and each verdict of a Present gives its one answer. -/
theorem presentAndDrawAnswerAtOnce : Obligations.PresentAndDrawAnswerAtOnce := by
  refine ⟨fun p r s ht => ⟨exec_present_of_malformed ht, fun id units hr => ?_⟩,
    fun p r s ht => ⟨exec_draw_of_malformed ht, fun id units part hr =>
      ⟨exec_draw_of_unknown ht hr, fun d slot e hv => ?_⟩⟩, fun d => by cases d <;> decide⟩
  · rw [exec_present_of_read ht hr]
    refine ⟨fun hv => ?_, fun d slot e hv => ?_, fun slot e hv => ?_⟩
    · rw [hv]; rfl
    · simp [hv, State.presentResponse, State.presentContent_found, optional, be, byte]
    · simp [hv, State.presentResponse, State.presentContent_found, optional, be, byte]
  · rw [exec_draw_of_denied ht hr hv, State.denialContent_eq]

end Sys2Proof.Machine
end

section
/-! A Draw that is granted: the hold it opens (O8), and what that does to the figures of the entry (O9). -/

namespace Sys2Proof.Machine

variable {s : State} {p : Port} {r : Request} {id : List Byte} {units : Nat} {part : Bool} {slot : Nat} {e : Entry}

/-! ### What a positive verdict leaves room for (R65, R66) -/

theorem State.not_fails_of_positive {q : Query} (hv : s.verdict q id = .positive slot e) (d : DenyReason) :
    ¬ s.fails q slot e d := fun hf => by
  have passes := (State.verdict_positive hv).2 _ (State.mem_verdictChecks.2 hf)
  cases passes

/-- The place that a grant takes is FREE, and none below it is (R75). -/
theorem State.freePlace_lowest {n : Nat} (h : s.freePlace = some n) : ∀ m, m < n → (s.place m).live ≠ none := by
  intro m hm
  have taken := (List.find?_range_eq_some.1 h).2.2 m hm
  exact Option.isSome_iff_ne_none.1 (by simpa using taken)

theorem State.freePlace_of_drawn (hv : s.verdict ⟨p, true, some units, part⟩ id = .positive slot e) :
    ∃ n, s.freePlace = some n := by
  refine Option.ne_none_iff_exists'.1 fun none => State.not_fails_of_positive hv .holdsExhausted ?_
  exact ⟨rfl, State.freePlace_eq_none.1 none⟩

theorem State.openHolds_lt_of_drawn (hv : s.verdict ⟨p, true, some units, part⟩ id = .positive slot e) :
    s.openHolds slot < e.holdsLimit :=
  Nat.lt_of_not_le fun full => State.not_fails_of_positive hv .holdLimit ⟨rfl, full⟩

/-! ### The grant (R67, R68, R75) -/

/-- The hold of a grant on an entry (R75 steps 3 to 7). -/
def State.grantedHold (s : State) (p : Port) (slot : Nat) (e : Entry) (units : Nat) : Hold :=
  s.newHold p slot (unitsGranted units (s.available slot e)) (s.classOf e.cls)

theorem unitsGranted_available (s : State) (slot : Nat) (e : Entry) (units : Nat) :
    unitsGranted units (s.available slot e) = (match e.balance with
      | some b => min (b - s.heldUnits slot) units
      | none => units) := by
  unfold State.available
  cases e.balance <;> rfl

/-- The grant is judged on the state without the request, and opens the hold that the state before it says. -/
theorem State.dequeue_grantDraw (s : State) (p : Port) (r : Request) (slot : Nat) (e : Entry) (units n : Nat) :
    (s.dequeue p).grantDraw p r slot e units n = (s.openHold n (s.grantedHold p slot e units)).answered p
      ⟨r.kind.code, r.tag, .ok, byte n :: byte (nextByte (s.place n).generation) ::
        (be 2 s.store.startCounter ++ be 2 (unitsGranted units (s.available slot e))
          ++ be 4 ((s.grantedHold p slot e units).deadline - s.time.holdClock))⟩ := by
  cases p <;> rfl

theorem exec_draw_of_positive (ht : s.takeable p .draw = some r) (hr : readDraw r.payload = some (id, units, part))
    (hv : s.verdict ⟨p, true, some units, part⟩ id = .positive slot e) {n : Nat} (hn : s.freePlace = some n) :
    exec (.draw p) s = .next ((s.openHold n (s.grantedHold p slot e units)).answered p
      ⟨0x11#8, r.tag, .ok, byte n :: byte (nextByte (s.place n).generation) ::
        (be 2 s.store.startCounter ++ be 2 (unitsGranted units (s.available slot e))
          ++ be 4 ((s.grantedHold p slot e units).deadline - s.time.holdClock))⟩) := by
  rw [exec_draw ht]
  simp only [takeDraw, hr, State.dequeue_verdict, hv, State.dequeue_freePlace, hn, State.dequeue_grantDraw,
    State.takeable_kind ht, Kind.code]

/-- Settles O8: a positive verdict says that a place is FREE, and the grant opens its hold in the lowest. -/
theorem drawGrantOpensTheHold : Obligations.DrawGrantOpensTheHold := by
  intro p r s id units part slot e ht hr hv
  obtain ⟨n, hn⟩ := State.freePlace_of_drawn hv
  obtain ⟨within, free⟩ := State.freePlace_eq_some hn
  exact ⟨n, nextByte (s.place n).generation, unitsGranted units (s.available slot e), s.grantedHold p slot e units, within, free,
    State.freePlace_lowest hn, rfl, unitsGranted_available s slot e units, rfl, exec_draw_of_positive ht hr hv hn⟩

/-! ### The figures after a grant (R22, R65, R67) -/

/-- Opening a hold in a FREE place adds it to the open holds and the held units of its entry. -/
theorem State.counts_openHold {n : Nat} (hn : s.freePlace = some n) (h : Hold) (k : Nat) :
    (s.openHold n h).openHolds k = s.openHolds k + holdCount k (some h) ∧
      (s.openHold n h).heldUnits k = s.heldUnits k + holdUnits k (some h) := by
  obtain ⟨within, free⟩ := State.freePlace_eq_some hn
  have count := s.openHolds_setPlace within ⟨nextByte (s.place n).generation, some h, (s.place n).closing⟩ k
  have units := s.heldUnits_setPlace within ⟨nextByte (s.place n).generation, some h, (s.place n).closing⟩ k
  rw [free] at count units
  exact ⟨count, units⟩

@[simp] theorem State.answered_holds (s : State) (p : Port) (x : Response) : (s.answered p x).holds = s.holds := by
  cases p <;> rfl

@[simp] theorem State.answered_entryAt (s : State) (p : Port) (x : Response) (n : Nat) :
    (s.answered p x).entryAt n = s.entryAt n := by cases p <;> rfl

/-- The figures after a grant: one open hold more on its entry and its units more held, and no other entry's changed. -/
theorem State.counts_granted {n : Nat} (hn : s.freePlace = some n) (x : Response) (k : Nat) :
    let t := (s.openHold n (s.grantedHold p slot e units)).answered p x
    t.openHolds k = s.openHolds k + (if slot = k then 1 else 0) ∧
      t.heldUnits k = s.heldUnits k + (if slot = k then unitsGranted units (s.available slot e) else 0) := by
  obtain ⟨sameCount, sameUnits⟩ := State.counts_congr (State.answered_holds (s.openHold n (s.grantedHold p slot e units)) p x) k
  obtain ⟨count, held⟩ := State.counts_openHold hn (s.grantedHold p slot e units) k
  exact ⟨sameCount.trans count, sameUnits.trans held⟩

/-- Settles O9: the units granted are at most those available, and the check of the holds limit has passed. -/
theorem grantKeepsUnitsWithinBalance : Obligations.GrantKeepsUnitsWithinBalance := by
  intro p r s id units part slot e b ht hr hv hb within
  obtain ⟨n, hn⟩ := State.freePlace_of_drawn hv
  refine ⟨_, exec_draw_of_positive ht hr hv hn, ?_, ?_, ?_, ?_, fun m hm => ?_⟩
  · have granted : unitsGranted units (s.available slot e) ≤ b - s.heldUnits slot := by
      rw [unitsGranted_available, hb]
      exact Nat.min_le_left _ _
    rw [(State.counts_granted hn _ slot).2, if_pos rfl]
    omega
  · rw [(State.counts_granted hn _ slot).1, if_pos rfl]
  · rw [(State.counts_granted hn _ slot).1, if_pos rfl]
    exact State.openHolds_lt_of_drawn hv
  · rw [State.answered_entryAt]
    exact (State.verdict_positive hv).1
  · obtain ⟨count, held⟩ := State.counts_granted (p := p) (e := e) (units := units) hn _ m
    rw [if_neg (Ne.symm hm)] at count held
    exact ⟨held, count⟩

end Sys2Proof.Machine
end

section
/-! A command whose event cannot occur now changes nothing (O3). -/

namespace Sys2Proof.Machine

variable {s : State}

/-! ### Takes that the arbiter does not grant (R178, R180) -/

/-- A command that takes a request is a take of that kind on that port. -/
theorem exec_take {c : Instr} {p : Port} {k : Kind} (h : takenBy c = some (p, k)) :
    ∃ body, ∀ s, exec c s = .next (s.take p k body) := by
  cases c <;> cases h <;> exact ⟨_, fun _ => rfl⟩

theorem exec_of_not_takeable {c : Instr} {p : Port} {k : Kind} (hc : takenBy c = some (p, k)) (ht : s.takeable p k = none) :
    exec c s = .next s := by
  obtain ⟨body, taken⟩ := exec_take hc
  rw [taken, State.take_of_none ht]

/-! ### Events of the blocks (R85, R102, R105) -/

theorem State.secondEvent_of_none_due (h : s.phase ≠ .running ∨ s.time.secondsDue = 0) : s.secondEvent = s :=
  if_neg fun ⟨hrun, hdue⟩ => h.elim (· hrun) (Nat.ne_of_gt hdue)

/-- The expiry of a hold that is not due (log 11). -/
theorem State.expire_of_not_due {n : Nat} (h : ∀ x, (s.place n).live = some x → x.due = false) : s.expire n = s := by
  unfold State.expire
  split
  next x live => rw [if_neg (Bool.eq_false_iff.1 (h x live))]
  next => rfl

theorem exec_holdExpiry_out_of_turn {n : Nat}
    (h : s.phase ≠ .running ∨ ∀ x, (s.place n).live = some x → x.due = false) : exec (.holdExpiry n) s = .next s := by
  refine congrArg Host.Outcome.next ?_
  split
  next hrun => exact State.expire_of_not_due (h.resolve_left (not_not.2 hrun))
  next => rfl

theorem State.beginCommit_out_of_turn (h : s.phase ≠ .running ∨ s.commits.work ≠ none ∨ s.commits.queue = []) :
    s.beginCommit = s := by
  unfold State.beginCommit
  split
  next hready =>
    obtain ⟨hrun, hidle⟩ := hready
    rw [(h.resolve_left (not_not.2 hrun)).resolve_left (not_not.2 hidle)]
  next => rfl

/-- The four places kept for takes are not given to an internal producer (R105). -/
theorem State.not_admitsInternal (h : s.phase ≠ .running ∨ s.freeCommits ≤ 4) : ¬ s.admitsInternal = true := by
  intro admits
  obtain ⟨hrun, hfree⟩ := Bool.and_eq_true_iff.1 admits
  exact h.elim (· (of_decide_eq_true hrun)) (Nat.not_le.2 (of_decide_eq_true hfree))

/-- Settles O3: each command is a take or stands behind a guard, and each premise says that the guard fails. -/
theorem outOfTurnCommandsChangeNothing : Obligations.OutOfTurnCommandsChangeNothing := by
  refine ⟨fun c p k s => exec_of_not_takeable, fun s h => ?scan, fun s h => ?second, fun s n => exec_holdExpiry_out_of_turn,
    fun s h => ?begins, fun s h => ?admissions, fun s v h => ?completions, fun s h => ?powerOn, fun s cut h => ?powerLoss,
    fun s h => ?restore, fun s h => ?complete, fun s raised h => ?fall⟩
  case scan => exact congrArg Host.Outcome.next (if_neg h)
  case second => exact congrArg Host.Outcome.next (State.secondEvent_of_none_due h)
  case begins => exact congrArg Host.Outcome.next (State.beginCommit_out_of_turn h)
  case admissions =>
    have closed := State.not_admitsInternal h
    exact ⟨congrArg Host.Outcome.next (if_neg closed), congrArg Host.Outcome.next (if_neg fun admits => closed admits.1)⟩
  case completions =>
    have idle : ∀ isKind v effect, (.next (s.complete isKind v effect) : Host.Outcome State Fault Refusal) = .next s :=
      fun isKind v effect => congrArg Host.Outcome.next (State.complete_of_no_work h isKind v effect)
    exact ⟨idle _ v _, idle _ v _, idle _ v _, idle _ v _, idle _ v _, idle _ v _, idle _ .ok _, idle _ v _, idle _ v _,
      idle _ v _, idle _ .ok _⟩
  case powerOn => exact congrArg Host.Outcome.next (if_neg h)
  case powerLoss => exact congrArg Host.Outcome.next (if_pos h)
  case restore =>
    refine congrArg Host.Outcome.next (if_neg ?_)
    rintro ⟨starting, high, idle⟩
    rcases h with h | h | h
    · exact h starting
    · rw [high] at h; cases h
    · exact h idle
  case complete =>
    refine congrArg Host.Outcome.next (if_neg ?_)
    rintro ⟨settled, high⟩
    rcases h with h | h
    · exact h settled
    · rw [high] at h; cases h
  case fall => exact congrArg Host.Outcome.next (if_pos h)

end Sys2Proof.Machine
end

section
/-! The handle check of R77, and the answer of a request whose handle finds no hold (O10). -/

namespace Sys2Proof.Machine

variable {s : State} {p : Port} {r : Request} {h : Hold} {o : HoldOutcome}

/-! ### What a place says of a generation (R77 steps 3 to 5, R81) -/

theorem HoldPlace.answer_of_live {x : HoldPlace} {g : Nat} (hl : x.live = some h) (hg : x.generation = g) :
    x.answer g = .live h := by
  simp only [HoldPlace.answer, hl, hg, if_true]

/-- Where no live hold has the generation, the closing record is asked. -/
theorem HoldPlace.answer_of_closed {x : HoldPlace} {g : Nat} (hx : x.live = none ∨ x.generation ≠ g) :
    (∀ o, x.closing = some (g, o) → x.answer g = .ended o) ∧
      ((∀ o, x.closing ≠ some (g, o)) → x.answer g = .unknown) := by
  obtain ⟨generation, live, closing⟩ := x
  have asked : HoldPlace.answer ⟨generation, live, closing⟩ g = HoldPlace.answer ⟨generation, none, closing⟩ g := by
    cases live with
    | none => rfl
    | some y => exact if_neg (hx.resolve_left nofun)
  rw [asked]
  refine ⟨fun o hc => ?_, fun hc => ?_⟩
  · cases hc
    exact if_pos rfl
  · cases closing with
    | none => rfl
    | some y => exact if_neg fun hg => hc y.2 (by rw [← hg])

theorem HoldOutcome.status_eq (o : HoldOutcome) : o.status = if o = .expired then .holdExpired else .holdClosed := by
  cases o <;> rfl

/-! ### The steps of the check (R77) -/

variable {x : Handle}

theorem State.checkHandle_of_no_place (hn : 31 < x.number) : s.checkHandle p x = .refused .badField := if_pos hn

theorem State.checkHandle_of_other_epoch (hn : x.number ≤ 31) (he : x.epoch ≠ s.store.startCounter) :
    s.checkHandle p x = .refused .restarted := (if_neg (Nat.not_lt.2 hn)).trans (if_pos he)

theorem State.checkHandle_of_live (hn : x.number ≤ 31) (he : x.epoch = s.store.startCounter)
    (ha : (s.place x.number).answer x.generation = .live h) :
    s.checkHandle p x = if p ≠ .mp ∧ h.owner ≠ p then .refused .notOwner else .found h := by
  have within : ¬ Config.holdPlaces ≤ x.number := Nat.not_lt.2 hn
  simp only [State.checkHandle, within, he, ha, if_false, ne_eq, not_true]

theorem State.checkHandle_of_ended (hn : x.number ≤ 31) (he : x.epoch = s.store.startCounter)
    (ha : (s.place x.number).answer x.generation = .ended o) : s.checkHandle p x = .ended o := by
  have within : ¬ Config.holdPlaces ≤ x.number := Nat.not_lt.2 hn
  simp only [State.checkHandle, within, he, ha, if_false, ne_eq, not_true]

theorem State.checkHandle_of_unknown (hn : x.number ≤ 31) (he : x.epoch = s.store.startCounter)
    (ha : (s.place x.number).answer x.generation = .unknown) : s.checkHandle p x = .refused .noSuchHold := by
  have within : ¬ Config.holdPlaces ≤ x.number := Nat.not_lt.2 hn
  simp only [State.checkHandle, within, he, ha, if_false, ne_eq, not_true]

/-! ### The takes that check a handle -/

theorem exec_extend (ht : s.takeable p .extend = some r) : exec (.extend p) s = .next (takeExtend p r (s.dequeue p)) :=
  congrArg Host.Outcome.next (State.take_of_takeable ht (takeExtend p))

theorem exec_settle (ht : s.takeable p .settle = some r) : exec (.settle p) s = .next (takeSettle p r (s.dequeue p)) :=
  congrArg Host.Outcome.next (State.take_of_takeable ht (takeSettle p))

theorem exec_release (ht : s.takeable p .release = some r) : exec (.release p) s = .next (takeRelease p r (s.dequeue p)) :=
  congrArg Host.Outcome.next (State.take_of_takeable ht (takeRelease p))

theorem exec_queryHold (ht : s.takeable p .queryHold = some r) :
    exec (.queryHold p) s = .next (takeQueryHold p r (s.dequeue p)) :=
  congrArg Host.Outcome.next (State.take_of_takeable ht (takeQueryHold p))

/-- The answer of a request of kind `k` whose handle finds no hold: its status and content (R77, R82). -/
def HandleAnswer.refusal (k : Kind) : HandleAnswer → Option (Status × List Byte)
  | .found _ => none
  | .ended o => some (o.status, if k = .queryHold then [o.code] else [])
  | .refused status => some (status, [])

variable {answer : Status × List Byte}

theorem HandleAnswer.refusal_eq_some {k : Kind} {a : HandleAnswer} (ha : a.refusal k = some answer) :
    (∃ o, a = .ended o ∧ answer = (o.status, if k = .queryHold then [o.code] else [])) ∨
      ∃ status, a = .refused status ∧ answer = (status, []) := by
  cases a with
  | found h => cases ha
  | ended o => cases ha; exact .inl ⟨o, rfl, rfl⟩
  | refused status => cases ha; exact .inr ⟨status, rfl, rfl⟩

theorem takeExtend_of_refusal (he : field r.payload 4 2 ≠ 0)
    (ha : (s.checkHandle p (readHandle r.payload)).refusal .extend = some answer) :
    takeExtend p r s = s.answer p r answer.1 answer.2 := by
  rcases HandleAnswer.refusal_eq_some ha with ⟨o, hc, rfl⟩ | ⟨status, hc, rfl⟩
  · simp only [takeExtend, hc, if_neg he, reduceCtorEq, if_false]
  · simp only [takeExtend, hc, if_neg he]

theorem takeSettle_of_refusal (ha : (s.checkHandle p (readHandle r.payload)).refusal .settle = some answer) :
    takeSettle p r s = s.answer p r answer.1 answer.2 := by
  rcases HandleAnswer.refusal_eq_some ha with ⟨o, hc, rfl⟩ | ⟨status, hc, rfl⟩
  · simp only [takeSettle, hc, reduceCtorEq, if_false]
  · simp only [takeSettle, hc]

theorem takeRelease_of_refusal (ha : (s.checkHandle p (readHandle r.payload)).refusal .release = some answer) :
    takeRelease p r s = s.answer p r answer.1 answer.2 := by
  rcases HandleAnswer.refusal_eq_some ha with ⟨o, hc, rfl⟩ | ⟨status, hc, rfl⟩
  · simp only [takeRelease, hc, reduceCtorEq, if_false]
  · simp only [takeRelease, hc]

theorem takeQueryHold_of_refusal (ha : (s.checkHandle p (readHandle r.payload)).refusal .queryHold = some answer) :
    takeQueryHold p r s = s.answer p r answer.1 answer.2 := by
  rcases HandleAnswer.refusal_eq_some ha with ⟨o, hc, rfl⟩ | ⟨status, hc, rfl⟩
  · simp only [takeQueryHold, hc, if_true]
  · simp only [takeQueryHold, hc]

/-- A request whose handle finds no hold is answered at once, with nothing changed. -/
theorem exec_of_refusal {c : Instr} {k : Kind} (hc : takenBy c = some (p, k))
    (hk : k = .extend ∨ k = .settle ∨ k = .release ∨ k = .queryHold) (ht : s.takeable p k = some r)
    (he : k = .extend → field r.payload 4 2 ≠ 0)
    (ha : (s.checkHandle p (readHandle r.payload)).refusal k = some answer) :
    exec c s = .next (s.answered p ⟨k.code, r.tag, answer.1, answer.2⟩) := by
  rw [← State.takeable_kind ht, ← State.dequeue_answer]
  rw [← State.dequeue_checkHandle s p] at ha
  rcases hk with rfl | rfl | rfl | rfl
  · obtain rfl : c = .extend p := by cases c <;> cases hc; rfl
    rw [exec_extend ht, takeExtend_of_refusal (he rfl) ha]
  · obtain rfl : c = .settle p := by cases c <;> cases hc; rfl
    rw [exec_settle ht, takeSettle_of_refusal ha]
  · obtain rfl : c = .release p := by cases c <;> cases hc; rfl
    rw [exec_release ht, takeRelease_of_refusal ha]
  · obtain rfl : c = .queryHold p := by cases c <;> cases hc; rfl
    rw [exec_queryHold ht, takeQueryHold_of_refusal ha]

/-- Settles O10: each step of the check decides its answer, and the four takes give that answer alike. -/
theorem handleIsCheckedInOrder : Obligations.HandleIsCheckedInOrder := by
  intro c p k r s hc hk ht hextend n g e hx
  have answered : ∀ a, s.checkHandle p ⟨n, g, e⟩ = a → ∀ x, a.refusal k = some x →
      exec c s = .next (s.answered p ⟨k.code, r.tag, x.1, x.2⟩) := fun a ha x hax =>
    exec_of_refusal hc hk ht hextend (by rw [hx, ha, hax])
  refine ⟨fun hn => ?number, fun hn he => ?epoch, fun hn he hg h hl => ⟨fun terminal other => ?owner, fun own => ?found⟩,
    fun hn he hclosed => ⟨fun o ho => ?ended, fun hnone => ?unknown⟩⟩
  case number => exact answered _ (State.checkHandle_of_no_place hn) _ rfl
  case epoch => exact answered _ (State.checkHandle_of_other_epoch hn he) _ rfl
  case owner =>
    have checked := State.checkHandle_of_live (p := p) (x := ⟨n, g, e⟩) hn he (HoldPlace.answer_of_live hl hg)
    exact answered _ (checked.trans (if_pos ⟨terminal, other⟩)) _ rfl
  case found =>
    have checked := State.checkHandle_of_live (p := p) (x := ⟨n, g, e⟩) hn he (HoldPlace.answer_of_live hl hg)
    exact checked.trans (if_neg fun ⟨terminal, other⟩ => own.elim terminal other)
  case ended =>
    rw [← HoldOutcome.status_eq]
    exact answered _ (State.checkHandle_of_ended hn he ((HoldPlace.answer_of_closed hclosed).1 o ho)) _ rfl
  case unknown =>
    exact answered _ (State.checkHandle_of_unknown hn he ((HoldPlace.answer_of_closed hclosed).2 hnone)) _ rfl

end Sys2Proof.Machine
end

section
/-! Extend, Release and Force Release of a hold that is found (O11, O12). -/

namespace Sys2Proof.Machine

variable {s : State} {p : Port} {r : Request} {h : Hold}

/-! ### A hold written or ended after the request is gone -/

theorem State.dequeue_setHold (s : State) (p : Port) (n : Nat) (h : Hold) :
    (s.dequeue p).setHold n h = (s.setHold n h).dequeue p := by cases p <;> rfl

theorem State.dequeue_closedHold (s : State) (p : Port) (n : Nat) (h : Hold) (o : HoldOutcome) :
    (s.dequeue p).closedHold n h o = (s.closedHold n h o).dequeue p := by cases p <;> rfl

theorem State.dequeue_endHold {n : Nat} (hl : (s.place n).live = some h) (p : Port) (o : HoldOutcome) :
    (s.dequeue p).endHold n o = (s.closedHold n h o).dequeue p := by
  rw [State.endHold_of_live ((congrArg HoldPlace.live (s.dequeue_place p n)).trans hl), State.dequeue_closedHold]

/-! ### OPEN and SETTLING (Table 5-1) -/

theorem Hold.isSettling_of_settling (hs : ∃ u, h.state = .settling u) : h.isSettling = true := by
  obtain ⟨u, hu⟩ := hs
  simp only [Hold.isSettling, hu]

theorem Hold.isSettling_eq_false : h.isSettling = false ↔ h.state = .opened := by
  unfold Hold.isSettling
  cases h.state <;> simp

/-! ### Extend (R79) -/

theorem exec_extend_of_zero (ht : s.takeable p .extend = some r) (he : field r.payload 4 2 = 0) :
    exec (.extend p) s = .next (s.answered p ⟨0x12#8, r.tag, .badField, []⟩) := by
  rw [exec_extend ht]
  simp only [takeExtend, he, if_true, State.dequeue_answer, State.takeable_kind ht, Kind.code]

theorem exec_extend_of_settling (ht : s.takeable p .extend = some r) (he : field r.payload 4 2 ≠ 0)
    (hf : s.checkHandle p (readHandle r.payload) = .found h) (hs : h.isSettling = true) :
    exec (.extend p) s = .next (s.answered p ⟨0x12#8, r.tag, .holdSettling, []⟩) := by
  rw [exec_extend ht]
  simp only [takeExtend, he, if_false, State.dequeue_checkHandle, hf, hs, if_true, State.dequeue_answer, State.takeable_kind ht,
    Kind.code]

theorem exec_extend_of_opened (ht : s.takeable p .extend = some r) (he : field r.payload 4 2 ≠ 0)
    (hf : s.checkHandle p (readHandle r.payload) = .found h) (ho : h.isSettling = false) {d : Nat}
    (hd : h.extended (field r.payload 4 2) = d) :
    exec (.extend p) s = .next ((s.setHold (field r.payload 0 1) { h with deadline := d }).answered p
      ⟨0x12#8, r.tag, .ok, be 4 (d - s.time.holdClock) ++ [yesNo (decide (d = h.limit))]⟩) := by
  rw [exec_extend ht]
  simp only [takeExtend, he, if_false, State.dequeue_checkHandle, hf, ho, Bool.false_eq_true, hd, State.dequeue_setHold,
    State.dequeue_answer, State.dequeue_secondsTo, State.takeable_kind ht, Kind.code]
  rfl

/-- Settles O11: e of 0 is refused first, a SETTLING hold next, and an OPEN hold takes the bounded deadline. -/
theorem extendMovesTheDeadline : Obligations.ExtendMovesTheDeadline := by
  refine fun p r s ht => ⟨exec_extend_of_zero ht, fun h d he hf hd => ⟨fun hs => ?_, fun ho => ?_⟩⟩
  · exact exec_extend_of_settling ht he hf (Hold.isSettling_of_settling hs)
  · have flag : yesNo (decide (d = h.limit)) = if d = h.limit then 1#8 else 0#8 := by simp only [yesNo, decide_eq_true_eq]
    rw [exec_extend_of_opened ht he hf (Hold.isSettling_eq_false.2 ho) hd.symm, flag]
    rfl

/-! ### Release (R80) -/

theorem exec_release_of_settling (ht : s.takeable p .release = some r)
    (hf : s.checkHandle p (readHandle r.payload) = .found h) (hs : h.isSettling = true) :
    exec (.release p) s = .next (s.answered p ⟨0x14#8, r.tag, .holdSettling, []⟩) := by
  rw [exec_release ht]
  simp only [takeRelease, State.dequeue_checkHandle, hf, hs, if_true, State.dequeue_answer, State.takeable_kind ht, Kind.code]

theorem exec_release_of_opened (ht : s.takeable p .release = some r)
    (hf : s.checkHandle p (readHandle r.payload) = .found h) (ho : h.isSettling = false) :
    exec (.release p) s = .next
      ((s.closedHold (field r.payload 0 1) h .released).answered p ⟨0x14#8, r.tag, .ok, be 2 h.units⟩) := by
  obtain ⟨-, hl⟩ := State.checkHandle_found hf
  rw [exec_release ht]
  simp only [takeRelease, State.dequeue_checkHandle, hf, ho, Bool.false_eq_true, if_false, State.dequeue_endHold hl,
    State.dequeue_answer, State.takeable_kind ht, Kind.code]
  rfl

/-! ### Force Release (R81) -/

theorem exec_forceRelease (ht : s.takeable .mp .forceRelease = some r) :
    exec .forceRelease s = .next (takeForceRelease r (s.dequeue .mp)) :=
  congrArg Host.Outcome.next (State.take_of_takeable ht takeForceRelease)

theorem exec_forceRelease_of_no_place (ht : s.takeable .mp .forceRelease = some r) (hn : 31 < field r.payload 0 1) :
    exec .forceRelease s = .next (s.answered .mp ⟨0x2D#8, r.tag, .badField, []⟩) := by
  have above : Config.holdPlaces ≤ field r.payload 0 1 := hn
  rw [exec_forceRelease ht]
  simp only [takeForceRelease, above, if_true, State.dequeue_answer, State.takeable_kind ht, Kind.code]

/-- A Force Release of a place answers as the place does (R81). -/
theorem exec_forceRelease_of_place (ht : s.takeable .mp .forceRelease = some r) {n : Nat} (hn : n ≤ 31)
    (hr : field r.payload 0 1 = n) :
    (∀ h, (s.place n).answer (field r.payload 1 1) = .live h →
      (h.isSettling = true → exec .forceRelease s = .next (s.answered .mp ⟨0x2D#8, r.tag, .holdSettling, []⟩)) ∧
      (h.isSettling = false → exec .forceRelease s = .next ((s.closedHold n h .forced).answered .mp
        ⟨0x2D#8, r.tag, .ok, portCode h.owner :: (be 2 h.slot ++ be 2 h.units)⟩))) ∧
    (∀ o, (s.place n).answer (field r.payload 1 1) = .ended o →
      exec .forceRelease s = .next (s.answered .mp ⟨0x2D#8, r.tag, o.status, []⟩)) ∧
    ((s.place n).answer (field r.payload 1 1) = .unknown →
      exec .forceRelease s = .next (s.answered .mp ⟨0x2D#8, r.tag, .noSuchHold, []⟩)) := by
  have within : ¬ Config.holdPlaces ≤ n := Nat.not_lt.2 hn
  rw [exec_forceRelease ht]
  simp only [takeForceRelease, hr, within, if_false, State.dequeue_place]
  refine ⟨fun h ha => ⟨fun hs => ?_, fun ho => ?_⟩, fun o ha => ?_, fun ha => ?_⟩
  · simp only [ha, hs, if_true, State.dequeue_answer, State.takeable_kind ht, Kind.code]
  · simp only [ha, ho, Bool.false_eq_true, if_false, State.dequeue_endHold (HoldPlace.answer_live ha), State.dequeue_answer,
      State.takeable_kind ht, Kind.code]
  · simp only [ha, State.dequeue_answer, State.takeable_kind ht, Kind.code]
  · simp only [ha, State.dequeue_answer, State.takeable_kind ht, Kind.code]

/-- Settles O12: a SETTLING hold is refused and an OPEN one ends; a Force Release finds its hold by place and generation. -/
theorem releaseAndForceRelease : Obligations.ReleaseAndForceRelease := by
  refine ⟨fun p r s h ht hf => ⟨fun hs => ?_, fun ho => ?_⟩, fun r s n g ht hn hg => ?_⟩
  · exact exec_release_of_settling ht hf (Hold.isSettling_of_settling hs)
  · exact exec_release_of_opened ht hf (Hold.isSettling_eq_false.2 ho)
  · refine ⟨fun above => exec_forceRelease_of_no_place ht (hn ▸ above), fun within same h hl => ?_, fun within closed => ?_⟩
    · obtain ⟨live, -, -⟩ := exec_forceRelease_of_place ht within hn
      obtain ⟨settling, opened⟩ := live h (HoldPlace.answer_of_live hl (same.trans hg.symm))
      exact ⟨fun hs => settling (Hold.isSettling_of_settling hs), fun ho => opened (Hold.isSettling_eq_false.2 ho)⟩
    · subst hg
      obtain ⟨-, ended, unknown⟩ := exec_forceRelease_of_place ht within hn
      obtain ⟨recorded, unrecorded⟩ := HoldPlace.answer_of_closed closed
      exact ⟨fun o ho => o.status_eq ▸ ended o (recorded o ho), fun none => unknown (unrecorded none)⟩

end Sys2Proof.Machine
end

section
/-! The reports of Query Hold and List Holds (O13). -/

namespace Sys2Proof.Machine

variable {s : State} {p : Port} {r : Request} {h : Hold}

/-! ### Query Hold (R82) -/

theorem State.holdContent_eq (s : State) (h : Hold) : s.holdContent h =
    (match h.state with
      | .opened => [1#8, portCode h.owner] ++ be 2 h.units
      | .settling u => [2#8, portCode h.owner] ++ be 2 h.units ++ be 2 u)
      ++ be 4 (h.deadline - s.time.holdClock) ++ be 4 (h.limit - s.time.holdClock) := by
  unfold State.holdContent State.secondsTo
  cases h.state <;> simp [HoldState.code]

@[simp] theorem State.dequeue_holdContent (s : State) (p : Port) (h : Hold) : (s.dequeue p).holdContent h = s.holdContent h := by
  cases p <;> rfl

theorem exec_queryHold_of_found (ht : s.takeable p .queryHold = some r)
    (hf : s.checkHandle p (readHandle r.payload) = .found h) :
    exec (.queryHold p) s = .next (s.answered p ⟨0x15#8, r.tag, .ok, s.holdContent h⟩) := by
  rw [exec_queryHold ht]
  simp only [takeQueryHold, State.dequeue_checkHandle, hf, State.dequeue_holdContent, State.dequeue_answer,
    State.takeable_kind ht, Kind.code]

/-! ### List Holds (R83) -/

theorem State.listedHold_eq (s : State) (x : Nat × Hold) : s.listedHold x =
    [byte x.1, byte (s.place x.1).generation] ++ be 2 x.2.epoch ++ [portCode x.2.owner] ++ be 2 x.2.slot ++ be 2 x.2.units
      ++ (match x.2.state with
        | .opened => [1#8, 0#8, 0#8, 0#8]
        | .settling u => [2#8, 1#8] ++ be 2 u)
      ++ be 4 (x.2.deadline - s.time.holdClock) := by
  unfold State.listedHold State.secondsTo
  cases x.2.state <;> simp [HoldState.code, HoldState.settleUnits, optional]

/-- The next start place is that after the fourth live hold, where a fifth follows it (R83). -/
theorem optional_nextPlace (live : List (Nat × Hold)) : optional 1 (nextPlace (live.take 4) (live.drop 4)) =
    match live[3]?, live[4]? with
    | some x, some _ => [1#8, byte (x.1 + 1)]
    | _, _ => [0#8, 0#8] := by
  match live with
  | [] | [_] | [_, _] | [_, _, _] | [_, _, _, _] => rfl
  | _ :: _ :: _ :: x :: _ :: _ => simp [nextPlace, optional, be, byte]

@[simp] theorem State.dequeue_listedHold (s : State) (p : Port) (x : Nat × Hold) :
    (s.dequeue p).listedHold x = s.listedHold x := by cases p <;> rfl

theorem exec_listHolds (ht : s.takeable .mp .listHolds = some r) :
    exec .listHolds s = .next (takeListHolds r (s.dequeue .mp)) :=
  congrArg Host.Outcome.next (State.take_of_takeable ht takeListHolds)

theorem exec_listHolds_of_no_place (ht : s.takeable .mp .listHolds = some r) (hn : 31 < field r.payload 0 1) :
    exec .listHolds s = .next (s.answered .mp ⟨0x2C#8, r.tag, .badField, []⟩) := by
  have above : Config.holdPlaces ≤ field r.payload 0 1 := hn
  rw [exec_listHolds ht]
  simp only [takeListHolds, above, if_true, State.dequeue_answer, State.takeable_kind ht, Kind.code]

/-- A List Holds from a place of the table lists the first four live holds from it on. -/
theorem exec_listHolds_of_place (ht : s.takeable .mp .listHolds = some r) {start : Nat} (hr : field r.payload 0 1 = start)
    (hn : start ≤ 31) {live : List (Nat × Hold)} (hl : s.liveHolds.filter (fun x => decide (start ≤ x.1)) = live) :
    exec .listHolds s = .next (s.answered .mp ⟨0x2C#8, r.tag, .ok, byte (live.take 4).length ::
      (((live.take 4).map s.listedHold).flatten ++ optional 1 (nextPlace (live.take 4) (live.drop 4)))⟩) := by
  have within : ¬ Config.holdPlaces ≤ start := Nat.not_lt.2 hn
  have listed : (s.dequeue .mp).listedHold = s.listedHold := funext (s.dequeue_listedHold .mp)
  rw [exec_listHolds ht]
  simp only [takeListHolds, hr, within, if_false, State.dequeue_liveHolds, hl, listed, State.dequeue_answer,
    State.takeable_kind ht, Kind.code]

/-- Settles O13: each report is the answer of its take, its figures those of the state before it. -/
theorem holdReports : Obligations.HoldReports := by
  refine ⟨fun p r s h ht hf => ?_, fun r s start live ht hr hl => ⟨fun above => ?_, fun within => ?_⟩⟩
  · exact (exec_queryHold_of_found ht hf).trans
      (congrArg (fun content => Host.Outcome.next (s.answered p ⟨0x15#8, r.tag, .ok, content⟩)) (s.holdContent_eq h))
  · exact exec_listHolds_of_no_place ht (hr ▸ above)
  · have count : byte (live.take 4).length = byte (min live.length 4) := by rw [List.length_take, Nat.min_comm]
    have holds := List.flatMap_def.symm.trans (congrArg (live.take 4).flatMap (funext s.listedHold_eq))
    exact (exec_listHolds_of_place ht hr within hl.symm).trans
      (congrArg₂ (fun n content => Host.Outcome.next (s.answered .mp ⟨0x2C#8, r.tag, .ok, n :: content⟩)) count
        (congrArg₂ (· ++ ·) holds (optional_nextPlace live)))

end Sys2Proof.Machine
end

section
/-! A Settle of a hold that is found (O14). -/

namespace Sys2Proof.Machine

variable {s : State} {p : Port} {r : Request} {h : Hold}

/-! ### The checks on the hold and its entry (R88) -/

theorem exec_settle_of_refused (ht : s.takeable p .settle = some r)
    (hf : s.checkHandle p (readHandle r.payload) = .found h) {status : Status}
    (hs : s.settleRefusal h (field r.payload 4 2) = some status) :
    exec (.settle p) s = .next (s.answered p ⟨0x13#8, r.tag, status, []⟩) := by
  rw [exec_settle ht]
  simp only [takeSettle, State.dequeue_checkHandle, hf, State.dequeue_settleRefusal, hs, State.dequeue_answer,
    State.takeable_kind ht, Kind.code]

theorem exec_settle_of_passed (ht : s.takeable p .settle = some r)
    (hf : s.checkHandle p (readHandle r.payload) = .found h) (hs : s.settleRefusal h (field r.payload 4 2) = none) :
    exec (.settle p) s = .next
      ((s.setHold (field r.payload 0 1) { h with state := .settling (field r.payload 4 2) }).accepted p 0x13#8 r.tag
        (.settleHold h.slot (field r.payload 0 1) (field r.payload 4 2))) := by
  rw [exec_settle ht]
  simp only [takeSettle, State.dequeue_checkHandle, hf, State.dequeue_settleRefusal, hs, State.dequeue_setHold,
    State.dequeue_accept, State.takeable_kind ht, Kind.code]
  rfl

/-- The checks of R88 in their order, on the state of the hold and the wear of its slot. -/
theorem State.settleRefusal_eq (s : State) (h : Hold) (u : Nat) : s.settleRefusal h u =
    if h.state ≠ .opened then some .holdSettling
    else if h.units < u then some .exceedsHold
    else if s.isPending h.slot = true then some .entryBusy
    else if s.locked h.slot = true then some .entryBusy
    else if (s.slot h.slot).worn = true then some .storeFault
    else none := by
  have settling : h.isSettling = true ↔ h.state ≠ .opened := by
    rw [← Bool.not_eq_false, ne_eq, Hold.isSettling_eq_false]
  by_cases hs : h.isSettling = true
  · rw [if_pos (settling.1 hs)]
    exact if_pos hs
  · rw [if_neg (mt settling.2 hs)]
    exact if_neg hs

/-- Settles O14: the refusals stand in the order of R88, and a Settle that passes them all is queued. -/
theorem settleChecksInOrder : Obligations.SettleChecksInOrder := by
  intro p r s h n u ht hf hn hu
  subst hn hu
  have order := s.settleRefusal_eq h (field r.payload 4 2)
  split
  next settling => exact exec_settle_of_refused ht hf (order.trans (if_pos settling))
  next opened =>
    rw [if_neg opened] at order
    split
    next exceeds => exact exec_settle_of_refused ht hf (order.trans (if_pos exceeds))
    next within =>
      rw [if_neg within] at order
      split
      next pending => exact exec_settle_of_refused ht hf (order.trans (if_pos pending))
      next free =>
        rw [if_neg free] at order
        split
        next locked => exact exec_settle_of_refused ht hf (order.trans (if_pos locked))
        next unlocked =>
          rw [if_neg unlocked] at order
          split
          next worn => exact exec_settle_of_refused ht hf (order.trans (if_pos worn))
          next sound => exact exec_settle_of_passed ht hf (order.trans (if_neg sound))

end Sys2Proof.Machine
end

section
/-! The completion of a settlement with OK, and with FAULT before and at the deadline (O15). -/

namespace Sys2Proof.Machine

variable {s : State} {h : Hold}

/-! ### A place written twice -/

section
variable {α : Type}

theorem Table.drop_place (k : Nat) (v : α) (l : Table α) : Table.drop k (Table.place k v l) = Table.drop k l := by
  induction l with
  | nil => simp [Table.place, Table.drop]
  | cons x rest ih =>
    obtain ⟨j, w⟩ := x
    unfold Table.place
    split
    · exact List.filter_cons_of_neg (by simp)
    · simp only [Table.drop, List.filter_cons] at ih ⊢
      rw [ih]

theorem Table.drop_drop (k : Nat) (l : Table α) : Table.drop k (Table.drop k l) = Table.drop k l := by
  simp only [Table.drop, List.filter_filter, Bool.and_self]

/-- The later write of a number stands. -/
theorem Table.set_set [DecidableEq α] (d : α) (l : Table α) (k : Nat) (v w : α) :
    Table.set d (Table.set d l k v) k w = Table.set d l k w := by
  have dropped : Table.drop k (Table.set d l k v) = Table.drop k l := by
    unfold Table.set
    split
    · exact Table.drop_drop k l
    · rw [Table.drop_place, Table.drop_drop]
  rw [Table.set, dropped]
  rfl

end

theorem State.setPlace_setPlace (s : State) (n : Nat) (x y : HoldPlace) : (s.setPlace n x).setPlace n y = s.setPlace n y :=
  congrArg (fun l => { s with holds := l }) (Table.set_set _ _ _ _ _)

/-- How a hold ends does not depend on what was written to it before, as long as it stayed on its slot. -/
theorem State.closedHold_setHold (s : State) (n : Nat) {h x : Hold} (hx : x.slot = h.slot) (o : HoldOutcome) :
    (s.setHold n x).closedHold n x o = s.closedHold n h o := by
  unfold State.closedHold State.setHold
  rw [State.setPlace_setPlace, State.place_setPlace_self, hx]
  rfl

/-! ### The completion (R91, R93, R94) -/

section
variable {n place u : Nat} {origin : Origin} {rest : List Commit} {e : Entry}

/-- A completion of the settlement in progress is its effect on the state in which the commit has ended. -/
theorem exec_settlementCompletion (hrun : s.phase = .running)
    (hc : s.commits = ⟨⟨.settleHold n place u, origin⟩ :: rest, some (.writeImage n e)⟩) (v : Verify) :
    exec (.settlementCompletion v) s = .next (settlementEffect ⟨.settleHold n place u, origin⟩ (.writeImage n e) v
      (s.ended rest ((Work.writeImage n e).complete v s.store))) :=
  congrArg Host.Outcome.next (State.complete_running hrun hc Change.isSettlement rfl v settlementEffect)

theorem State.settleOk_of_live (hl : (s.place place).live = some h) : s.settleOk origin n place u e =
    ((s.setEntry n e).closedHold place h .settled).report origin .ok
      (be 2 u ++ figure e.balance ++ be 2 e.useCount ++ [byte e.revision, e.state.code]) := by
  rw [State.settleOk, State.endHold_of_live (s := s.setEntry n e) hl]

/-- Before its deadline the hold is OPEN again (R93). -/
theorem State.settleFault_of_open (hl : (s.place place).live = some h) (hd : s.time.holdClock < h.deadline) :
    s.settleFault origin n place = ((s.wearSlot n).setHold place { h with state := .opened }).report origin .storeFault
      (1#8 :: be 4 (h.deadline - s.time.holdClock)) := by
  have live : ((s.wearSlot n).place place).live = some h := hl
  simp only [State.settleFault, live, if_neg (Nat.not_le.2 hd), HoldState.code, State.secondsTo]

/-- At its deadline the hold ends EXPIRED within the same change (R94). -/
theorem State.settleFault_of_expired (hl : (s.place place).live = some h) (hd : h.deadline ≤ s.time.holdClock) :
    s.settleFault origin n place = ((s.wearSlot n).closedHold place h .expired).report origin .storeFault [3#8] := by
  have live : ((s.wearSlot n).place place).live = some h := hl
  have reopened : (((s.wearSlot n).setHold place { h with state := .opened }).place place).live
      = some { h with state := .opened } := congrArg HoldPlace.live (State.place_setPlace_self _ _ _)
  simp only [State.settleFault, live, if_pos hd, State.endHold_of_live reopened, expiredStateCode]
  rw [State.closedHold_setHold _ _ (h := h) (x := { h with state := .opened }) rfl]

end

/-- Settles O15: the commit ends with its durable effect, and the hold is settled, reopened or expired. -/
theorem settlementCompletes : Obligations.SettlementCompletes := by
  intro s n place u origin rest e h hrun hc hl
  refine ⟨?ok, fun hd => ?reopened, fun hd => ?expired⟩
  case ok =>
    rw [exec_settlementCompletion hrun hc]
    exact congrArg Host.Outcome.next (State.settleOk_of_live (s := s.ended rest _) hl)
  case reopened =>
    rw [exec_settlementCompletion hrun hc]
    exact congrArg Host.Outcome.next (State.settleFault_of_open (s := s.ended rest _) hl hd)
  case expired =>
    rw [exec_settlementCompletion hrun hc]
    exact congrArg Host.Outcome.next (State.settleFault_of_expired (s := s.ended rest _) hl hd)

end Sys2Proof.Machine
end

section
/-! The expiry of a due hold, and what the end of any hold frees (O16). -/

namespace Sys2Proof.Machine

variable {s : State} {h : Hold} {n : Nat}

/-! ### Expiry (R84) -/

theorem exec_holdExpiry_running (hrun : s.phase = .running) : exec (.holdExpiry n) s = .next (s.expire n) :=
  congrArg Host.Outcome.next (if_pos hrun)

/-- The expiry of a due hold ends it, or is over. -/
theorem State.expire_of_due (hl : (s.place n).live = some h) (hd : h.due = true) : s.expire n =
    if h.state = .opened ∧ h.deadline ≤ s.time.holdClock then s.closedHold n h .expired
    else s.setHold n { h with due := false } := by
  simp only [State.expire, hl, hd, if_true, State.endHold_of_live hl]

/-! ### The end of a live hold (R22, R74, R95) -/

theorem State.closedHold_holds (s : State) (n : Nat) (h : Hold) (o : HoldOutcome) : (s.closedHold n h o).holds =
    (s.setPlace n ⟨(s.place n).generation, none, some ((s.place n).generation, o)⟩).holds := rfl

theorem State.place_closedHold (s : State) (n : Nat) (h : Hold) (o : HoldOutcome) (m : Nat) : (s.closedHold n h o).place m =
    if m = n then ⟨(s.place n).generation, none, some ((s.place n).generation, o)⟩ else s.place m :=
  (State.place_congr (s.closedHold_holds n h o) m).trans (State.place_setPlace _ _ _ _)

/-- The counts of an entry after the end of a hold: its own loses it, and no other changes. -/
theorem State.counts_closedHold (hn : n < 32) (hl : (s.place n).live = some h) (o : HoldOutcome) :
    ((s.closedHold n h o).openHolds h.slot + 1 = s.openHolds h.slot ∧
      (s.closedHold n h o).heldUnits h.slot + h.units = s.heldUnits h.slot) ∧
    ∀ m, m ≠ h.slot → (s.closedHold n h o).openHolds m = s.openHolds m ∧
      (s.closedHold n h o).heldUnits m = s.heldUnits m := by
  have counts := State.endHold_holds hl hn o
  rw [State.endHold_of_live hl] at counts
  refine ⟨?_, fun m hm => ?_⟩
  · simpa only [holdCount, holdUnits, if_true] using counts h.slot
  · simpa only [holdCount, holdUnits, if_neg (Ne.symm hm), Nat.add_zero] using counts m

/-- An entry joins the clear-due list at the end of its last hold if it is RETIRING (R95). -/
theorem State.mem_clearDue_closedHold (hn : n < 32) (hl : (s.place n).live = some h) (o : HoldOutcome) (m : Nat) :
    m ∈ (s.closedHold n h o).engine.clearDue ↔
      m ∈ s.engine.clearDue ∨ (m = h.slot ∧ s.openHolds h.slot = 1 ∧ s.slotRetiring h.slot = true) := by
  obtain ⟨⟨count, -⟩, -⟩ := State.counts_closedHold hn hl o
  have last : (s.closedHold n h o).openHolds h.slot = 0 ↔ s.openHolds h.slot = 1 := by omega
  rw [← last]
  change m ∈ (if (s.closedHold n h o).openHolds h.slot = 0 ∧ s.slotRetiring h.slot = true then
    insertRising h.slot s.engine.clearDue else s.engine.clearDue) ↔ _
  split
  next joins => simp only [mem_insertRising, joins, and_true, or_comm]
  next stays => exact (or_iff_left fun ⟨_, joins⟩ => stays joins).symm

/-- Settles O16: an expiry acts on a due hold alone, and the end of a hold is the write of its place with the hand-over. -/
theorem expiryAndTheEndOfAHold : Obligations.ExpiryAndTheEndOfAHold := by
  refine ⟨fun s n h hrun hl hd => ?_, fun s n h o hn hl => ?_⟩
  · rw [exec_holdExpiry_running hrun, State.expire_of_due hl hd]
    refine ⟨fun opened reached => by rw [if_pos ⟨opened, reached⟩], fun stays => ?_⟩
    rw [if_neg fun ⟨opened, reached⟩ => stays.elim (· opened) (Nat.not_lt.2 reached)]
    rfl
  · obtain ⟨⟨count, units⟩, others⟩ := State.counts_closedHold hn hl o
    exact ⟨(s.place_closedHold n h o n).trans (if_pos rfl), fun m hm => (s.place_closedHold n h o m).trans (if_neg hm),
      count, units, others, State.mem_clearDue_closedHold hn hl o⟩

end Sys2Proof.Machine
end

section
/-! The queue of commands: what a step takes from it, and that no command writes it (O1, O2). -/

namespace Sys2Proof.Machine

/-- Settles O1: both clauses are the branches of `step`. -/
theorem stepRunsFrontCommand : Obligations.StepRunsFrontCommand := by
  refine ⟨fun c rest s front => ?_, fun s empty => ?_⟩
  · rw [step, front]
  · rw [step, empty]

/-- The queue of commands is no part of the state that a write names (log 2). -/
theorem Edit.pending_eq {B : Prop} {w : Bool} {s t : State} (h : Edit B w s t) : t.pending = s.pending := by
  cases h with
  | port => exact State.setPort_pending _ _ _
  | _ => rfl

theorem Edits.pending_eq {B : Prop} {w : Bool} {s t : State} (h : Edits B w s t) : t.pending = s.pending := by
  induction h with
  | refl => rfl
  | tail _ last ih => rw [last.pending_eq, ih]

/-- Settles O2: every command is a chain of writes. -/
theorem everyCommandGoesOnAndLeavesTheQueue : Obligations.EveryCommandGoesOnAndLeavesTheQueue := by
  intro c s
  obtain ⟨t, done, edits⟩ := exec_edits c s
  exact ⟨t, done, edits.pending_eq⟩

end Sys2Proof.Machine
end

section
/-! While intake is closed: what the commands that do not write the store do then. -/

namespace Sys2Proof.Machine

variable {s t : State}

/-- The queues of a port are empty (R188). -/
def PortState.cleared (x : PortState) : Prop := x.requests = [] ∧ x.filled = [] ∧ x.reserved = []

/-- `t` is `s` but for its pins, and for transactions that leave empty port queues empty; a start-up may have begun. -/
structure State.waits (s t : State) : Prop where
  phase : t.phase = s.phase ∨ t.phase = .starting
  commits : t.commits = s.commits
  batch : t.batch = s.batch
  scan : t.scan = s.scan
  store : t.store = s.store
  queues : ∀ p, (s.port p).cleared → (t.port p).cleared

theorem State.waits.refl (s : State) : s.waits s := ⟨.inl rfl, rfl, rfl, rfl, rfl, fun _ => id⟩

theorem State.waits_setPort {p : Port} {x : PortState} (hx : (s.port p).cleared → x.cleared) : s.waits (s.setPort p x) where
  phase := .inl (s.setPort_phase p x)
  commits := s.setPort_commits p x
  batch := s.setPort_batch p x
  scan := s.setPort_scan p x
  store := s.setPort_store p x
  queues q hq := by
    rw [State.port_setPort]
    split
    · rename_i same; rw [same] at hq; exact hx hq
    · exact hq

theorem State.takeable_closed (hp : s.phase ≠ .running) (p : Port) (k : Kind) : s.takeable p k = none := by
  by_contra taken
  obtain ⟨r, hr⟩ := Option.ne_none_iff_exists'.1 taken
  exact hp (State.takeable_running hr)

/-- No request joins a queue while intake is closed (Table 10-1). -/
theorem State.takesIn_closed (hp : s.phase ≠ .running) (p : Port) (x : Transaction) : s.takesIn p x = false := by
  have notReady : s.intakeVerdict p x.received = .notReady := if_pos hp
  simp [State.takesIn, notReady]

theorem State.waits.trans {u : State} (h : s.waits t) (h' : t.waits u) : s.waits u where
  phase := h'.phase.elim (fun same => h.phase.imp same.trans same.trans) .inr
  commits := h'.commits.trans h.commits
  batch := h'.batch.trans h.batch
  scan := h'.scan.trans h.scan
  store := h'.store.trans h.store
  queues p hq := h'.queues p (h.queues p hq)

theorem State.waits.closed (h : s.waits t) (hp : s.phase ≠ .running) : t.phase ≠ .running := by
  rcases h.phase with same | starts
  · rwa [same]
  · rw [starts]; nofun

theorem State.waits_clockByte (hp : s.phase ≠ .running) (p : Port) (b : Byte) : s.waits (State.clockByte p s b) := by
  unfold State.clockByte
  split
  · exact .refl s
  · rename_i x _
    refine State.waits_setPort fun ⟨requests, filled, reserved⟩ => ⟨?_, ?_, reserved⟩
    · rw [State.takesIn_closed hp]
      exact requests
    · dsimp only
      rw [filled]
      exact ite_self _

theorem State.waits_exchange (hp : s.phase ≠ .running) (p : Port) (x : Exchange) : s.waits (s.exchange p x) := by
  unfold State.exchange
  split
  · exact State.waits_setPort id
  · have begun : s.waits (if x.selectFalls = true then s.openTransaction p else s) := by
      split
      · exact State.waits_setPort id
      · exact .refl s
    have clocked := foldl_keeps (P := s.waits) (f := State.clockByte p) x.sent
      (fun u b _ hu => hu.trans (State.waits_clockByte (hu.closed hp) p b)) _ begun
    dsimp only
    split
    · exact clocked.trans (State.waits_setPort id)
    · exact clocked

/-- While intake is closed a command that does not write the store leaves commits, batch, scan and empty queues as they are
(R26, R116). -/
theorem exec_waits {c : Instr} (hw : writesStore c = false) (hp : s.phase ≠ .running) :
    ∃ t, exec c s = .next t ∧ s.waits t := by
  cases ht : takenBy c with
  | some taken => exact ⟨s, exec_of_not_takeable (p := taken.1) (k := taken.2) ht (s.takeable_closed hp _ _), .refl s⟩
  | none =>
    have neither : ((takenBy c).isSome || writesStore c) = false := by rw [ht, hw]; rfl
    cases c with
    | request p x => exact ⟨_, rfl, State.waits_exchange hp p x⟩
    | fetch p x => exact ⟨_, rfl, State.waits_exchange hp p x⟩
    | portStatus p x => exact ⟨_, rfl, State.waits_exchange hp p x⟩
    | scanStep => exact ⟨s, congrArg Host.Outcome.next (State.scanStep_closed hp), .refl s⟩
    | secondEvent => exact ⟨s, congrArg Host.Outcome.next (State.secondEvent_closed hp), .refl s⟩
    | holdExpiry n => exact ⟨s, exec_holdExpiry_out_of_turn (.inl hp), .refl s⟩
    | commitBegin => exact ⟨s, congrArg Host.Outcome.next (State.beginCommit_closed hp), .refl s⟩
    | clearDueAdmission => exact ⟨s, congrArg Host.Outcome.next (State.admitClear_closed hp), .refl s⟩
    | batchCommitAdmission => exact ⟨s, congrArg Host.Outcome.next (State.admitBatch_closed hp), .refl s⟩
    | powerOn =>
      refine ⟨_, rfl, ?_⟩
      split
      · exact ⟨.inr rfl, rfl, rfl, rfl, rfl, fun p => by cases p <;> exact id⟩
      · exact .refl s
    | resetNRelease => exact ⟨_, rfl, .inl rfl, rfl, rfl, rfl, rfl, fun p => by cases p <;> exact id⟩
    | chgInhChange b => exact ⟨_, rfl, .inl rfl, rfl, rfl, rfl, rfl, fun p => by cases p <;> exact id⟩
    | tbclkPeriod => exact ⟨s, congrArg Host.Outcome.next (if_neg hp), .refl s⟩
    | _ => cases neither

end Sys2Proof.Machine
end

section
/-! The move-target marks (O59), and what restore does to them (R112, R117). -/

namespace Sys2Proof.Machine

variable {s t : State} {st st' : Store}

/-! ### Restore, slot by slot (R117) -/

theorem Store.settleMark_of_unmarked {n : Nat} (h : (st.slot n).moveTarget = false) : st.settleMark n = st := by
  rw [Store.settleMark, h]
  exact if_neg Bool.false_ne_true

/-- A slot that restore looks at is left without a mark, and every other slot as it was. -/
theorem Store.settleMark_at (st : Store) (n m : Nat) :
    ((st.settleMark n).slot n).moveTarget = false ∧ (m ≠ n → (st.settleMark n).slot m = st.slot m) := by
  have dropped : (((st.setSlot n { st.slot n with moveTarget := false }).slot n).moveTarget = false ∧
      (m ≠ n → (st.setSlot n { st.slot n with moveTarget := false }).slot m = st.slot m)) :=
    ⟨by rw [Store.slot_setSlot_self], fun hm => by rw [Store.slot_setSlot, if_neg hm]⟩
  unfold Store.settleMark
  split
  · split
    · split
      · exact ⟨by rw [Store.slot_clear, if_pos rfl], fun hm => by rw [Store.slot_clear, if_neg hm]⟩
      · exact dropped
    · exact dropped
  · rename_i unmarked
    exact ⟨Bool.eq_false_iff.2 unmarked, fun _ => rfl⟩

/-- No slot that restore has looked at is marked, and none has gained a mark. -/
theorem Store.settleMarks_unmarked (l : List Nat) (st : Store) (n : Nat) (h : n ∈ l ∨ (st.slot n).moveTarget = false) :
    ((l.foldl Store.settleMark st).slot n).moveTarget = false := by
  induction l generalizing st with
  | nil => exact h.resolve_left List.not_mem_nil
  | cons m l ih =>
    refine ih _ ?_
    obtain ⟨clean, others⟩ := st.settleMark_at m n
    by_cases hn : n = m
    · exact .inr (hn ▸ clean)
    · rw [others hn]
      exact h.imp_left fun mem => (List.mem_cons.1 mem).resolve_left hn

/-- Restore leaves no mark (R117). -/
theorem Store.settle_unmarked (st : Store) (n : Nat) : (st.settle.slot n).moveTarget = false := by
  unfold Store.settle
  rw [Store.slot_discardStaged_none]
  refine Store.settleMarks_unmarked _ st n ?_
  by_cases listed : n ∈ Table.keys st.slots
  · exact .inl listed
  · rw [Store.slot_of_not_mem_keys listed]
    exact .inr rfl

/-! ### What a loss of power leaves (R112) -/

/-- Of a store without marks, only a MOVE marks a slot, and only its target (R112). -/
theorem Work.unmarked_updates {w : Work} {n : Nat} (h : ∀ m, (st.slot m).moveTarget = false)
    (hw : ∀ a e, w ≠ .moveImage a n e) (k : Nat) : ((w.updates k st).slot n).moveTarget = false := by
  cases w with
  | moveImage a b e =>
    have hn : n ≠ b := fun same => hw a e (by rw [same])
    have cleared : ∀ u : Store, (u.slot n).moveTarget = false → ((u.clear a).slot n).moveTarget = false := fun u hu => by
      rw [Store.slot_clear]
      split
      · rfl
      · exact hu
    have written : ((st.setSlot b { st.slot b with image := some e, moveTarget := true }).slot n).moveTarget = false := by
      rw [Store.slot_setSlot, if_neg hn]; exact h n
    simp only [Work.updates]
    split
    · exact written
    · split
      · exact cleared _ written
      · rw [Store.slot_setSlot, if_neg hn]
        exact cleared _ written
  | writeImage m e => exact (Work.writeImage m e).unmarked_complete .ok h n
  | writeStaged m e => exact (Work.writeStaged m e).unmarked_complete .ok h n
  | writeClass c x => exact h n
  | clear m => exact (Work.clear m).unmarked_complete .ok h n
  | mark m => exact (Work.mark m).unmarked_complete .ok h n
  | promote ups => exact (Work.promote ups).unmarked_complete .ok h n

/-- A store without marks that a loss of power finds has at most one after it (R112). -/
theorem Work.marked_cut {w : Work} (h : ∀ n, (st.slot n).moveTarget = false) (cut : PowerCut) {n : Nat}
    (hn : ((w.cut cut st).slot n).moveTarget = true) : ∃ a e, w = .moveImage a n e := by
  by_contra none
  have off : ∀ a e, w ≠ .moveImage a n e := fun a e he => none ⟨a, e, he⟩
  have unmarked : ((w.cut cut st).slot n).moveTarget = false := by
    unfold Store.slot
    rcases w.slots_cut cut st with slots | ⟨k, slots⟩ | slots <;> rw [slots]
    · exact h n
    · exact Work.unmarked_updates h off k
    · exact (w.slot_faulted st n).2.1.trans (h n)
  rw [unmarked] at hn
  cases hn

/-! ### The invariant -/

theorem State.marksSettled_of_unmarked (h : ∀ n, (s.store.slot n).moveTarget = false) : s.marksSettled :=
  ⟨fun _ => h, fun _ => h, fun m _ hm => by rw [h m] at hm; cases hm⟩

/-- A state in which marks may stand: restore is to come, and no commit is in progress. -/
theorem State.marksSettled_of_starting (hp : s.phase = .off ∨ s.phase = .starting) (hw : s.commits.work = none)
    (one : ∀ m n, (s.store.slot m).moveTarget = true → (s.store.slot n).moveTarget = true → m = n) : s.marksSettled :=
  ⟨fun h => by rcases hp with hp | hp <;> rw [hp] at h <;> simp at h, fun h => absurd hw h, one⟩

/-- The slots of the store stay, and no commit begins, as a start-up begins or goes on. -/
theorem State.marksSettled.keeps (hs : s.marksSettled) (hp : t.phase = s.phase ∨ t.phase = .starting)
    (hw : t.commits.work = none ∨ t.commits.work = s.commits.work) (hst : t.store.slots = s.store.slots) :
    t.marksSettled := by
  have slot : ∀ n, t.store.slot n = s.store.slot n := fun n => by unfold Store.slot; rw [hst]
  obtain ⟨settled, idle, one⟩ := hs
  simp only [State.marksSettled, slot]
  refine ⟨fun h => ?_, fun h => ?_, one⟩
  · rcases hp with same | starts
    · exact settled (same ▸ h)
    · rw [starts] at h; simp at h
  · rcases hw with none | same
    · exact absurd none h
    · exact idle (same ▸ h)

/-- A commit in progress means that no slot is marked, so its end leaves none marked (R112). -/
theorem State.marksSettled.complete (hs : s.marksSettled) {isKind : Change → Bool} {v : Verify}
    {effect : Commit → Work → Verify → State → State} (h : ∀ c w y u, Edits False false u (effect c w y u)) :
    (s.complete isKind v effect).marksSettled := by
  rcases State.complete_cases isKind v effect (s := s) with same | ⟨c, rest, w, hc, -, done⟩
  · rw [same]; exact hs
  · obtain ⟨-, working, -⟩ := hs
    have unmarked := w.unmarked_complete v (working (by rw [hc]; nofun))
    rw [done]
    refine State.marksSettled_of_unmarked ?_
    split
    · rw [(h _ _ _ _).store_eq]; exact unmarked
    · exact unmarked

theorem State.marksSettled.unpowered (hs : s.marksSettled) (cut : PowerCut) :
    (s.unpowered (s.storeAfterLoss cut)).marksSettled := by
  obtain ⟨-, working, one⟩ := hs
  refine State.marksSettled_of_starting (.inl rfl) rfl ?_
  change ∀ m n, ((s.storeAfterLoss cut).slot m).moveTarget = true → ((s.storeAfterLoss cut).slot n).moveTarget = true → m = n
  unfold State.storeAfterLoss
  split
  · rename_i w hw
    intro m n hm hn
    have clean := working (by rw [hw]; nofun)
    obtain ⟨a, e, rfl⟩ := Work.marked_cut clean cut hm
    obtain ⟨_, _, same⟩ := Work.marked_cut clean cut hn
    cases same
    rfl
  · split
    · exact one
    · exact one

theorem State.marksSettled.resetFall (hs : s.marksSettled) (raised : Bool) : (s.resetFall raised).marksSettled := by
  have drops := s.commits.atStartUp_drops.2
  unfold State.resetFall
  split
  · exact hs
  · split
    · exact hs.keeps (.inl rfl) (.inr rfl) rfl
    · exact hs.keeps (.inr rfl) drops rfl
    · split
      · exact hs.keeps (.inr rfl) drops rfl
      · exact hs.keeps (.inr rfl) drops rfl
    · exact hs.keeps (.inr rfl) drops rfl

/-- A command that does not write the store: while intake is open no slot is marked, and otherwise no commit begins. -/
theorem State.marksSettled.exec_of_storeKept (hs : s.marksSettled) {c : Instr} (hw : writesStore c = false)
    (h : exec c s = .next t) : t.marksSettled := by
  by_cases hp : s.phase = .running
  · refine State.marksSettled_of_unmarked ?_
    rw [durableStoreIsGuarded.1 c s t hw h]
    exact hs.1 (.inr hp)
  · obtain ⟨u, hu, waits⟩ := exec_waits hw hp
    cases hu.symm.trans h
    exact hs.keeps waits.phase (.inr (by rw [waits.commits])) (by rw [waits.store])

theorem exec_marksSettled (c : Instr) (hs : s.marksSettled) (h : exec c s = .next t) : t.marksSettled := by
  by_cases hw : writesStore c = false
  · exact hs.exec_of_storeKept hw h
  · cases c with
    | settlementCompletion v => cases h; exact hs.complete fun _ _ _ _ => Edits.settlementEffect nofun
    | insertCompletion v => cases h; exact hs.complete fun _ _ _ _ => Edits.insertEffect nofun
    | modifyCompletion v => cases h; exact hs.complete fun _ _ _ _ => Edits.modifyEffect nofun
    | topUpCompletion v => cases h; exact hs.complete fun _ _ _ _ => Edits.topUpEffect nofun
    | barCompletion v => cases h; exact hs.complete fun _ _ _ _ => Edits.barEffect nofun
    | retireCompletion v => cases h; exact hs.complete fun _ _ _ _ => Edits.retireEffect nofun
    | slotClearCompletion => cases h; exact hs.complete fun _ _ _ _ => Edits.clearEffect
    | moveCompletion v => cases h; exact hs.complete fun _ _ _ _ => Edits.moveEffect nofun
    | classWriteCompletion v => cases h; exact hs.complete fun _ _ _ _ => Edits.classEffect
    | stageWriteCompletion v => cases h; exact hs.complete fun _ _ _ _ => Edits.stageEffect
    | promoteCompletion => cases h; exact hs.complete fun _ _ _ _ => Edits.promoteEffect nofun
    | powerLoss cut =>
      cases h
      split
      · exact hs
      · exact hs.unpowered cut
    | resetNFall raised => cases h; exact hs.resetFall raised
    | startUpRestore =>
      cases h
      split
      · exact State.marksSettled_of_unmarked s.store.settle_unmarked
      · exact hs
    | restoreComplete =>
      cases h
      split
      · rename_i ready
        refine State.marksSettled_of_unmarked ?_
        rw [State.completeRestore, State.buildTable_frame]
        exact hs.1 (.inl ready.1)
      · exact hs
    | _ => exact absurd rfl hw

/-- Settles O59: marks come with a loss of power during a MOVE alone, and restore takes them away before intake opens. -/
theorem stepKeepsMarksSettled : Obligations.StepKeepsMarksSettled := by
  intro s t hs h
  unfold step at h
  split at h
  · cases h; exact hs
  · rename_i c rest _
    exact exec_marksSettled (s := { s with pending := rest }) c hs h

end Sys2Proof.Machine
end

section
/-! The books (O60): what they look at, when they balance, and that this is what the invariant says. -/

namespace Sys2Proof.Machine

/-! ### What is counted -/

/-- The parts of the machine that the books look at. -/
structure Books where
  phase : Phase
  commits : CommitUnit
  batch : Batch
  scan : Scan
  reserved : Port → List (Byte × Byte)

def State.books (s : State) : Books := ⟨s.phase, s.commits, s.batch, s.scan, fun p => (s.port p).reserved⟩

/-- The commits of scan origin. -/
def scansIn (q : List Commit) : Nat := q.countP fun c => decide (c.origin = .scan)

/-- The rehoming MOVEs of a scan. -/
def rehomesIn (q : List Commit) : Nat := q.countP Commit.rehomes

/-- The PROMOTEs. -/
def promotesIn (q : List Commit) : Nat := q.countP fun c => decide (c.change = .promoteBatch)

/-- The place on port `p` that a commit of this origin fills at its end (R99, R181). -/
def Origin.awaits (p : Port) : Origin → Option (Byte × Byte)
  | .port q k t => if q = p then some (k, t) else none
  | .scan => none
  | .clearDue => none
  | .batch => none

/-- The notice place on port `p` of a locked batch (R148, R181). -/
def Batch.awaits (p : Port) (b : Batch) : List (Byte × Byte) :=
  if p = .mp ∧ b.isLocked = true then [(applyNotice, b.applyTag)] else []

/-- The notice place on port `p` of a scan that is not IDLE (R159, R181). -/
def Scan.awaits (p : Port) (x : Scan) : List (Byte × Byte) :=
  if p = .mp ∧ x.state ≠ .idle then [(scanNotice, x.startTag)] else []

def commitsAwait (q : List Commit) (p : Port) : List (Byte × Byte) := q.filterMap fun c => c.origin.awaits p

theorem State.awaited_eq (s : State) (p : Port) :
    s.awaited p = commitsAwait s.commits.queue p ++ s.batch.awaits p ++ s.scan.awaits p := rfl

/-! ### Each account -/

/-- A commit has an origin of its kind, and a port's kind code is not a notice's (Table 6-1). -/
def Commit.formed (c : Commit) : Prop :=
  c.originFits ∧ ∀ p k t, c.origin = .port p k t → k ≠ applyNotice ∧ k ≠ scanNotice

/-- A commit that no port waits for. -/
theorem Commit.formed_of_unawaited {c : Commit} (fits : c.originFits) (h : ∀ p k t, c.origin ≠ .port p k t) : c.formed :=
  ⟨fits, fun p k t hp => absurd hp (h p k t)⟩

theorem Commit.formed_stageItem (i n : Nat) : (Commit.mk (.stageItem i n) .batch).formed :=
  Commit.formed_of_unawaited (c := ⟨.stageItem i n, .batch⟩) rfl fun _ _ _ h => by cases h

theorem Commit.formed_promoteBatch : (Commit.mk .promoteBatch .batch).formed :=
  Commit.formed_of_unawaited (c := ⟨.promoteBatch, .batch⟩) rfl fun _ _ _ h => by cases h

/-- The queue is made of such commits, has its places, holds one PROMOTE at most, and the work in progress is its head's. -/
structure CommitUnit.formed (c : CommitUnit) : Prop where
  origins : ∀ x ∈ c.queue, x.formed
  work : ∀ w, c.work = some w → ∃ x, c.queue.head? = some x ∧ w.fits x.change = true
  places : c.queue.length ≤ Config.commitPlaces
  promotes : promotesIn c.queue ≤ 1

/-- The counts of a scan are within what its cursor has passed (Table 9-1). -/
structure Scan.within (x : Scan) (q : List Commit) : Prop where
  flight : x.inFlight ≤ Config.commitPlaces
  cursor : x.cursor ≤ Config.slots
  counted : x.retired + x.marked + x.rehomed + x.skipped + x.inFlight ≤ x.cursor
  rehomed : x.rehomed + rehomesIn q ≤ x.cursor - Config.homeSlots

/-- The commits in flight of a scan are those queued, none while it is IDLE and some while it drains (R157, R158, R167). -/
structure Scan.agrees (x : Scan) (q : List Commit) : Prop where
  flight : x.inFlight = scansIn q
  idle : x.state = .idle → x.inFlight = 0
  draining : x.state = .draining → 0 < x.inFlight

/-- A queued PROMOTE is one that a locked batch has fed (R151). -/
def Batch.feeds (b : Batch) (q : List Commit) : Prop :=
  ∀ c ∈ q, c.change = .promoteBatch → b.isLocked = true ∧ b.promoteFed = true

/-- The books while intake is open. -/
structure Books.balanced (b : Books) : Prop where
  phase : b.phase = .running
  formed : b.commits.formed
  within : b.scan.within b.commits.queue
  agrees : b.scan.agrees b.commits.queue
  feeds : b.batch.feeds b.commits.queue
  reserved : ∀ p, (b.reserved p).Perm (commitsAwait b.commits.queue p ++ b.batch.awaits p ++ b.scan.awaits p)

variable {s : State}

/-- The invariant by accounts: some hold in every phase, the others while intake is open or closed. -/
theorem State.accounted_iff : s.accounted ↔ s.commits.formed ∧ s.scan.within s.commits.queue ∧
    (s.phase = .running → s.books.balanced) ∧ (s.phase ≠ .running → ∀ p, (s.port p).cleared) := by
  constructor
  · rintro ⟨⟨origins, work⟩, ⟨running, places, flight, cursor, counted, rehomed⟩, ⟨promotes, fed⟩, accounts⟩
    have formed : s.commits.formed := ⟨origins, work, places, by rwa [promotesIn, List.countP_eq_length_filter]⟩
    have within : s.scan.within s.commits.queue :=
      ⟨flight, cursor, counted, by rwa [rehomesIn, List.countP_eq_length_filter]⟩
    refine ⟨formed, within, fun hp => ?_, fun hp p => (accounts p).2 hp⟩
    obtain ⟨inFlight, idle, draining⟩ := running hp
    exact ⟨hp, formed, within, ⟨by rwa [scansIn, List.countP_eq_length_filter], idle, draining⟩,
      fun c hc hcp => fed c hc hcp hp, fun p => s.awaited_eq p ▸ (accounts p).1 hp⟩
  · rintro ⟨formed, within, balanced, cleared⟩
    refine ⟨⟨formed.origins, formed.work⟩, ⟨fun hp => ?_, formed.places, within.flight, within.cursor, within.counted, ?_⟩,
      ⟨?_, fun c hc hcp hp => (balanced hp).feeds c hc hcp⟩, fun p => ⟨fun hp => ?_, fun hp => cleared hp p⟩⟩
    · have agrees := (balanced hp).agrees
      exact ⟨by rw [← List.countP_eq_length_filter]; exact agrees.flight, agrees.idle, agrees.draining⟩
    · rw [← List.countP_eq_length_filter]; exact within.rehomed
    · rw [← List.countP_eq_length_filter]; exact formed.promotes
    · rw [State.awaited_eq]; exact (balanced hp).reserved p

theorem State.accounted_of_balanced (h : s.books.balanced) : s.accounted :=
  State.accounted_iff.2 ⟨h.formed, h.within, fun _ => h, fun hp => absurd h.phase hp⟩

theorem State.accounted.balanced (h : s.accounted) (hp : s.phase = .running) : s.books.balanced :=
  (State.accounted_iff.1 h).2.2.1 hp

/-- While intake is closed the books are the queue, the scan's counts and empty ports. -/
theorem State.accounted_of_closed (hp : s.phase ≠ .running) (formed : s.commits.formed)
    (within : s.scan.within s.commits.queue) (cleared : ∀ p, (s.port p).cleared) : s.accounted :=
  State.accounted_iff.2 ⟨formed, within, fun h => absurd h hp, fun _ => cleared⟩

end Sys2Proof.Machine
end

section
/-! How the books are kept: entries made by admissions, completions, scans and batches (R99, R101, R151, R157, R181). -/

namespace Sys2Proof.Machine

variable {b : Books} {c x : Commit} {u : CommitUnit} {y z : Scan} {d : Batch} {q r : List Commit}

/-! ### The queue -/

/-- A queue that has lost some of its commits while none is in progress. -/
theorem CommitUnit.formed.drop (h : u.formed) (hq : q.Sublist u.queue) : (CommitUnit.mk q none).formed where
  origins c hc := h.origins c (hq.subset hc)
  work _ hw := by cases hw
  places := hq.length_le.trans h.places
  promotes := (hq.countP_le).trans h.promotes

/-- A commit joins the tail of the queue (R101). -/
theorem CommitUnit.formed.join (h : u.formed) (hx : x.formed) (room : u.queue.length < Config.commitPlaces)
    (once : x.change = .promoteBatch → promotesIn u.queue = 0) : (CommitUnit.mk (u.queue ++ [x]) u.work).formed where
  origins c hc := by
    rcases List.mem_append.1 hc with hc | hc
    · exact h.origins c hc
    · rw [List.mem_singleton.1 hc]; exact hx
  work w hw := by
    obtain ⟨c, head, fits⟩ := h.work w hw
    exact ⟨c, by dsimp only; rw [List.head?_append, head]; rfl, fits⟩
  places := by
    dsimp only
    rw [List.length_append, List.length_singleton]
    omega
  promotes := by
    have most := h.promotes
    unfold promotesIn at once most ⊢
    dsimp only
    rw [List.countP_append, List.countP_singleton]
    split
    · rename_i hp; rw [once (of_decide_eq_true hp)]
    · exact most

/-- What a start-up leaves of the queue (R116). -/
theorem CommitUnit.formed.atStartUp (h : u.formed) : u.atStartUp.formed := by
  unfold CommitUnit.atStartUp
  split
  · rename_i w hw
    have first : (u.queue.take 1).Sublist u.queue := List.take_sublist 1 _
    refine ⟨fun c hc => h.origins c (first.subset hc), fun v hv => ?_, first.length_le.trans h.places,
      (first.countP_le).trans h.promotes⟩
    cases hv
    obtain ⟨c, head, fits⟩ := h.work w hw
    refine ⟨c, ?_, fits⟩
    rw [List.head?_take, if_neg Nat.one_ne_zero]
    exact head
  · exact h.drop (List.nil_sublist _)

theorem CommitUnit.formed_empty : (CommitUnit.mk [] none).formed where
  origins _ hc := absurd hc List.not_mem_nil
  work _ hw := by cases hw
  places := Nat.zero_le _
  promotes := Nat.zero_le _

/-! ### The scan's counts -/

theorem Scan.within.fewer (h : y.within q) (hr : rehomesIn r ≤ rehomesIn q) : y.within r :=
  ⟨h.flight, h.cursor, h.counted, (Nat.add_le_add_left hr _).trans h.rehomed⟩

theorem Scan.within_idle : idleScan.within [] := ⟨Nat.zero_le _, Nat.zero_le _, Nat.zero_le _, Nat.zero_le _⟩

theorem rehomes_of_origin (h : c.origin ≠ .scan) : c.rehomes = false := by
  unfold Commit.rehomes
  split
  · rename_i scan _; exact absurd scan h
  · rfl

/-! ### Reserved places -/

/-- The place that a fill takes is one of those awaited; the others stay (R181). -/
theorem perm_erase_awaited {l m n : List (Byte × Byte)} {a : Byte × Byte} (h : l.Perm (m ++ a :: n)) :
    (l.erase a).Perm (m ++ n) := by
  have front : l.Perm (a :: (m ++ n)) := h.trans List.perm_middle
  exact ((List.cons_perm_iff_perm_erase.1 front.symm).2).symm

/-- The books after the place of this kind and tag on a port was filled (R181). -/
def Books.filled (b : Books) (p : Port) (x : Byte × Byte) : Books :=
  { b with reserved := Function.update b.reserved p ((b.reserved p).erase x) }

/-- The books after a commit joined, with the place it awaits reserved (R101, R120). -/
def Books.joined (b : Books) (x : Commit) : Books :=
  { b with
    commits := ⟨b.commits.queue ++ [x], b.commits.work⟩
    reserved := fun p => b.reserved p ++ (x.origin.awaits p).toList }

theorem commitsAwait_cons (c : Commit) (q : List Commit) (p : Port) :
    commitsAwait (c :: q) p = (c.origin.awaits p).toList ++ commitsAwait q p := by
  unfold commitsAwait
  cases h : c.origin.awaits p <;> simp [h]

theorem commitsAwait_append (q r : List Commit) (p : Port) :
    commitsAwait (q ++ r) p = commitsAwait q p ++ commitsAwait r p := List.filterMap_append

theorem commitsAwait_singleton (c : Commit) (p : Port) : commitsAwait [c] p = (c.origin.awaits p).toList := by
  rw [commitsAwait_cons]; exact List.append_nil _

/-- No commit awaits a notice (Table 6-1). -/
theorem commitsAwait_ne_notice {p : Port} {a : Byte × Byte} (h : ∀ x ∈ q, x.formed) (ha : a ∈ commitsAwait q p) :
    ¬ (a.1 = applyNotice ∨ a.1 = scanNotice) := by
  obtain ⟨x, hx, awaits⟩ := List.mem_filterMap.1 ha
  obtain ⟨-, kinds⟩ := h x hx
  unfold Origin.awaits at awaits
  split at awaits
  · rename_i r k t origin
    split at awaits
    · cases awaits
      exact not_or.2 (kinds r k t origin)
    · cases awaits
  all_goals cases awaits

theorem Scan.mem_awaits {p : Port} {a : Byte × Byte} (ha : a ∈ y.awaits p) : a.1 = scanNotice := by
  unfold Scan.awaits at ha
  split at ha
  · rw [List.mem_singleton.1 ha]
  · cases ha

/-- What a joining commit reserves is what it awaits. -/
theorem Books.balanced.joined_reserved (h : b.balanced) (x : Commit) (p : Port) :
    ((b.joined x).reserved p).Perm
      (commitsAwait (b.joined x).commits.queue p ++ b.batch.awaits p ++ b.scan.awaits p) := by
  have before := h.reserved p
  simp only [Books.joined, commitsAwait_append, commitsAwait_singleton, List.append_assoc] at before ⊢
  refine (before.append_right _).trans ?_
  rw [List.append_assoc]
  exact List.perm_append_comm.append_left _

/-- A commit of another origin than the scan's, and no PROMOTE, joins (R101). -/
theorem Books.balanced.joined (h : b.balanced) (hx : x.formed) (room : b.commits.queue.length < Config.commitPlaces)
    (origin : x.origin ≠ .scan) (plain : x.change ≠ .promoteBatch) : (b.joined x).balanced where
  phase := h.phase
  formed := h.formed.join hx room fun hp => absurd hp plain
  within := h.within.fewer (by simp [Books.joined, rehomesIn, List.countP_append, rehomes_of_origin origin])
  agrees := ⟨h.agrees.flight.trans (by simp [Books.joined, scansIn, List.countP_append, origin]), h.agrees.idle,
    h.agrees.draining⟩
  feeds c hc hp := by
    rcases List.mem_append.1 hc with hc | hc
    · exact h.feeds c hc hp
    · rw [List.mem_singleton.1 hc] at hp; exact absurd hp plain
  reserved := h.joined_reserved x

/-! ### The batch -/

/-- The batch changes, and neither its notice nor a queued PROMOTE is concerned. -/
theorem Books.balanced.setBatch (h : b.balanced) (awaits : ∀ p, d.awaits p = b.batch.awaits p)
    (feeds : d.feeds b.commits.queue) : ({ b with batch := d } : Books).balanced :=
  { h with feeds := feeds, reserved := fun p => by rw [awaits]; exact h.reserved p }

/-- A batch that is not locked has no PROMOTE queued. -/
theorem Batch.feeds.not_promote (h : d.feeds q) (hl : d.isLocked = false) : ∀ c ∈ q, c.change ≠ .promoteBatch :=
  fun c hc hp => by rw [(h c hc hp).1] at hl; cases hl

theorem Batch.feeds_of_none (h : ∀ c ∈ q, c.change ≠ .promoteBatch) : d.feeds q := fun c hc hp => absurd hp (h c hc)

theorem Batch.awaits_of_unlocked (h : d.isLocked = false) (p : Port) : d.awaits p = [] := by simp [Batch.awaits, h]

/-- An unlocked batch changes and stays unlocked (R141, R142, R147). -/
theorem Books.balanced.setUnlocked (h : b.balanced) (old : b.batch.isLocked = false) (new : d.isLocked = false) :
    ({ b with batch := d } : Books).balanced :=
  h.setBatch (fun p => by rw [Batch.awaits_of_unlocked old, Batch.awaits_of_unlocked new])
    (Batch.feeds_of_none (h.feeds.not_promote old))

/-- A batch is locked, and its notice place is reserved on MP (R148). -/
theorem Books.balanced.locks (h : b.balanced) (old : b.batch.isLocked = false) (new : d.isLocked = true) :
    ({ b with
      batch := d
      reserved := Function.update b.reserved .mp (b.reserved .mp ++ [(applyNotice, d.applyTag)]) } : Books).balanced :=
  { h with
    feeds := Batch.feeds_of_none (h.feeds.not_promote old)
    reserved := fun p => by
      have before := h.reserved p
      rw [Batch.awaits_of_unlocked old, List.append_nil] at before
      by_cases hp : p = .mp
      · subst hp
        simp only [Function.update_self, Batch.awaits, new, and_self, if_true, List.append_assoc]
        refine (before.append_right _).trans ?_
        rw [List.append_assoc]
        exact List.perm_append_comm.append_left _
      · simpa [Function.update_of_ne hp, Batch.awaits, hp] using before }

/-- The batch unit's next commit joins (R151). -/
theorem Books.balanced.offered (h : b.balanced) {change : Change} (ho : b.batch.offer = some (change, d))
    (room : b.commits.queue.length < Config.commitPlaces) :
    (({ b with batch := d } : Books).joined ⟨change, .batch⟩).balanced := by
  unfold Batch.offer at ho
  split at ho
  next writing =>
    have locked : b.batch.isLocked = true := by simp [Batch.isLocked, writing]
    split at ho
    · rename_i i x _
      cases ho
      exact (h.setBatch (d := { b.batch with fed := i + 1 }) (fun _ => rfl) h.feeds).joined (Commit.formed_stageItem i x.slot)
        room (fun h => by cases h) fun h => by cases h
    · split at ho
      · cases ho
      · rename_i unfed
        cases ho
        have none : ∀ c ∈ b.commits.queue, c.change ≠ .promoteBatch := fun c hc hp => unfed (h.feeds c hc hp).2
        have changed : ({ b with batch := { b.batch with fed := b.batch.records.length, promoteFed := true } } :
            Books).balanced := h.setBatch (fun _ => rfl) (Batch.feeds_of_none none)
        exact
          { phase := h.phase
            formed := h.formed.join Commit.formed_promoteBatch room fun _ => List.countP_eq_zero.2 fun c hc => by simp [none c hc]
            within := h.within.fewer (by simp [Books.joined, rehomesIn, List.countP_append, Commit.rehomes])
            agrees := ⟨h.agrees.flight.trans (by simp [Books.joined, scansIn, List.countP_append]), h.agrees.idle,
              h.agrees.draining⟩
            feeds := fun c _ _ => ⟨locked, rfl⟩
            reserved := changed.joined_reserved _ }
  all_goals cases ho

/-! ### The scan -/

/-- The scan changes, and neither its notice nor its place in the books. -/
theorem Books.balanced.setScan (h : b.balanced) (awaits : ∀ p, y.awaits p = b.scan.awaits p)
    (within : y.within b.commits.queue) (agrees : y.agrees b.commits.queue) :
    ({ b with scan := y } : Books).balanced :=
  { h with within := within, agrees := agrees, reserved := fun p => by rw [awaits]; exact h.reserved p }

theorem Scan.awaits_idle (h : y.state = .idle) (p : Port) : y.awaits p = [] := by simp [Scan.awaits, h]

/-- Two scans that are not IDLE await the same notice where they were started alike. -/
theorem Scan.awaits_congr (hy : y.state ≠ .idle) (hz : z.state ≠ .idle) (tag : z.startTag = y.startTag) (p : Port) :
    z.awaits p = y.awaits p := by simp [Scan.awaits, hy, hz, tag]

/-- An IDLE scan has no commit queued. -/
theorem Books.balanced.scansIn_of_idle (h : b.balanced) (hi : b.scan.state = .idle) : scansIn b.commits.queue = 0 :=
  h.agrees.flight.symm.trans (h.agrees.idle hi)

theorem rehomesIn_le_scansIn (q : List Commit) : rehomesIn q ≤ scansIn q :=
  List.countP_mono_left fun c _ hc => by
    by_contra origin
    rw [rehomes_of_origin (by simpa using origin)] at hc
    cases hc

/-- A scan that is not IDLE goes to another state in which it is not (R167 to R170). -/
theorem Books.balanced.restates (h : b.balanced) (hs : b.scan.state ≠ .idle) {state : ScanState} (busy : state ≠ .idle)
    (draining : state = .draining → 0 < b.scan.inFlight) :
    ({ b with scan := { b.scan with state := state } } : Books).balanced :=
  h.setScan (Scan.awaits_congr hs busy rfl)
    ⟨h.within.flight, h.within.cursor, h.within.counted, h.within.rehomed⟩
    ⟨h.agrees.flight, fun hi => absurd hi busy, draining⟩

/-- A slot passed by the cursor leaves room for one more count. -/
theorem counted_one_more {retired marked rehomed skipped flight cursor k : Nat}
    (h : retired + marked + rehomed + skipped + flight ≤ cursor) (once : k ≤ 1) :
    retired + marked + rehomed + (skipped + k) + flight ≤ cursor + 1 := by omega

/-- The cursor of a running scan passes a slot, which may be counted as skipped (R161). -/
theorem Books.balanced.passes (h : b.balanced) (running : b.scan.state = .running) (cursor : b.scan.cursor < Config.slots)
    {k : Nat} (once : k ≤ 1) : ({ b with
      scan := { b.scan with skipped := b.scan.skipped + k, cursor := b.scan.cursor + 1 } } : Books).balanced := by
  have busy : b.scan.state ≠ .idle := by rw [running]; nofun
  obtain ⟨flight, -, counted, rehomed⟩ := h.within
  exact h.setScan (Scan.awaits_congr busy busy rfl)
    ⟨flight, cursor, counted_one_more counted once, rehomed.trans (Nat.sub_le_sub_right (Nat.le_succ _) _)⟩
    ⟨h.agrees.flight, h.agrees.idle, h.agrees.draining⟩

/-- A scan starts, and its notice place is reserved on MP (R159). -/
theorem Books.balanced.starts (h : b.balanced) (hi : b.scan.state = .idle) (kind : ScanKind) (argument time : Option Nat)
    (tag : Byte) : ({ b with
      scan := startedScan kind argument time tag
      reserved := Function.update b.reserved .mp (b.reserved .mp ++ [(scanNotice, tag)]) } : Books).balanced :=
  { h with
    within := ⟨Nat.zero_le _, Nat.zero_le _, Nat.zero_le _,
      ((Nat.add_le_add_left (rehomesIn_le_scansIn _) _).trans_eq
        (by rw [h.scansIn_of_idle hi]; rfl)).trans (Nat.zero_le _)⟩
    agrees := ⟨(h.scansIn_of_idle hi).symm, nofun, nofun⟩
    reserved := fun p => by
      have before := h.reserved p
      rw [Scan.awaits_idle hi, List.append_nil] at before
      by_cases hp : p = .mp
      · subst hp
        dsimp only
        rw [Function.update_self]
        exact before.append_right _
      · simpa [Function.update_of_ne hp, Scan.awaits, hp] using before }

/-- The scan becomes IDLE and its notice is filled (R158, R171). -/
theorem Books.balanced.endsScan (h : b.balanced) (hs : b.scan.state ≠ .idle) (hf : b.scan.inFlight = 0) :
    (({ b with scan := { b.scan with state := .idle } } : Books).filled .mp (scanNotice, b.scan.startTag)).balanced :=
  { h with
    within := ⟨h.within.flight, h.within.cursor, h.within.counted, h.within.rehomed⟩
    agrees := ⟨h.agrees.flight, fun _ => hf, nofun⟩
    reserved := fun p => by
      have before := h.reserved p
      rw [Scan.awaits_idle rfl]
      by_cases hp : p = .mp
      · subst hp
        rw [Scan.awaits, if_pos ⟨rfl, hs⟩] at before
        dsimp only [Books.filled]
        rw [Function.update_self]
        exact perm_erase_awaited (n := []) before
      · simpa [Books.filled, Function.update_of_ne hp, Scan.awaits, hp] using before }

/-- A slot that a running scan examines queues a commit of its origin (R161 to R163). -/
theorem Books.balanced.examined (h : b.balanced) (running : b.scan.state = .running) {change : Change}
    (hx : (Commit.mk change .scan).formed) (plain : change ≠ .promoteBatch)
    (room : b.commits.queue.length < Config.commitPlaces) (cursor : b.scan.cursor < Config.slots)
    (spill : (Commit.mk change .scan).rehomes = true → Config.homeSlots ≤ b.scan.cursor) :
    ({ b with
      commits := ⟨b.commits.queue ++ [⟨change, .scan⟩], b.commits.work⟩
      scan := { b.scan with inFlight := b.scan.inFlight + 1, cursor := b.scan.cursor + 1 } } : Books).balanced :=
  { h with
    formed := h.formed.join hx room fun hp => absurd hp plain
    within := by
      obtain ⟨-, -, counted, rehomed⟩ := h.within
      have flight := h.agrees.flight
      have queued : scansIn b.commits.queue ≤ b.commits.queue.length := List.countP_le_length
      refine ⟨?_, cursor, Nat.succ_le_succ counted, ?_⟩
      · rw [show b.scan.inFlight = scansIn b.commits.queue from flight]
        exact Nat.succ_le_of_lt (queued.trans_lt room)
      · rw [rehomesIn, List.countP_append, List.countP_singleton]
        split
        · rename_i hr
          exact (Nat.succ_le_succ rehomed).trans_eq (Nat.succ_sub (spill hr)).symm
        · exact rehomed.trans (Nat.sub_le_sub_right (Nat.le_succ _) _)
    agrees := ⟨by simp [scansIn, List.countP_append, h.agrees.flight],
      fun hi => (by rw [running] at hi; cases hi), fun _ => Nat.succ_pos _⟩
    feeds := fun c hc hp => by
      rcases List.mem_append.1 hc with hc | hc
      · exact h.feeds c hc hp
      · rw [List.mem_singleton.1 hc] at hp; exact absurd hp plain
    reserved := fun p => by
      have after := h.joined_reserved ⟨change, .scan⟩ p
      simp only [Books.joined, Origin.awaits, Option.toList_none, List.append_nil] at after
      have busy : b.scan.state ≠ .idle := by rw [running]; nofun
      dsimp only
      rw [Scan.awaits_congr (y := b.scan) busy]
      · exact after
      · exact busy
      · rfl }

/-! ### Commits that end -/

/-- The books would balance with the commit `c` still at the head of the queue. -/
def Books.owes (b : Books) (c : Commit) : Prop :=
  b.commits.work = none ∧ ({ b with commits := ⟨c :: b.commits.queue, none⟩ } : Books).balanced

/-- The queue without the commit that has ended. -/
theorem Books.owes.formed (h : b.owes c) : b.commits.formed := by
  obtain ⟨work, balanced⟩ := h
  have dropped := balanced.formed.drop (List.sublist_cons_self c b.commits.queue)
  rwa [← work] at dropped

theorem rehomesIn_cons_of_ne (h : c.origin ≠ .scan) (q : List Commit) : rehomesIn (c :: q) = rehomesIn q := by
  simp [rehomesIn, rehomes_of_origin h]

theorem scansIn_cons_of_ne (h : c.origin ≠ .scan) (q : List Commit) : scansIn (c :: q) = scansIn q := by
  simp [scansIn, h]

/-- A commit of another origin than the scan's has ended, and the place it awaited is filled (R99). -/
theorem Books.owes.paid (h : b.owes c) (origin : c.origin ≠ .scan) {reserved : Port → List (Byte × Byte)}
    (hr : ∀ p, (reserved p).Perm (commitsAwait b.commits.queue p ++ b.batch.awaits p ++ b.scan.awaits p)) :
    ({ b with reserved := reserved } : Books).balanced := by
  have formed := h.formed
  obtain ⟨work, balanced⟩ := h
  exact
    { phase := balanced.phase
      formed := formed
      within := balanced.within.fewer (rehomesIn_cons_of_ne origin _).ge
      agrees := ⟨balanced.agrees.flight.trans (scansIn_cons_of_ne origin _), balanced.agrees.idle, balanced.agrees.draining⟩
      feeds := fun d hd => balanced.feeds d (List.mem_cons_of_mem _ hd)
      reserved := hr }

/-- The end of a port's commit fills its place (R99, R181). -/
theorem Books.owes.reported (h : b.owes c) {p : Port} {k t : Byte} (origin : c.origin = .port p k t) :
    (b.filled p (k, t)).balanced := by
  refine h.paid (by rw [origin]; nofun) fun q => ?_
  have before := h.2.reserved q
  rw [commitsAwait_cons, origin] at before
  by_cases hq : q = p
  · subst hq
    rw [Function.update_self]
    simp only [Origin.awaits, if_true] at before
    exact perm_erase_awaited (m := []) before
  · simpa [Function.update_of_ne hq, Origin.awaits, Ne.symm hq] using before

/-- The end of a commit that no port waits for (R99). -/
theorem Books.owes.silent (h : b.owes c) (origin : c.origin = .clearDue ∨ c.origin = .batch) : b.balanced := by
  refine h.paid (by rcases origin with origin | origin <;> rw [origin] <;> nofun) fun q => ?_
  have before := h.2.reserved q
  rw [commitsAwait_cons] at before
  rcases origin with origin | origin <;> rw [origin] at before <;> exact before

/-- `z` is `y` with one more entry counted (R164 to R166). -/
structure Scan.tallies (y z : Scan) : Prop where
  state : z.state = y.state
  startTag : z.startTag = y.startTag
  cursor : z.cursor = y.cursor
  inFlight : z.inFlight = y.inFlight
  counted : z.retired + z.marked + z.rehomed + z.skipped = y.retired + y.marked + y.rehomed + y.skipped + 1

theorem Scan.tallies_countRetired (y : Scan) : y.tallies y.countRetired :=
  ⟨rfl, rfl, rfl, rfl, by simp only [Scan.countRetired]; omega⟩

theorem Scan.tallies_countMarked (y : Scan) : y.tallies y.countMarked :=
  ⟨rfl, rfl, rfl, rfl, by simp only [Scan.countMarked]; omega⟩

theorem Scan.tallies_countRehomed (y : Scan) : y.tallies y.countRehomed :=
  ⟨rfl, rfl, rfl, rfl, by simp only [Scan.countRehomed]; omega⟩

theorem Scan.tallies_countSkipped (y : Scan) : y.tallies y.countSkipped :=
  ⟨rfl, rfl, rfl, rfl, by simp only [Scan.countSkipped]; omega⟩

/-- While one of its commits is in progress a scan is not IDLE (R158). -/
theorem Books.owes.scanning (h : b.owes c) (origin : c.origin = .scan) : b.scan.state ≠ .idle ∧ 0 < b.scan.inFlight := by
  obtain ⟨-, balanced⟩ := h
  have inFlight : b.scan.inFlight = scansIn b.commits.queue + 1 :=
    balanced.agrees.flight.trans (by simp [scansIn, origin])
  exact ⟨fun hi => by have := balanced.agrees.idle hi; dsimp only at this; omega, by omega⟩

/-- A commit that was in flight is counted once. -/
theorem counted_once {all flight cursor : Nat} (h : all + flight ≤ cursor) (more : 0 < flight) :
    all + 1 + (flight - 1) ≤ cursor := by omega

/-- The end of a scan's commit, counted once, whatever state the scan then has (R164 to R167). -/
theorem Books.owes.tallied (h : b.owes c) (origin : c.origin = .scan)
    (hz : Scan.tallies { b.scan with inFlight := b.scan.inFlight - 1 } z)
    (rehomed : z.rehomed + rehomesIn b.commits.queue ≤ b.scan.rehomed + rehomesIn (c :: b.commits.queue))
    {state : ScanState} (busy : state ≠ .idle) (draining : state = .draining → 0 < z.inFlight) :
    ({ b with scan := { z with state := state } } : Books).balanced := by
  obtain ⟨scanning, more⟩ := h.scanning origin
  have formed := h.formed
  obtain ⟨work, balanced⟩ := h
  obtain ⟨-, tag, cursor, flight, counted⟩ := hz
  have inFlight : b.scan.inFlight = scansIn b.commits.queue + 1 :=
    balanced.agrees.flight.trans (by simp [scansIn, origin])
  dsimp only at cursor flight counted
  exact
    { phase := balanced.phase
      formed := formed
      within := by
        obtain ⟨most, slots, sum, spill⟩ := balanced.within
        dsimp only at most slots sum spill
        refine ⟨?_, ?_, ?_, ?_⟩ <;> dsimp only
        · rw [flight]; exact (Nat.sub_le _ _).trans most
        · rw [cursor]; exact slots
        · rw [counted, flight, cursor]; exact counted_once sum more
        · rw [cursor]; exact rehomed.trans spill
      agrees := ⟨by dsimp only; rw [flight, inFlight]; rfl, fun hi => absurd hi busy, draining⟩
      feeds := fun d hd => balanced.feeds d (List.mem_cons_of_mem _ hd)
      reserved := fun p => by
        have before := balanced.reserved p
        rw [commitsAwait_cons, origin] at before
        dsimp only
        rw [Scan.awaits_congr (y := b.scan) scanning (z := { z with state := state }) busy tag]
        exact before }

/-! ### The end of a batch -/

/-- A batch whose last commit has ended is unlocked: no PROMOTE is left, and its notice is filled (R153, R155). -/
theorem Books.owes.closesBatch (h : b.owes c) (origin : c.origin = .batch) (hd : d.isLocked = false)
    (hq : q.Sublist b.commits.queue) (none : ∀ x ∈ q, x.change ≠ .promoteBatch)
    (scans : scansIn q = scansIn b.commits.queue) (awaits : ∀ p, commitsAwait q p = commitsAwait b.commits.queue p) :
    (({ b with commits := ⟨q, b.commits.work⟩, batch := d } : Books).filled .mp (applyNotice, b.batch.applyTag)).balanced := by
  have silent := h.silent (.inr origin)
  exact
    { phase := silent.phase
      formed := by
        have dropped := silent.formed.drop hq
        rwa [← h.1] at dropped
      within := silent.within.fewer hq.countP_le
      agrees := ⟨silent.agrees.flight.trans scans.symm, silent.agrees.idle, silent.agrees.draining⟩
      feeds := Batch.feeds_of_none none
      reserved := fun p => by
        have before := silent.reserved p
        rw [← awaits] at before
        dsimp only [Books.filled]
        rw [Batch.awaits_of_unlocked hd, List.append_nil]
        by_cases hp : p = .mp
        · subst hp
          rw [Function.update_self]
          by_cases locked : b.batch.isLocked = true
          · rw [Batch.awaits, if_pos ⟨rfl, locked⟩, List.append_assoc] at before
            exact perm_erase_awaited before
          · rw [Batch.awaits_of_unlocked (Bool.eq_false_iff.2 locked), List.append_nil] at before
            rw [List.erase_of_not_mem]
            · exact before
            · intro mem
              rcases List.mem_append.1 (before.subset mem) with mem | mem
              · exact commitsAwait_ne_notice (fun x hx => silent.formed.origins x (hq.subset hx)) mem (.inl rfl)
              · exact absurd (Scan.mem_awaits mem) (show applyNotice ≠ scanNotice by decide)
        · rw [Function.update_of_ne hp]
          rw [Batch.awaits, if_neg (fun h => hp h.1), List.append_nil] at before
          exact before }

end Sys2Proof.Machine
end

section
/-! What each operation does to the books: nothing, an entry joined, or a place filled. -/

namespace Sys2Proof.Machine

variable (s : State)

/-! ### Ports -/

theorem State.setPort_books (p : Port) (x : PortState) :
    (s.setPort p x).books = { s.books with reserved := Function.update s.books.reserved p x.reserved } := by
  simp only [State.books, State.setPort_phase, State.setPort_commits, State.setPort_batch, State.setPort_scan,
    Books.mk.injEq, true_and]
  funext q
  rw [State.port_setPort]
  by_cases hq : q = p
  · rw [if_pos hq, hq, Function.update_self]
  · rw [if_neg hq, Function.update_of_ne hq]

theorem State.setPort_books_same (p : Port) (x : PortState) (h : x.reserved = (s.port p).reserved) :
    (s.setPort p x).books = s.books := by
  rw [State.setPort_books, h]
  exact congrArg (fun f => { s.books with reserved := f }) (Function.update_eq_self p s.books.reserved)

@[simp] theorem State.fill_books (p : Port) (r : Response) : (s.fill p r).books = s.books :=
  s.setPort_books_same p _ rfl

@[simp] theorem State.answer_books (p : Port) (r : Request) (status : Status) (payload : List Byte) :
    (s.answer p r status payload).books = s.books := s.fill_books p _

@[simp] theorem State.dequeue_books (p : Port) : (s.dequeue p).books = s.books := s.setPort_books_same p _ rfl

theorem State.reserve_books (p : Port) (kind tag : Byte) : (s.reserve p kind tag).books =
    { s.books with reserved := Function.update s.books.reserved p (s.books.reserved p ++ [(kind, tag)]) } :=
  s.setPort_books p _

/-- A fill takes the place reserved for its kind and tag, where there is one (R181). -/
theorem State.fillReserved_books (p : Port) (kind tag : Byte) (status : Status) (payload : List Byte) :
    (s.fillReserved p kind tag status payload).books = s.books.filled p (kind, tag) := by
  unfold State.fillReserved
  split
  · exact s.setPort_books p _
  · rename_i absent
    rw [Books.filled, show (s.books.reserved p).erase (kind, tag) = s.books.reserved p from List.erase_of_not_mem absent,
      Function.update_eq_self]

theorem State.accept_books (p : Port) (r : Request) (c : Change) :
    (s.accept p r c).books = s.books.joined ⟨c, .port p r.kind.code r.tag⟩ := by
  refine (State.reserve_books _ p _ _).trans ?_
  simp only [Books.joined, State.books, Books.mk.injEq, State.joinQueue_commits, State.joinQueue_phase,
    State.joinQueue_batch, State.joinQueue_scan, State.port_joinQueue, true_and]
  funext q
  by_cases hq : q = p
  · subst hq
    simp [Origin.awaits]
  · simp [Function.update_of_ne hq, Origin.awaits, Ne.symm hq]

/-! ### Commits, batch and scan -/

@[simp] theorem State.setBatch_books (b : Batch) : (s.setBatch b).books = { s.books with batch := b } := rfl

/-- A commit that no port waits for joins (R101). -/
theorem State.joinQueue_books {c : Commit} (h : ∀ p, c.origin.awaits p = none) :
    (s.joinQueue c).books = s.books.joined c := by
  simp only [Books.joined, h, Option.toList_none, List.append_nil]
  rfl

/-! ### Slots and holds -/

@[simp] theorem State.joinClearDue_books (n : Nat) : (s.joinClearDue n).books = s.books := rfl

@[simp] theorem State.leaveClearDue_books (n : Nat) : (s.leaveClearDue n).books = s.books := rfl

@[simp] theorem State.setEntry_books (n : Nat) (e : Entry) : (s.setEntry n e).books = s.books := rfl

@[simp] theorem State.spillGain_books (n : Nat) (id : List Byte) : (s.spillGain n id).books = s.books := by
  unfold State.spillGain
  split <;> rfl

@[simp] theorem State.occupySlot_books (n : Nat) (e : Entry) : (s.occupySlot n e).books = s.books :=
  State.spillGain_books _ _ _

@[simp] theorem State.clearSlot_books (n : Nat) : (s.clearSlot n).books = s.books := by
  rw [State.clearSlot_frame]
  rfl

@[simp] theorem State.releaseSlot_books (n : Nat) : (s.releaseSlot n).books = s.books := rfl

@[simp] theorem State.wearSlot_books (n : Nat) : (s.wearSlot n).books = s.books := rfl

@[simp] theorem State.spoilSlot_books (n : Nat) : (s.spoilSlot n).books = s.books := rfl

@[simp] theorem State.markRetiring_books (n : Nat) : (s.markRetiring n).books = s.books := rfl

@[simp] theorem State.settleRetiring_books (n : Nat) : (s.settleRetiring n).books = s.books := by
  unfold State.settleRetiring
  split <;> rfl

@[simp] theorem State.reserveFor_books (x : Item) (n : Nat) (h : Holder) : (s.reserveFor x n h).books = s.books := by
  unfold State.reserveFor
  split <;> rfl

@[simp] theorem State.spendFree_books (n : Nat) : (s.spendFree n).books = s.books := by
  unfold State.spendFree
  split <;> rfl

@[simp] theorem State.mapEntry_books (n : Nat) (f : Entry → Entry) : (s.mapEntry n f).books = s.books := by
  unfold State.mapEntry
  split <;> rfl

@[simp] theorem State.setHold_books (n : Nat) (h : Hold) : (s.setHold n h).books = s.books := rfl

@[simp] theorem State.handOver_books (n : Nat) : (s.handOver n).books = s.books := by
  unfold State.handOver
  split <;> rfl

@[simp] theorem State.endHold_books (n : Nat) (o : HoldOutcome) : (s.endHold n o).books = s.books := by
  unfold State.endHold
  split
  · exact State.handOver_books _ _
  · rfl

theorem State.expire_books (n : Nat) : (s.expire n).books = s.books := by
  unfold State.expire
  split
  · split
    · split
      · exact State.endHold_books _ _ _
      · rfl
    · rfl
  · rfl

/-- Operations along a list leave the books alone where each of them does. -/
theorem State.foldl_books {α : Type} {f : State → α → State} (h : ∀ u x, (f u x).books = u.books) (l : List α) (s : State) :
    (l.foldl f s).books = s.books :=
  foldl_keeps (P := fun u : State => u.books = s.books) l (fun u x _ hu => (h u x).trans hu) s rfl

theorem State.secondEvent_books : s.secondEvent.books = s.books := by
  unfold State.secondEvent
  split
  · refine (State.foldl_books (fun u n => ?_) _ _).trans rfl
    rw [State.markDue_frame]
    rfl
  · rfl

theorem State.followMove_books (a b : Nat) (s : State) (n : Nat) : (State.followMove a b s n).books = s.books := by
  unfold State.followMove
  split
  · split <;> rfl
  · rfl

@[simp] theorem State.moveEntry_books (a b : Nat) (e : Entry) : (s.moveEntry a b e).books = s.books := by
  have moved : (((s.clearSlot a).occupySlot b e).moveHolds a b).books = s.books :=
    (State.foldl_books (State.followMove_books a b) _ _).trans (by simp)
  unfold State.moveEntry State.moveClearDue
  split
  · simpa using moved
  · exact moved

theorem State.promoteItem_books (x : Item × Nat × Promotion) : (s.promoteItem x).books = s.books := by
  obtain ⟨item, n, update⟩ := x
  cases item with
  | retire id y => cases update <;> simp [State.promoteItem]
  | _ => simp [State.promoteItem]

theorem State.validateItems_books {t : State} {sample : Bool} {items : List Item} {index : Nat} {records : List ItemRecord}
    (h : s.validateItems sample index items = .ok (t, records)) : t.books = s.books := by
  induction items generalizing index s t records with
  | nil => cases h; rfl
  | cons x rest ih =>
    unfold State.validateItems at h
    split at h
    · cases h
    · split at h
      · cases h
      · rename_i hv
        cases h
        exact (ih _ hv).trans (State.reserveFor_books _ _ _ _)

/-! ### Transactions -/

theorem State.clockByte_books (p : Port) (s : State) (b : Byte) : (State.clockByte p s b).books = s.books := by
  unfold State.clockByte
  split
  · rfl
  · exact s.setPort_books_same p _ rfl

theorem State.exchange_books (p : Port) (x : Exchange) : (s.exchange p x).books = s.books := by
  unfold State.exchange
  split
  · exact s.setPort_books_same p _ rfl
  · have begun : (if x.selectFalls = true then s.openTransaction p else s).books = s.books := by
      split
      · exact s.setPort_books_same p _ rfl
      · rfl
    have clocked := (State.foldl_books (State.clockByte_books p) x.sent _).trans begun
    dsimp only
    split
    · refine Eq.trans ?_ clocked
      exact State.setPort_books_same _ p _ rfl
    · exact clocked

end Sys2Proof.Machine
end

section
/-! Requests and events keep the books (R101, R120, R151, R159, R161, R167). -/

namespace Sys2Proof.Machine

variable {s t u : State} {p : Port} {r : Request}

/-! ### Takes -/

/-- The kind code of a request is not a notice's (Table 10-3). -/
theorem Kind.code_ne_notice (k : Kind) : k.code ≠ applyNotice ∧ k.code ≠ scanNotice := by cases k <;> decide

theorem State.answersTo.books (h : s.answersTo p r t) : t.books = s.books := by
  obtain ⟨status, payload, rfl⟩ := h
  exact State.answer_books _ _ _ _ _

theorem State.answersTo.balanced (h : s.answersTo p r t) (hs : s.books.balanced) : t.books.balanced := by
  rwa [h.books]

/-- An accepted request: its commit joins and its place is reserved (R120). -/
theorem State.balanced_accept (hs : s.books.balanced) {c : Change} (plain : c ≠ .promoteBatch)
    (fits : (Commit.mk c (.port p r.kind.code r.tag)).originFits) (room : s.commits.queue.length < Config.commitPlaces) :
    (s.accept p r c).books.balanced := by
  rw [State.accept_books]
  refine hs.joined ⟨fits, fun q k t same => ?_⟩ room (fun h => by cases h) plain
  cases same
  exact r.kind.code_ne_notice

/-- A take keeps the books where its body does, with the room that the grant says (R179). -/
theorem State.balanced_take {k : Kind} {body : Request → State → State} (hs : s.books.balanced)
    (h : ∀ r u, u.books.balanced → (k.needsCommit = true → u.commits.queue.length < Config.commitPlaces) →
      (body r u).books.balanced) : (s.take p k body).books.balanced := by
  rcases State.take_cases p k body (s := s) with he | ⟨r, hr, he⟩
  · rwa [he]
  · rw [he]
    exact h r _ (by rwa [State.dequeue_books]) (State.takeable_grantRoom hr).2

theorem takeDraw_balanced (hs : s.books.balanced) : (takeDraw p r s).books.balanced := by
  rcases takeDraw_cases s p r with h | ⟨_, _, _, slot, e, n, -, -, h⟩
  · exact h.balanced hs
  · rw [h, State.grantDraw, State.answer_books]
    exact hs

theorem takeExtend_balanced (hs : s.books.balanced) : (takeExtend p r s).books.balanced := by
  rcases takeExtend_cases s p r with h | ⟨n, x, d, payload, -, -, h⟩
  · exact h.balanced hs
  · rw [h, State.answer_books]
    exact hs

theorem State.closesHold.balanced (h : s.closesHold p r t) (hs : s.books.balanced) : t.books.balanced := by
  obtain ⟨n, x, o, payload, -, -, -, rfl⟩ := h
  rwa [State.answer_books, State.endHold_books]

theorem takeSettle_balanced (hs : s.books.balanced) (room : s.commits.queue.length < Config.commitPlaces) :
    (takeSettle p r s).books.balanced := by
  rcases takeSettle_cases s p r with h | ⟨n, x, u, -, -, -, h⟩
  · exact h.balanced hs
  · rw [h]
    exact State.balanced_accept (s := s.setHold n { x with state := .settling u }) hs (fun h => by cases h)
      ⟨_, _, _, rfl⟩ room

/-- What an item asks for is no PROMOTE, and a port may ask for it (Table 6-1). -/
theorem Item.change_asked (x : Item) (n : Nat) (p : Port) (k t : Byte) :
    x.change n ≠ .promoteBatch ∧ (Commit.mk (x.change n) (.port p k t)).originFits := by
  cases x with
  | retire => exact ⟨(fun h => by cases h), .inr ⟨_, _, _, rfl⟩⟩
  | _ => exact ⟨(fun h => by cases h), ⟨_, _, _, rfl⟩⟩

theorem takeChange_balanced {item : Option Item} (hs : s.books.balanced) (room : s.commits.queue.length < Config.commitPlaces) :
    (takeChange item r s).books.balanced := by
  rcases takeChange_cases item r s with h | ⟨x, n, -, -, -, h⟩
  · exact h.balanced hs
  · rw [h]
    obtain ⟨plain, fits⟩ := x.change_asked n .mp r.kind.code r.tag
    exact State.balanced_accept (by rwa [State.reserveFor_books]) plain fits
      (by rwa [(s.reserveFor_frame x n .singleInsert).2])

theorem takeRelocate_balanced (hs : s.books.balanced) (room : s.commits.queue.length < Config.commitPlaces) :
    (takeRelocate r s).books.balanced := by
  rcases takeRelocate_cases s r with ⟨n, h⟩ | h | ⟨id, a, b, -, -, -, -, -, h⟩
  · exact h.balanced (by rwa [State.spendFree_books])
  · exact h.balanced hs
  · rw [h]
    exact State.balanced_accept (s := s.reserveSlot b id .move) hs (fun h => by cases h) (.inr ⟨_, _, _, rfl⟩) room

theorem takeSetClass_balanced (hs : s.books.balanced) (room : s.commits.queue.length < Config.commitPlaces) :
    (takeSetClass r s).books.balanced := by
  rcases takeSetClass_cases s r with h | ⟨c, record, h⟩
  · exact h.balanced hs
  · rw [h]
    exact State.balanced_accept hs (fun h => by cases h) ⟨_, _, _, rfl⟩ room

theorem takeSetTime_balanced (hs : s.books.balanced) : (takeSetTime r s).books.balanced := by
  rcases takeSetTime_cases s r with h | ⟨payload, h⟩
  · exact h.balanced hs
  · rw [h, State.answer_books]
    exact hs

/-! ### Batches -/

theorem takeStage_balanced (hs : s.books.balanced) : (takeStage r s).books.balanced := by
  rcases takeStage_cases s r with h | ⟨x, payload, unlocked, -, -, -, h⟩
  · exact h.balanced hs
  · rw [h, State.answer_books]
    exact hs.setUnlocked unlocked rfl

theorem takeDiscard_balanced (hs : s.books.balanced) : (takeDiscard r s).books.balanced := by
  rcases takeDiscard_cases s r with h | ⟨payload, opened, h⟩
  · exact h.balanced hs
  · rw [h, State.answer_books]
    exact hs.setUnlocked (by unfold Batch.isLocked; exact opened ▸ rfl) rfl

theorem takeApply_balanced (hs : s.books.balanced) : (takeApply r s).books.balanced := by
  rcases takeApply_cases s r with h | ⟨result, h⟩ | ⟨u, records, unlocked, -, valid, h⟩
  · exact h.balanced hs
  · exact h.balanced (hs.setBatch (fun _ => rfl) hs.feeds)
  · have same := s.validateItems_books valid
    have old : u.books.batch.isLocked = false := by rw [same]; exact unlocked
    rw [h, State.acceptApply, State.reserve_books, State.answer_books]
    exact (same ▸ hs).locks old rfl

/-! ### Scans -/

theorem takeStartScan_balanced (hs : s.books.balanced) : (takeStartScan r s).books.balanced := by
  rcases takeStartScan_cases s r with h | ⟨kind, argument, payload, idle, -, h⟩
  · exact h.balanced hs
  · rw [h, State.reserve_books, State.answer_books]
    exact hs.starts idle kind argument s.time.deviceTime r.tag

theorem takeSuspendScan_balanced (hs : s.books.balanced) : (takeSuspendScan r s).books.balanced := by
  unfold takeSuspendScan
  split
  case h_1 running =>
    rw [State.answer_books]
    exact hs.restates (by rw [show s.books.scan.state = _ from running]; nofun) nofun nofun
  all_goals rwa [State.answer_books]

theorem takeResumeScan_balanced (hs : s.books.balanced) : (takeResumeScan r s).books.balanced := by
  unfold takeResumeScan
  split
  case h_4 suspended =>
    split
    · rwa [State.answer_books]
    · rw [State.answer_books]
      exact hs.restates (by rw [show s.books.scan.state = _ from suspended]; nofun) nofun nofun
  all_goals rwa [State.answer_books]

theorem State.endScan_books (s : State) : s.endScan.books =
    ({ s.books with scan := { s.scan with state := .idle } } : Books).filled .mp (scanNotice, s.scan.startTag) :=
  State.fillReserved_books _ _ _ _ _ _

/-- The end of a walk: the scan drains, or ends where nothing is in flight (R167). -/
theorem State.balanced_endWalk (hs : s.books.balanced) (busy : s.scan.state ≠ .idle) : s.endWalk.books.balanced := by
  unfold State.endWalk
  split
  · rename_i none
    rw [State.endScan_books]
    exact hs.endsScan busy none
  · rename_i some
    exact hs.restates busy nofun fun _ => Nat.pos_of_ne_zero some

theorem takeAbortScan_balanced (hs : s.books.balanced) : (takeAbortScan r s).books.balanced := by
  rcases takeAbortScan_cases s r with h | ⟨payload, busy, h⟩
  · exact h.balanced hs
  · rw [h]
    refine State.balanced_endWalk (by rwa [State.answer_books]) ?_
    rwa [show (s.answer .mp r .ok payload).scan = s.scan from State.setPort_scan _ _ _]

/-- A slot that a scan would rehome is a spill slot (R163). -/
theorem State.inSpill_of_rehome {sample : Bool} {n target : Nat} {id : List Byte}
    (h : s.slotDecision sample n = .rehome id target) : inSpill n = true := by
  unfold State.slotDecision at h
  split at h
  · cases h
  · split at h
    · split at h
      · cases h
      · split at h <;> cases h
    · unfold State.rehoming at h
      split at h
      · rename_i spill
        exact spill.2
      · cases h

theorem State.room_of_freeCommits (h : s.freeCommits ≠ 0) : s.commits.queue.length < Config.commitPlaces := by
  unfold State.freeCommits at h
  omega

/-- A running scan, as it examines slot by slot. -/
def State.walks (s : State) : Prop := s.books.balanced ∧ s.scan.state = .running

theorem State.walks.passes (h : s.walks) (hc : ¬ Config.slots ≤ s.scan.cursor) : s.advanceCursor.walks :=
  ⟨h.1.passes h.2 (Nat.lt_of_not_le hc) (k := 0) (Nat.zero_le _), h.2⟩

theorem State.walks.skips (h : s.walks) (hc : ¬ Config.slots ≤ s.scan.cursor) :
    (s.setScan s.scan.countSkipped).advanceCursor.walks :=
  ⟨h.1.passes h.2 (Nat.lt_of_not_le hc) (k := 1) (Nat.le_refl _), h.2⟩

theorem State.walks.retires (h : s.walks) (hc : ¬ Config.slots ≤ s.scan.cursor) (free : s.freeCommits ≠ 0) :
    (s.scanAdmit (.retireEntry s.scan.cursor)).advanceCursor.walks :=
  ⟨h.1.examined h.2 (Commit.formed_of_unawaited (.inl rfl) fun _ _ _ h => by cases h) (fun h => by cases h)
    (State.room_of_freeCommits free) (Nat.lt_of_not_le hc) (fun h => by cases h), h.2⟩

theorem State.walks.rehomes (h : s.walks) (hc : ¬ Config.slots ≤ s.scan.cursor) (free : s.freeCommits ≠ 0)
    {sample : Bool} {id : List Byte} {target : Nat} (hd : s.slotDecision sample s.scan.cursor = .rehome id target) :
    ((s.reserveSlot target id .move).scanAdmit (.moveEntry s.scan.cursor target)).advanceCursor.walks :=
  ⟨h.1.examined h.2 (Commit.formed_of_unawaited (.inl rfl) fun _ _ _ h => by cases h) (fun h => by cases h)
    (State.room_of_freeCommits free) (Nat.lt_of_not_le hc) (fun _ => (inSpill_iff.1 (State.inSpill_of_rehome hd)).1), h.2⟩

theorem State.walks.examine (sample : Bool) (n : Nat) (h : s.walks) : (State.examine sample n s).walks := by
  induction n generalizing s with
  | zero => exact h
  | succ n ih =>
    unfold State.examine
    split
    · exact h
    · rename_i hc
      split
      · exact ih (h.passes hc)
      · exact ih (h.skips hc)
      · split
        · exact h
        · rename_i free
          exact ih (h.retires hc free)
      · rename_i hd
        split
        · exact h
        · rename_i free
          exact ih (h.rehomes hc free hd)

/-- The arbiter grants the scan only while it is RUNNING (R179). -/
theorem State.running_of_granted (h : s.granted = some .scan) : s.scan.state = .running := by
  unfold State.granted at h
  split at h
  · exact of_decide_eq_true (List.find?_some (p := s.isCandidate) h)
  · cases h

theorem State.balanced_scanStep (hs : s.books.balanced) : s.scanStep.books.balanced := by
  unfold State.scanStep
  split
  · rename_i granted
    have walks : (s.setPointer Candidate.scan.after).walks := ⟨hs, State.running_of_granted (s := s) granted⟩
    obtain ⟨balanced, running⟩ := walks.examine s.inhibited Config.stepSlots
    dsimp only
    split
    · exact State.balanced_endWalk balanced (by rw [running]; nofun)
    · exact balanced
  · exact hs

/-! ### The commit unit -/

/-- The work that a commit begins with is one of its kind (R108, R111). -/
theorem State.formWork_fits {c : Change} {w : Work} (h : s.formWork c = some w) : w.fits c = true := by
  cases c with
  | insertEntry n e => cases h; exact beq_self_eq_true _
  | clearEntry n => cases h; exact beq_self_eq_true _
  | writeClass n x => cases h; exact beq_self_eq_true _
  | promoteBatch => cases h; rfl
  | moveEntry a b =>
    obtain ⟨e, -, rfl⟩ := Option.map_eq_some_iff.1 h
    simp [Work.fits]
  | stageItem i n =>
    obtain ⟨x, -, hx⟩ := Option.bind_eq_some_iff.1 h
    obtain ⟨e, -, rfl⟩ := Option.map_eq_some_iff.1 hx
    exact beq_self_eq_true _
  | retireEntry n =>
    obtain ⟨e, -, rfl⟩ := Option.map_eq_some_iff.1 h
    unfold State.retireWork
    split
    · exact beq_self_eq_true _
    · split <;> exact beq_self_eq_true _
  | _ =>
    obtain ⟨e, -, rfl⟩ := Option.map_eq_some_iff.1 h
    exact beq_self_eq_true _

theorem Batch.awaits_congr {b d : Batch} (locked : d.isLocked = b.isLocked) (tag : d.applyTag = b.applyTag) (p : Port) :
    d.awaits p = b.awaits p := by rw [Batch.awaits, locked, tag, Batch.awaits]

/-- The batch becomes PROMOTING only where it is locked already (R154). -/
theorem State.balanced_noteBegin (hs : s.books.balanced) {c : Commit} (hc : c ∈ s.commits.queue) :
    (s.noteBegin c.change).books.balanced := by
  unfold State.noteBegin
  split
  · rename_i promote
    obtain ⟨locked, fed⟩ := hs.feeds c hc promote
    exact hs.setBatch (Batch.awaits_congr (by rw [locked]; rfl) rfl) fun _ _ _ => ⟨rfl, fed⟩
  · exact hs

theorem Books.balanced.begins {b : Books} (h : b.balanced) {w : Work} {c : Commit} {rest : List Commit}
    (hq : b.commits.queue = c :: rest) (fits : w.fits c.change = true) :
    ({ b with commits := { b.commits with work := some w } } : Books).balanced :=
  { h with
    formed :=
      { origins := h.formed.origins
        work := fun v hv => by
          cases hv
          exact ⟨c, by rw [hq]; rfl, fits⟩
        places := h.formed.places
        promotes := h.formed.promotes } }

theorem State.noteBegin_commits (s : State) (c : Change) : (s.noteBegin c).commits = s.commits := by
  unfold State.noteBegin
  split <;> rfl

theorem State.balanced_beginCommit (hs : s.books.balanced) : s.beginCommit.books.balanced := by
  unfold State.beginCommit
  split
  · split
    · exact hs
    · rename_i c rest hq
      split
      · rename_i w hw
        have noted := State.balanced_noteBegin hs (c := c) (by rw [hq]; exact List.mem_cons_self)
        have same := s.noteBegin_commits c.change
        rw [← same]
        exact noted.begins (c := c) (rest := rest) (by rw [← hq, ← same]; rfl) (State.formWork_fits hw)
      · exact hs
  · exact hs

theorem State.balanced_admitClear (hs : s.books.balanced) : s.admitClear.books.balanced := by
  rcases s.admitClear_cases with h | ⟨n, free, -, h⟩
  · rwa [h]
  · rw [h, State.joinQueue_books _ fun _ => rfl]
    exact Books.balanced.joined (b := (s.leaveClearDue n).books) hs (Commit.formed_of_unawaited rfl fun _ _ _ h => by cases h)
      (State.admitsInternal_queue free) (fun h => by cases h) fun h => by cases h

theorem State.balanced_admitBatch (hs : s.books.balanced) : s.admitBatch.books.balanced := by
  rcases s.admitBatch_cases with h | ⟨c, d, free, -, offered, -, h⟩
  · rwa [h]
  · rw [h, State.joinQueue_books _ fun _ => rfl]
    exact hs.offered offered (State.admitsInternal_queue free)

end Sys2Proof.Machine
end

section
/-! Completions keep the books: the commit leaves the queue and its place is filled, or its scan or batch goes on
(R99, R102, R153, R155, R164 to R167). -/

namespace Sys2Proof.Machine

variable {s u : State} {c : Commit} {w : Work} {v : Verify}

/-! ### What is owed -/

/-- While the commit `c` has left the queue, its origin is one of its kind and is still to be told. -/
theorem Books.owes.commit {b : Books} (h : b.owes c) : c.formed := h.2.formed.origins c List.mem_cons_self

theorem State.balanced_report (h : u.books.owes c) (port : ∃ p k t, c.origin = .port p k t) (status : Status)
    (payload : List Byte) : (u.report c.origin status payload).books.balanced := by
  obtain ⟨p, k, t, origin⟩ := port
  rw [origin, State.report, State.fillReserved_books]
  exact h.reported origin

/-- A count that a completion raises by one entry, whatever the scan's state (R164 to R166). -/
def tallying (count : Scan → Scan) : Prop := ∀ y : Scan, y.tallies (count y)

/-- The scan hears of its commit's end, and ends itself where that was the last one of a DRAINING scan (R164 to R167). -/
theorem State.balanced_scanCompletion (h : u.books.owes c) (origin : c.origin = .scan) {count : Scan → Scan}
    (counts : tallying count)
    (rehomed : (count { u.scan with inFlight := u.scan.inFlight - 1 }).rehomed + rehomesIn u.commits.queue ≤
      u.scan.rehomed + rehomesIn (c :: u.commits.queue)) : (u.scanCompletion count).books.balanced := by
  obtain ⟨scanning, -⟩ := h.scanning origin
  have counted := counts { u.scan with inFlight := u.scan.inFlight - 1 }
  have state : (count { u.scan with inFlight := u.scan.inFlight - 1 }).state = u.scan.state := counted.state
  unfold State.scanCompletion
  dsimp only
  split
  · rename_i last
    rw [State.endScan_books]
    exact (h.tallied origin counted rehomed (state := .running) nofun nofun).endsScan nofun last.2
  · rename_i more
    refine h.tallied origin counted rehomed (state := (count { u.scan with inFlight := u.scan.inFlight - 1 }).state) ?_
      fun draining => ?_
    · rw [state]; exact scanning
    · exact Nat.pos_of_ne_zero fun none => more ⟨draining, none⟩

/-- The end of a RETIRE or MOVE answers its port or its scan (R134, R136, R164, R165). -/
theorem State.balanced_told (h : u.books.owes c) (asked : c.origin = .scan ∨ ∃ p k t, c.origin = .port p k t)
    {count : Scan → Scan} (counts : tallying count)
    (rehomed : c.origin = .scan → (count { u.scan with inFlight := u.scan.inFlight - 1 }).rehomed ≤
      u.scan.rehomed + (if c.rehomes = true then 1 else 0)) (status : Status) (payload : List Byte) :
    ((u.report c.origin status payload).tellScan c.origin count).books.balanced := by
  rcases asked with origin | port
  · have most := rehomed origin
    rw [origin]
    refine State.balanced_scanCompletion h origin counts ?_
    rw [rehomesIn, rehomesIn, List.countP_cons]
    omega
  · have reported := State.balanced_report h port status payload
    obtain ⟨p, k, t, origin⟩ := port
    rw [origin] at reported ⊢
    exact reported

/-! ### Each kind of commit -/

theorem settlementEffect_balanced (h : u.books.owes c) (hk : c.change.isSettlement = true)
    (fits : c.change.workShape w) : (settlementEffect c w v u).books.balanced := by
  cases hc : c.change with
  | settleHold n place k =>
    have port : ∃ p k t, c.origin = .port p k t := by simpa [Commit.originFits, hc] using h.commit.1
    rw [hc] at fits
    obtain ⟨x, rfl⟩ := fits
    unfold settlementEffect
    rw [hc]
    cases v with
    | ok => exact State.balanced_report (by simpa using h) port _ _
    | fault =>
      dsimp only [State.settleFault]
      split
      · split <;> exact State.balanced_report (by simpa using h) port _ _
      · exact State.balanced_report (by simpa using h) port _ _
  | _ => rw [hc] at hk; cases hk

/-- The commits of Insert, Modify, Top Up, Bar and Unbar come from a port, and each writes one image (Table 6-1, R108). -/
theorem Commit.asked_by_port (fits : c.originFits) (shape : c.change.workShape w) (hk : c.change.isInsertion = true ∨
    c.change.isModification = true ∨ c.change.isTopUp = true ∨ c.change.isBar = true) :
    (∃ p k t, c.origin = .port p k t) ∧ ∃ n x, w = .writeImage n x := by
  obtain ⟨change, origin⟩ := c
  cases change with
  | insertEntry n e => exact ⟨fits, n, shape⟩
  | modifyEntry n f => exact ⟨fits, n, shape⟩
  | topUpEntry n a => exact ⟨fits, n, shape⟩
  | setEntryState n x => exact ⟨fits, n, shape⟩
  | _ => rcases hk with hk | hk | hk | hk <;> cases hk

theorem insertEffect_balanced (h : u.books.owes c) (hk : c.change.isInsertion = true) (fits : c.change.workShape w) :
    (insertEffect c w v u).books.balanced := by
  obtain ⟨port, n, x, rfl⟩ := Commit.asked_by_port h.commit.1 fits (.inl hk)
  cases v with
  | ok => exact State.balanced_report (by simpa using h) port _ _
  | fault => exact State.balanced_report (by simpa using h) port _ _

theorem modifyEffect_balanced (h : u.books.owes c) (hk : c.change.isModification = true) (fits : c.change.workShape w) :
    (modifyEffect c w v u).books.balanced := by
  obtain ⟨port, n, x, rfl⟩ := Commit.asked_by_port h.commit.1 fits (.inr (.inl hk))
  cases v with
  | ok => exact State.balanced_report (by simpa using h) port _ _
  | fault => exact State.balanced_report (by simpa using h) port _ _

theorem topUpEffect_balanced (h : u.books.owes c) (hk : c.change.isTopUp = true) (fits : c.change.workShape w) :
    (topUpEffect c w v u).books.balanced := by
  obtain ⟨port, n, x, rfl⟩ := Commit.asked_by_port h.commit.1 fits (.inr (.inr (.inl hk)))
  cases v with
  | ok => exact State.balanced_report (by simpa using h) port _ _
  | fault => exact State.balanced_report (by simpa using h) port _ _

theorem barEffect_balanced (h : u.books.owes c) (hk : c.change.isBar = true) (fits : c.change.workShape w) :
    (barEffect c w v u).books.balanced := by
  obtain ⟨port, n, x, rfl⟩ := Commit.asked_by_port h.commit.1 fits (.inr (.inr (.inr hk)))
  cases v with
  | ok => exact State.balanced_report (by simpa using h) port _ _
  | fault => exact State.balanced_report (by simpa using h) port _ _

theorem classEffect_balanced (h : u.books.owes c) (hk : c.change.isClassWrite = true) (fits : c.change.workShape w) :
    (classEffect c w v u).books.balanced := by
  cases hc : c.change with
  | writeClass n x =>
    have port : ∃ p k t, c.origin = .port p k t := by simpa [Commit.originFits, hc] using h.commit.1
    rw [hc] at fits
    obtain ⟨k, y, rfl⟩ := fits
    cases v with
    | ok => exact State.balanced_report h port _ _
    | fault => exact State.balanced_report h port _ _
  | _ => rw [hc] at hk; cases hk

theorem retireEffect_balanced (h : u.books.owes c) (hk : c.change.isRetire = true) (fits : c.change.workShape w) :
    (retireEffect c w v u).books.balanced := by
  cases hc : c.change with
  | retireEntry n =>
    have asked : c.origin = .scan ∨ ∃ p k t, c.origin = .port p k t := by simpa [Commit.originFits, hc] using h.commit.1
    rw [hc] at fits
    rcases fits with ⟨x, rfl⟩ | rfl | rfl
    · cases v with
      | ok => exact State.balanced_told (by simpa using h) asked Scan.tallies_countMarked (fun _ => Nat.le_add_right _ _) _ _
      | fault => exact State.balanced_told (by simpa using h) asked Scan.tallies_countSkipped (fun _ => Nat.le_add_right _ _) _ _
    · exact State.balanced_told (by simpa using h) asked Scan.tallies_countRetired (fun _ => Nat.le_add_right _ _) _ _
    · exact State.balanced_told (by simpa using h) asked Scan.tallies_countMarked (fun _ => Nat.le_add_right _ _) _ _
  | _ => rw [hc] at hk; cases hk

/-- The end of a rehoming MOVE raises the count of rehomed entries by the one that was queued (R165). -/
theorem Scan.rehomed_countRehomed {y : Scan} {k a b : Nat} (hc : c.change = .moveEntry a b) (origin : c.origin = .scan) :
    (Scan.countRehomed { y with inFlight := k }).rehomed ≤ y.rehomed + (if c.rehomes = true then 1 else 0) := by
  rw [if_pos (by simp [Commit.rehomes, origin, hc])]
  exact Nat.le_refl _

theorem moveEffect_balanced (h : u.books.owes c) (hk : c.change.isMove = true) (fits : c.change.workShape w) :
    (moveEffect c w v u).books.balanced := by
  cases hc : c.change with
  | moveEntry a b =>
    have asked : c.origin = .scan ∨ ∃ p k t, c.origin = .port p k t := by simpa [Commit.originFits, hc] using h.commit.1
    rw [hc] at fits
    obtain ⟨x, rfl⟩ := fits
    cases v with
    | ok =>
      have moved : (u.moveEntry a b x).books.owes c := by rwa [State.moveEntry_books]
      exact State.balanced_told moved asked Scan.tallies_countRehomed (Scan.rehomed_countRehomed hc) _ _
    | fault => exact State.balanced_told (by simpa using h) asked Scan.tallies_countSkipped (fun _ => Nat.le_add_right _ _) _ _
  | _ => rw [hc] at hk; cases hk

theorem clearEffect_balanced (h : u.books.owes c) (hk : c.change.isClear = true) (fits : c.change.workShape w) :
    (clearEffect c w v u).books.balanced := by
  cases hc : c.change with
  | clearEntry n =>
    have origin : c.origin = .clearDue := by simpa [Commit.originFits, hc] using h.commit.1
    rw [hc] at fits
    have same : (clearEffect c (.clear n) v u).books = u.books := State.clearSlot_books u n
    rw [show w = .clear n from fits, same]
    exact h.silent (.inl origin)
  | _ => rw [hc] at hk; cases hk

/-! ### The batch's commits -/

/-- The queue without the batch's commits (R153). -/
def withoutBatch (q : List Commit) : List Commit := q.filter fun c => !(decide (c.origin = .batch))

theorem commitsAwait_withoutBatch (q : List Commit) (p : Port) : commitsAwait (withoutBatch q) p = commitsAwait q p := by
  unfold withoutBatch commitsAwait
  rw [List.filterMap_filter]
  refine List.filterMap_congr fun c _ => ?_
  cases c.origin <;> simp [Origin.awaits]

theorem scansIn_withoutBatch (q : List Commit) : scansIn (withoutBatch q) = scansIn q := by
  unfold withoutBatch scansIn
  rw [List.countP_filter]
  refine List.countP_congr fun c _ => ?_
  cases c.origin <;> simp

theorem State.balanced_abandonBatch (h : u.books.owes c) (origin : c.origin = .batch) (index slot : Nat) :
    (u.abandonBatch index slot).books.balanced := by
  have released : ∀ l : List Nat, (l.foldl State.releaseSlot (u.removeBatchCommits.wearSlot slot)).books =
      { u.books with commits := ⟨withoutBatch u.commits.queue, u.commits.work⟩ } := fun l =>
    State.foldl_books State.releaseSlot_books l _
  unfold State.abandonBatch
  dsimp only
  rw [State.fillReserved_books, State.setBatch_books, released]
  refine h.closesBatch origin rfl List.filter_sublist (fun x hx promote => ?_) (scansIn_withoutBatch _)
    (commitsAwait_withoutBatch _)
  obtain ⟨mem, other⟩ := List.mem_filter.1 hx
  have fits := (h.formed.origins x mem).1
  rw [Commit.originFits, promote] at fits
  simp [fits] at other

theorem stageEffect_balanced (h : u.books.owes c) (hk : c.change.isStageWrite = true) :
    (stageEffect c w v u).books.balanced := by
  cases hc : c.change with
  | stageItem i n =>
    have origin : c.origin = .batch := by simpa [Commit.originFits, hc] using h.commit.1
    unfold stageEffect
    rw [hc]
    cases v with
    | ok =>
      have silent := h.silent (.inr origin)
      exact silent.setBatch (fun _ => rfl) silent.feeds
    | fault => exact State.balanced_abandonBatch h origin i n
  | _ => rw [hc] at hk; cases hk

/-- With its PROMOTE ended the batch has no other queued (R151). -/
theorem Books.owes.no_promote {b : Books} (h : b.owes c) (hc : c.change = .promoteBatch) :
    ∀ x ∈ b.commits.queue, x.change ≠ .promoteBatch := by
  have once : promotesIn (c :: b.commits.queue) ≤ 1 := h.2.formed.promotes
  rw [promotesIn, List.countP_cons_of_pos (by simp [hc])] at once
  have none := List.countP_eq_zero.1 (Nat.le_zero.1 (Nat.le_of_succ_le_succ once))
  exact fun x hx => by simpa using none x hx

theorem promoteEffect_balanced (h : u.books.owes c) (hk : c.change.isPromote = true) (fits : c.change.workShape w) :
    (promoteEffect c w v u).books.balanced := by
  cases hc : c.change with
  | promoteBatch =>
    have origin : c.origin = .batch := by simpa [Commit.originFits, hc] using h.commit.1
    rw [hc] at fits
    obtain ⟨ups, rfl⟩ := fits
    dsimp only [promoteEffect, State.applyPromotion]
    rw [State.fillReserved_books, State.setBatch_books, State.foldl_books State.promoteItem_books]
    exact h.closesBatch origin (q := u.commits.queue) rfl (List.Sublist.refl _) (h.no_promote hc) rfl fun _ => rfl
  | _ => rw [hc] at hk; cases hk

/-! ### The completion event -/

theorem Books.balanced.idles {b : Books} (h : b.balanced) :
    ({ b with commits := ⟨b.commits.queue, none⟩ } : Books).balanced :=
  { h with formed := h.formed.drop (List.Sublist.refl _) }

/-- A completion keeps the books where its effect answers its origin (R102, R116). -/
theorem State.accounted_complete (hs : s.accounted) {isKind : Change → Bool}
    {effect : Commit → Work → Verify → State → State}
    (h : ∀ c w v u, u.books.owes c → isKind c.change = true → c.change.workShape w → (effect c w v u).books.balanced) :
    (s.complete isKind v effect).accounted := by
  rcases State.complete_cases isKind v effect (s := s) with same | ⟨c, rest, w, hc, hk, done⟩
  · rwa [same]
  · obtain ⟨formed, within, balanced, cleared⟩ := State.accounted_iff.1 hs
    have tail : rest.Sublist s.commits.queue := by rw [hc]; exact List.sublist_cons_self c rest
    rw [done]
    split
    · rename_i hp
      have fits : w.fits c.change = true := by
        obtain ⟨x, head, fits⟩ := formed.work w (by rw [hc])
        rw [hc] at head
        cases head
        exact fits
      have idle := (balanced hp).idles
      rw [show s.books.commits.queue = c :: rest from congrArg CommitUnit.queue hc] at idle
      have owed : (s.ended rest (w.complete v s.store)).books.owes c := ⟨rfl, idle⟩
      exact State.accounted_of_balanced (h c w _ _ owed hk (Work.shape_of_fits fits))
    · rename_i hp
      exact State.accounted_of_closed hp (formed.drop tail) (within.fewer tail.countP_le) (cleared hp)

end Sys2Proof.Machine
end

section
/-! Start-ups empty the books, and from all this O60 (R116, R118, R188). -/

namespace Sys2Proof.Machine

variable {s t : State}

/-! ### Start-ups (R116, R188) -/

theorem PortState.cleared_atStartUp (x : PortState) : x.atStartUp.cleared := ⟨rfl, rfl, rfl⟩

theorem State.cleared_beginStartUp (s : State) (p : Port) : (s.beginStartUp.port p).cleared := by
  cases p <;> exact PortState.cleared_atStartUp _

theorem rehomesIn_atStartUp (u : CommitUnit) : rehomesIn u.atStartUp.queue ≤ rehomesIn u.queue := by
  unfold CommitUnit.atStartUp
  split
  · exact (List.take_sublist 1 _).countP_le
  · exact Nat.zero_le _

/-- A start-up keeps the commit in progress alone, and empties the ports (R116, R188). -/
theorem State.accounted.startsUp (hs : s.accounted) (hp : t.phase ≠ .running) (hc : t.commits = s.commits.atStartUp)
    (hx : t.scan = s.scan) (ports : ∀ p, (t.port p).cleared) : t.accounted := by
  obtain ⟨formed, within, -, -⟩ := State.accounted_iff.1 hs
  refine State.accounted_of_closed hp (hc ▸ formed.atStartUp) ?_ ports
  rw [hc, hx]
  exact within.fewer (rehomesIn_atStartUp _)

theorem State.accounted.beginStartUp (hs : s.accounted) : s.beginStartUp.accounted :=
  hs.startsUp nofun rfl rfl s.cleared_beginStartUp

/-- Intake is closed before and after, and neither commits nor scan nor empty ports change. -/
theorem State.accounted.rests (hs : s.accounted) (hp : s.phase ≠ .running) (hp' : t.phase ≠ .running)
    (hc : t.commits = s.commits) (hx : t.scan = s.scan) (ports : ∀ p, (s.port p).cleared → (t.port p).cleared) :
    t.accounted := by
  obtain ⟨formed, within, -, cleared⟩ := State.accounted_iff.1 hs
  refine State.accounted_of_closed hp' (hc ▸ formed) ?_ fun p => ports p (cleared hp p)
  rw [hc, hx]
  exact within

theorem State.accounted.resetFall (hs : s.accounted) (raised : Bool) : (s.resetFall raised).accounted := by
  have began : ∀ st : Store, ({ s.beginStartUp with resetLow := true, store := st } : State).accounted := fun st =>
    hs.startsUp nofun rfl rfl fun p => by cases p <;> exact PortState.cleared_atStartUp _
  unfold State.resetFall
  split
  · exact hs
  · split
    · rename_i hp
      exact hs.rests (by rw [hp]; nofun) (by dsimp only; rw [hp]; nofun) rfl rfl fun p => by cases p <;> exact id
    · exact began _
    · split <;> exact began _
    · exact began _

theorem State.accounted_unpowered (s : State) (st : Store) : (s.unpowered st).accounted :=
  State.accounted_of_closed nofun CommitUnit.formed_empty Scan.within_idle fun p => by
    cases p <;> exact PortState.cleared_atStartUp _

/-- The books of a machine in which nothing is queued, locked, scanning or waited for. -/
theorem Books.balanced_empty : Books.balanced ⟨.running, ⟨[], none⟩, emptyBatch, idleScan, fun _ => []⟩ where
  phase := rfl
  formed := CommitUnit.formed_empty
  within := Scan.within_idle
  agrees := ⟨rfl, fun _ => rfl, nofun⟩
  feeds _ hc := absurd hc List.not_mem_nil
  reserved p := by cases p <;> exact List.Perm.refl _

theorem State.accounted.completeRestore (hs : s.accounted) (hp : s.phase ≠ .running) : s.completeRestore.accounted := by
  obtain ⟨-, -, -, cleared⟩ := State.accounted_iff.1 hs
  have reserved : ∀ p, (s.port p).reserved = [] := fun p => (cleared hp p).2.2
  have books : s.completeRestore.books = ⟨.running, ⟨[], none⟩, emptyBatch, idleScan, fun _ => []⟩ := by
    unfold State.completeRestore
    rw [State.buildTable_frame]
    simp only [State.books, Books.mk.injEq, true_and]
    funext p
    cases p
    · exact reserved .mp
    · exact reserved .tp0
    · exact reserved .tp1
  exact State.accounted_of_balanced (books ▸ Books.balanced_empty)

/-! ### Every command -/

/-- A request that is not taken leaves the machine as it is; one that is taken keeps the books, or begins a start-up (R180). -/
theorem exec_accounted_of_taken {c : Instr} (hs : s.books.balanced) (taken : takenBy c ≠ none) (h : exec c s = .next t) :
    t.accounted := by
  by_cases hr : c = .reset
  · subst hr
    cases h
    rcases State.take_cases .mp .reset (fun _ t => t.beginStartUp) (s := s) with same | ⟨r, -, took⟩
    · rw [same]; exact State.accounted_of_balanced hs
    · rw [took]
      exact State.accounted.beginStartUp (State.accounted_of_balanced (by rwa [State.dequeue_books]))
  · refine State.accounted_of_balanced ?_
    cases c with
    | present p => cases h; exact State.balanced_take hs fun r u hu _ => (takePresent_answers u p r).balanced hu
    | draw p => cases h; exact State.balanced_take hs fun _ _ hu _ => takeDraw_balanced hu
    | extend p => cases h; exact State.balanced_take hs fun _ _ hu _ => takeExtend_balanced hu
    | settle p => cases h; exact State.balanced_take hs fun _ _ hu room => takeSettle_balanced hu (room rfl)
    | release p =>
      cases h
      exact State.balanced_take hs fun r u hu _ => (takeRelease_cases u p r).elim (·.balanced hu) (·.balanced hu)
    | forceRelease =>
      cases h
      exact State.balanced_take hs fun r u hu _ => (takeForceRelease_cases u r).elim (·.balanced hu) (·.balanced hu)
    | queryHold p => cases h; exact State.balanced_take hs fun r u hu _ => (takeQueryHold_answers u p r).balanced hu
    | listHolds => cases h; exact State.balanced_take hs fun r u hu _ => (takeListHolds_answers u r).balanced hu
    | readTime p => cases h; exact State.balanced_take hs fun r u hu _ => (u.answersTo_answer _ _ _ _).balanced hu
    | readIdentity p => cases h; exact State.balanced_take hs fun r u hu _ => (u.answersTo_answer _ _ _ _).balanced hu
    | status => cases h; exact State.balanced_take hs fun r u hu _ => (u.answersTo_answer _ _ _ _).balanced hu
    | setTime => cases h; exact State.balanced_take hs fun _ _ hu _ => takeSetTime_balanced hu
    | setClass => cases h; exact State.balanced_take hs fun _ _ hu room => takeSetClass_balanced hu (room rfl)
    | readClass => cases h; exact State.balanced_take hs fun r u hu _ => (takeReadClass_answers u r).balanced hu
    | insert => cases h; exact State.balanced_take hs fun _ _ hu room => takeChange_balanced hu (room rfl)
    | modify => cases h; exact State.balanced_take hs fun _ _ hu room => takeChange_balanced hu (room rfl)
    | topUp => cases h; exact State.balanced_take hs fun _ _ hu room => takeChange_balanced hu (room rfl)
    | bar => cases h; exact State.balanced_take hs fun _ _ hu room => takeChange_balanced hu (room rfl)
    | unbar => cases h; exact State.balanced_take hs fun _ _ hu room => takeChange_balanced hu (room rfl)
    | retire => cases h; exact State.balanced_take hs fun _ _ hu room => takeChange_balanced hu (room rfl)
    | relocate => cases h; exact State.balanced_take hs fun _ _ hu room => takeRelocate_balanced hu (room rfl)
    | readEntry => cases h; exact State.balanced_take hs fun r u hu _ => (takeReadEntry_answers u r).balanced hu
    | stage => cases h; exact State.balanced_take hs fun _ _ hu _ => takeStage_balanced hu
    | discard => cases h; exact State.balanced_take hs fun _ _ hu _ => takeDiscard_balanced hu
    | readBatch => cases h; exact State.balanced_take hs fun r u hu _ => (u.answersTo_answer _ _ _ _).balanced hu
    | apply => cases h; exact State.balanced_take hs fun _ _ hu _ => takeApply_balanced hu
    | startScan => cases h; exact State.balanced_take hs fun _ _ hu _ => takeStartScan_balanced hu
    | suspendScan => cases h; exact State.balanced_take hs fun _ _ hu _ => takeSuspendScan_balanced hu
    | resumeScan => cases h; exact State.balanced_take hs fun _ _ hu _ => takeResumeScan_balanced hu
    | abortScan => cases h; exact State.balanced_take hs fun _ _ hu _ => takeAbortScan_balanced hu
    | reset => exact absurd rfl hr
    | _ => exact absurd rfl taken

/-- A command that neither takes a request nor writes the store keeps the books while intake is open. -/
theorem exec_accounted_of_event {c : Instr} (hs : s.books.balanced) (taken : takenBy c = none) (hw : writesStore c = false)
    (h : exec c s = .next t) : t.accounted := by
  refine State.accounted_of_balanced ?_
  have running : s.phase = .running := hs.phase
  have neither : ((takenBy c).isSome || writesStore c) = false := by rw [taken, hw]; rfl
  cases c with
  | request p x => cases h; rwa [State.exchange_books]
  | fetch p x => cases h; rwa [State.exchange_books]
  | portStatus p x => cases h; rwa [State.exchange_books]
  | scanStep => cases h; exact State.balanced_scanStep hs
  | secondEvent => cases h; rwa [State.secondEvent_books]
  | holdExpiry n =>
    cases h
    change (if s.phase = .running then s.expire n else s).books.balanced
    rwa [if_pos running, State.expire_books]
  | commitBegin => cases h; exact State.balanced_beginCommit hs
  | clearDueAdmission => cases h; exact State.balanced_admitClear hs
  | batchCommitAdmission => cases h; exact State.balanced_admitBatch hs
  | powerOn =>
    cases h
    rwa [if_neg (by rw [running]; nofun)]
  | resetNRelease => cases h; exact hs
  | chgInhChange b => cases h; exact hs
  | tbclkPeriod =>
    cases h
    rw [if_pos running]
    exact hs
  | _ => cases neither

/-- A command that writes the store is a completion, or belongs to a start-up. -/
theorem exec_accounted_of_write {c : Instr} (hs : s.accounted) (hw : writesStore c = true) (h : exec c s = .next t) :
    t.accounted := by
  cases c with
  | settlementCompletion v => cases h; exact State.accounted_complete hs fun _ _ _ _ => settlementEffect_balanced
  | insertCompletion v => cases h; exact State.accounted_complete hs fun _ _ _ _ => insertEffect_balanced
  | modifyCompletion v => cases h; exact State.accounted_complete hs fun _ _ _ _ => modifyEffect_balanced
  | topUpCompletion v => cases h; exact State.accounted_complete hs fun _ _ _ _ => topUpEffect_balanced
  | barCompletion v => cases h; exact State.accounted_complete hs fun _ _ _ _ => barEffect_balanced
  | retireCompletion v => cases h; exact State.accounted_complete hs fun _ _ _ _ => retireEffect_balanced
  | slotClearCompletion => cases h; exact State.accounted_complete hs fun _ _ _ _ => clearEffect_balanced
  | moveCompletion v => cases h; exact State.accounted_complete hs fun _ _ _ _ => moveEffect_balanced
  | classWriteCompletion v => cases h; exact State.accounted_complete hs fun _ _ _ _ => classEffect_balanced
  | stageWriteCompletion v =>
    cases h
    exact State.accounted_complete hs fun _ _ _ _ owed kind _ => stageEffect_balanced owed kind
  | promoteCompletion => cases h; exact State.accounted_complete hs fun _ _ _ _ => promoteEffect_balanced
  | powerLoss cut =>
    cases h
    split
    · exact hs
    · exact State.accounted_unpowered s _
  | resetNFall raised => cases h; exact hs.resetFall raised
  | startUpRestore =>
    cases h
    split
    · rename_i ready
      exact hs.rests (by rw [ready.1]; nofun) nofun rfl rfl fun p => by cases p <;> exact id
    · exact hs
  | restoreComplete =>
    cases h
    split
    · rename_i ready
      exact hs.completeRestore (by rw [ready.1]; nofun)
    · exact hs
  | _ => cases hw

theorem exec_accounted (c : Instr) (hs : s.accounted) (h : exec c s = .next t) : t.accounted := by
  by_cases hw : writesStore c = true
  · exact exec_accounted_of_write hs hw h
  · have keeps : writesStore c = false := Bool.eq_false_iff.2 hw
    by_cases hp : s.phase = .running
    · have balanced := hs.balanced hp
      by_cases taken : takenBy c = none
      · exact exec_accounted_of_event balanced taken keeps h
      · exact exec_accounted_of_taken balanced taken h
    · obtain ⟨u, hu, waits⟩ := exec_waits keeps hp
      cases hu.symm.trans h
      exact hs.rests hp (waits.closed hp) waits.commits waits.scan waits.queues

/-- Settles O60: the books are kept by every command, by accounts: the queue, the scan's counts, the batch's PROMOTE, and the
places that each port waits for. -/
theorem stepKeepsTheBooks : Obligations.StepKeepsTheBooks := by
  intro s t hs h
  unfold step at h
  split at h
  · cases h; exact hs
  · rename_i c rest _
    exact exec_accounted (s := { s with pending := rest }) c hs h

end Sys2Proof.Machine
end

section
/-! The commit unit: what a commit begins with (O27), and whom its end tells (O29). -/

namespace Sys2Proof.Machine

variable {s : State} {c : Commit} {rest : List Commit} {w : Work}

/-! ### The beginning of a commit (R91, R92, R102, R108, R111, R112, R114, R152) -/

/-- The head of the queue begins with the work formed now (R102). -/
theorem exec_commitBegin_of_formed (hp : s.phase = .running) (hw : s.commits.work = none) (hq : s.commits.queue = c :: rest)
    (formed : s.formWork c.change = some w) :
    exec .commitBegin s = .next { s.noteBegin c.change with commits := { s.commits with work := some w } } := by
  refine congrArg Host.Outcome.next ?_
  rw [State.beginCommit, if_pos ⟨hp, hw⟩, hq]
  dsimp only
  rw [formed]

/-- Any commit but a PROMOTE begins without the batch's notice. -/
theorem exec_commitBegin_of_plain (hp : s.phase = .running) (hw : s.commits.work = none) (hq : s.commits.queue = c :: rest)
    (formed : s.formWork c.change = some w) (plain : c.change ≠ .promoteBatch) :
    exec .commitBegin s = .next { s with commits := { s.commits with work := some w } } := by
  rw [exec_commitBegin_of_formed hp hw hq formed, State.noteBegin, if_neg plain]

/-- What a commit on an entry begins with is formed from the entry as it stands. -/
theorem State.map_of_entry {n : Nat} {e : Entry} (he : s.entryAt n = some e) {α : Type} (f : Entry → α) :
    (s.entryAt n).map f = some (f e) := by rw [he]; rfl

/-- The image that a MOVE carries says RETIRING for a retire mark (R112). -/
theorem State.entryState_of_mark (s : State) (n : Nat) (e : Entry) :
    s.entryState n e = if (s.slot n).retireMark = true then .retiring else e.state := by
  unfold State.entryState
  by_cases mark : (s.slot n).retireMark = true
  · rw [if_pos mark, if_pos (State.isRetiring_iff.2 (.inr mark))]
  · rw [if_neg mark]
    split
    · rename_i retiring
      exact ((State.isRetiring_iff.1 retiring).resolve_right mark).symm
    · rfl

/-- The state that a settlement writes (R92). -/
theorem State.settledState_eq (s : State) (n : Nat) (e : Entry) (balance : Option Nat) : s.settledState n e balance =
    if e.state = .retiring ∨ (s.slot n).retireMark = true then .retiring
    else if balance = some 0 ∧ (s.classOf e.cls).retireOnExhaustion = true then .retiring
    else e.state := by
  rw [State.settledState, if_congr State.isRetiring_iff rfl rfl]

/-- A PROMOTE begins: the batch is PROMOTING, and each item has its promotion (R114, R154). -/
theorem exec_commitBegin_of_promote (hp : s.phase = .running) (hw : s.commits.work = none) {o : Origin}
    (hq : s.commits.queue = ⟨.promoteBatch, o⟩ :: rest) {ups : List (Nat × Promotion)}
    (h : s.batch.recorded.map s.promotionOf = ups) : exec .commitBegin s = .next { s with
      batch := { s.batch with state := .promoting }, commits := { s.commits with work := some (.promote ups) } } := by
  rw [exec_commitBegin_of_formed hp hw hq rfl, h]
  rfl

/-- Settles O27: the work of each kind of commit is formed from the state in which it begins. -/
theorem commitBeginFormsTheImage : Obligations.CommitBeginFormsTheImage := by
  intro s o rest hp hw
  refine ⟨fun n e hq => ?insert, fun n f e hq he => ?modify, fun n amount e hq he => ?topUp, fun n x e hq he => ?state,
    fun n place u e hq he => ?settle, fun n e hq he => ?retire, fun n hq => ?clear, fun a b e hq he => ?move,
    fun c x hq => ?cls, fun i n e hq hi => ?stageInsert, fun i n e x hq he hi other => ?stage, fun hq => ?promote⟩
  case insert => exact exec_commitBegin_of_plain hp hw hq rfl nofun
  case modify =>
    have formed : s.formWork (.modifyEntry n f) = some (.writeImage n (e.modified f)) := State.map_of_entry he _
    exact exec_commitBegin_of_plain hp hw hq formed nofun
  case topUp =>
    have formed : s.formWork (.topUpEntry n amount) = some (.writeImage n (e.toppedUp amount)) := State.map_of_entry he _
    exact exec_commitBegin_of_plain hp hw hq formed nofun
  case state =>
    have formed : s.formWork (.setEntryState n x) = some (.writeImage n (e.withState x)) := State.map_of_entry he _
    exact exec_commitBegin_of_plain hp hw hq formed nofun
  case settle =>
    have formed : s.formWork (.settleHold n place u) = some (.writeImage n (s.settledImage n u e)) := State.map_of_entry he _
    rw [exec_commitBegin_of_plain hp hw hq formed nofun, ← State.settledState_eq]
    rfl
  case retire =>
    have formed : s.formWork (.retireEntry n) = some (s.retireWork n e) := State.map_of_entry he _
    exact ⟨_, exec_commitBegin_of_plain hp hw hq formed nofun, rfl⟩
  case clear => exact exec_commitBegin_of_plain hp hw hq rfl nofun
  case move =>
    have formed : s.formWork (.moveEntry a b) = some (.moveImage a b { e with state := s.entryState a e }) :=
      State.map_of_entry he _
    rw [exec_commitBegin_of_plain hp hw hq formed nofun, ← State.entryState_of_mark]
  case cls => exact exec_commitBegin_of_plain hp hw hq rfl nofun
  case stageInsert => exact exec_commitBegin_of_plain hp hw hq (congrArg (Option.bind · _) hi) nofun
  case stage =>
    have begins : ∀ a, s.stagedImage n x = some a →
        exec .commitBegin s = .next { s with commits := { s.commits with work := some (.writeStaged n a) } } := fun a ha =>
      exec_commitBegin_of_plain hp hw hq
        ((congrArg (Option.bind · _) hi).trans (congrArg (Option.map (Work.writeStaged n)) ha)) nofun
    have stages : ∀ f : Entry → Entry, s.stagedImage n x = (s.entryAt n).map f →
        exec .commitBegin s = .next { s with commits := { s.commits with work := some (.writeStaged n (f e)) } } :=
      fun f h => begins _ (h.trans (State.map_of_entry he f))
    cases x with
    | insert => cases other
    | modify id y f =>
      exact ⟨e.modified f, stages (·.modified f) rfl, rfl, rfl, fun _ _ _ h => by cases h; rfl, nofun, nofun, nofun, nofun⟩
    | topUp id v =>
      exact ⟨e.toppedUp v, stages (·.toppedUp v) rfl, rfl, rfl, fun _ _ _ h => (by cases h), fun _ _ h => by cases h; rfl,
        nofun, nofun, nofun⟩
    | bar id y =>
      exact ⟨e.withState .barred, stages (·.withState .barred) rfl, rfl, rfl, fun _ _ _ h => (by cases h), nofun,
        fun _ _ _ => rfl, nofun, nofun⟩
    | unbar id y =>
      exact ⟨e.withState .active, stages (·.withState .active) rfl, rfl, rfl, fun _ _ _ h => (by cases h), nofun, nofun,
        fun _ _ _ => rfl, nofun⟩
    | retire id y =>
      exact ⟨e.withState .retiring, stages (·.withState .retiring) rfl, rfl, rfl, fun _ _ _ h => (by cases h), nofun, nofun,
        nofun, fun _ _ _ => rfl⟩
  case promote =>
    refine exec_commitBegin_of_promote hp hw hq (List.map_congr_left fun x _ => ?_)
    obtain ⟨item, record⟩ := x
    cases item <;> rfl

/-! ### The end of a commit (R99, R164, R165, R167, R170, R171, R181) -/

/-- Each count of a scan touches its own field alone (R164 to R166). -/
theorem Scan.counts_keep {count : Scan → Scan} (h : count = Scan.countRetired ∨ count = Scan.countMarked ∨
    count = Scan.countRehomed ∨ count = Scan.countSkipped) : ∀ y : Scan, (count y).state = y.state ∧
      (count y).inFlight = y.inFlight ∧ (count y).selection = y.selection ∧ (count y).cursor = y.cursor ∧
      (count y).startTag = y.startTag := by
  rcases h with rfl | rfl | rfl | rfl <;> exact fun y => ⟨rfl, rfl, rfl, rfl, rfl⟩

/-- Settles O29: the reserved place is filled, and the scan counts its commit and ends with the last one of a DRAINING one. -/
theorem completionsReportToTheirOrigin : Obligations.CompletionsReportToTheirOrigin := by
  refine ⟨fun s status payload => ⟨fun p k t mem => if_pos mem, rfl, rfl, rfl⟩, fun s count x counts hx => ?_⟩
  obtain ⟨state, flight, selection, cursor, tag⟩ := Scan.counts_keep counts { s.scan with inFlight := s.scan.inFlight - 1 }
  rw [← hx] at state flight selection cursor tag
  refine ⟨fun more => ?_, fun draining one => ?_, fun _ _ _ => rfl⟩
  · have goesOn : ¬ (x.state = .draining ∧ x.inFlight = 0) := by
      rw [state, flight]
      dsimp only
      rintro ⟨drains, none⟩
      rcases more with other | many
      · exact other drains
      · omega
    simp only [State.tellScan, State.scanCompletion, ← hx]
    rw [if_neg goesOn]
    rfl
  · have last : x.state = .draining ∧ x.inFlight = 0 := by
      rw [state, flight]
      exact ⟨draining, by dsimp only; omega⟩
    simp only [State.tellScan, State.scanCompletion, ← hx]
    rw [if_pos last, State.endScan]
    simp only [State.setScan, Scan.endStatus, Scan.notice, selection, cursor, tag]
    rfl

end Sys2Proof.Machine
end

section
/-! The completion of a RETIRE (O32) and of a MOVE (O34). -/

namespace Sys2Proof.Machine

variable {s t u : State} {c : Commit} {rest : List Commit} {w : Work}

/-! ### RETIRE (R111, R134) -/

theorem exec_retireCompletion (hp : s.phase = .running) {n : Nat} {o : Origin}
    (hc : s.commits = ⟨⟨.retireEntry n, o⟩ :: rest, some w⟩) (v : Verify) : exec (.retireCompletion v) s =
      .next (retireEffect ⟨.retireEntry n, o⟩ w (w.result v) (s.ended rest (w.complete v s.store))) :=
  congrArg Host.Outcome.next (State.complete_running hp hc Change.isRetire rfl v retireEffect)

/-- A RETIRING entry without holds joins the clear-due list (R111). -/
theorem State.settleRetiring_eq (s : State) (n : Nat) : s.settleRetiring n = { s with engine := { s.engine with
    clearDue := if s.openHolds n = 0 then insertRising n s.engine.clearDue else s.engine.clearDue } } := by
  unfold State.settleRetiring
  split <;> rfl

/-- An entry made RETIRING by a write of its slot, and clear due where it has no hold left (R111, R134). -/
theorem State.made_retiring (rest : List Commit) (st : Store) (n : Nat) (x : WorkingSlot)
    (ht : t = ((s.ended rest st).setSlot n x).settleRetiring n) :
    t.slot n = x ∧ (∀ m, m ≠ n → t.slot m = s.slot m) ∧
      t.engine.clearDue = (if s.openHolds n = 0 then insertRising n s.engine.clearDue else s.engine.clearDue) ∧
      t.store = st ∧ t = { s with
        commits := ⟨rest, none⟩, store := t.store
        engine := { s.engine with slots := t.engine.slots, clearDue := t.engine.clearDue } } := by
  rw [State.settleRetiring_eq] at ht
  subst ht
  refine ⟨State.slot_setSlot_self (s.ended rest st) n x, fun m hm => ?_, rfl, rfl, rfl⟩
  exact (State.slot_setSlot (s.ended rest st) n m x).trans (if_neg hm)

/-- Settles O32, by the work that was decided as the commit began. -/
theorem retireCompletes : Obligations.RetireCompletes := by
  intro s n e old o rest v hp he
  refine ⟨fun hc => ?clear, fun hc => ?mark, fun hc => ⟨?image, ?fault⟩⟩
  case clear =>
    have held : (s.ended rest (s.store.clear n)).entryAt n = some old := he
    refine ⟨(s.ended rest (s.store.clear n)).clearSlot n, exec_retireCompletion hp hc v, ?_, fun m hm => ?_, ?_,
      fun b hb => ?_, ?_, ?_⟩
    · rw [State.slot_clearSlot, if_pos rfl]; rfl
    · rw [State.slot_clearSlot, if_neg hm]; rfl
    · rw [State.spillCount_clearSlot held]
      simp only [inSpill_iff, and_true]
      rfl
    · rw [State.spillCount_clearSlot held, if_neg (fun h => hb h.2)]; rfl
    · rw [State.clearSlot_frame]; rfl
    · rw [State.clearSlot_frame]; rfl
  case mark =>
    refine ⟨_, (exec_retireCompletion hp hc v).trans ?_, State.made_retiring rest _ n { s.slot n with retireMark := true } rfl⟩
    have revision : (s.ended rest ((Work.mark n).complete v s.store)).revisionAt n = byte old.revision := by
      rw [State.revisionAt, show (s.ended rest _).entryAt n = some old from he]
      rfl
    rw [retireEffect, revision]
    rfl
  case image =>
    exact ⟨_, exec_retireCompletion hp hc .ok, State.made_retiring rest _ n { s.slot n with content := .occupied e } rfl⟩
  case fault => exact exec_retireCompletion hp hc .fault

/-! ### MOVE (R112, R113) -/

theorem exec_moveCompletion (hp : s.phase = .running) {a b : Nat} {o : Origin}
    (hc : s.commits = ⟨⟨.moveEntry a b, o⟩ :: rest, some w⟩) (v : Verify) : exec (.moveCompletion v) s =
      .next (moveEffect ⟨.moveEntry a b, o⟩ w (w.result v) (s.ended rest (w.complete v s.store))) :=
  congrArg Host.Outcome.next (State.complete_running hp hc Change.isMove rfl v moveEffect)

/-- `t` is `s` but for its hold table and for the table engine, whose pointer stays. -/
def State.rehouses (s t : State) : Prop :=
  t = { s with holds := t.holds, engine := { t.engine with pointer := s.engine.pointer } }

theorem State.rehouses.trans (h : s.rehouses t) (h' : t.rehouses u) : s.rehouses u := by
  refine Eq.trans h' ?_
  rw [h]

theorem State.rehouses_clearSlot (s : State) (n : Nat) : s.rehouses (s.clearSlot n) := by
  unfold State.rehouses
  rw [State.clearSlot_frame]

theorem State.rehouses_occupySlot (s : State) (n : Nat) (e : Entry) : s.rehouses (s.occupySlot n e) := by
  unfold State.rehouses State.occupySlot State.spillGain
  split <;> rfl

theorem State.rehouses_followMove (s : State) (a b q : Nat) : s.rehouses (State.followMove a b s q) := by
  unfold State.rehouses State.followMove
  split
  · split <;> rfl
  · rfl

theorem State.rehouses_moveClearDue (s : State) (a b : Nat) : s.rehouses (s.moveClearDue a b) := by
  unfold State.rehouses State.moveClearDue
  split <;> rfl

/-- A MOVE writes directory, spill counts, clear-due list and holds, and nothing else (R113). -/
theorem State.rehouses_moveEntry (s : State) (a b : Nat) (e : Entry) : s.rehouses (s.moveEntry a b e) := by
  have placed := (s.rehouses_clearSlot a).trans (State.rehouses_occupySlot _ b e)
  have followed : s.rehouses (((s.clearSlot a).occupySlot b e).moveHolds a b) :=
    foldl_keeps (P := s.rehouses) _ (fun u q _ hu => hu.trans (u.rehouses_followMove a b q)) _ placed
  exact followed.trans (State.rehouses_moveClearDue _ a b)

/-- A place whose hold follows a MOVE (R76). -/
def HoldPlace.follow (a b : Nat) (x : HoldPlace) : HoldPlace :=
  match x.live with
  | some h => if h.slot = a then { x with live := some { h with slot := b } } else x
  | none => x

theorem HoldPlace.follow_of_none {a b : Nat} {x : HoldPlace} (h : x.live = none) : x.follow a b = x := by
  simp [HoldPlace.follow, h]

theorem HoldPlace.follow_of_live {a b : Nat} {x : HoldPlace} {h : Hold} (hl : x.live = some h) :
    x.follow a b = if h.slot = a then { x with live := some { h with slot := b } } else x := by
  simp [HoldPlace.follow, hl]

theorem HoldPlace.follow_follow {a b : Nat} (hab : a ≠ b) (x : HoldPlace) : (x.follow a b).follow a b = x.follow a b := by
  cases hl : x.live with
  | none => rw [HoldPlace.follow_of_none hl, HoldPlace.follow_of_none hl]
  | some h =>
    rw [HoldPlace.follow_of_live hl]
    split
    · rw [HoldPlace.follow_of_live rfl]
      exact if_neg hab.symm
    · rename_i other
      rw [HoldPlace.follow_of_live hl, if_neg other]

theorem State.place_followMove (s : State) (a b q p : Nat) :
    (State.followMove a b s q).place p = if p = q then (s.place p).follow a b else s.place p := by
  unfold State.followMove
  cases hl : (s.place q).live with
  | none =>
    by_cases hp : p = q
    · rw [if_pos hp, hp, HoldPlace.follow_of_none hl]
    · rw [if_neg hp]
  | some h =>
    dsimp only
    split
    · rename_i ha
      rw [State.setHold, State.place_setPlace]
      by_cases hp : p = q
      · rw [if_pos hp, if_pos hp, hp, HoldPlace.follow_of_live hl, if_pos ha]
      · rw [if_neg hp, if_neg hp]
    · rename_i ha
      by_cases hp : p = q
      · rw [if_pos hp, hp, HoldPlace.follow_of_live hl, if_neg ha]
      · rw [if_neg hp]

theorem State.place_foldl_followMove {a b : Nat} (hab : a ≠ b) (l : List Nat) (s : State) (p : Nat) :
    (l.foldl (State.followMove a b) s).place p = if p ∈ l then (s.place p).follow a b else s.place p := by
  induction l generalizing s with
  | nil => simp
  | cons q l ih =>
    rw [List.foldl_cons, ih, State.place_followMove]
    by_cases hp : p = q
    · simp [hp, HoldPlace.follow_follow hab]
    · simp [hp]

/-- The holds of the source are on the target after a MOVE (R76). -/
theorem State.place_moveEntry (s : State) {a b : Nat} (hab : a ≠ b) (e : Entry) {p : Nat} (hp : p < Config.holdPlaces) :
    (s.moveEntry a b e).place p = (s.place p).follow a b := by
  unfold State.moveEntry
  rw [State.moveClearDue_place]
  refine (State.place_foldl_followMove hab _ _ p).trans ?_
  rw [if_pos (List.mem_range.2 hp)]
  exact congrArg _ (State.place_congr (by rw [State.occupySlot_holds, State.clearSlot_holds]) p)

/-- The spill counts after a MOVE: one entry less at the source and one more at the target (R17). -/
theorem State.spillCount_moveEntry {a b : Nat} {old : Entry} (he : s.entryAt a = some old) (e : Entry) (x : Nat) :
    (s.moveEntry a b e).spillCount x = s.spillCount x - (if inSpill a = true ∧ x = homeBucket old.id then 1 else 0)
      + (if inSpill b = true ∧ x = homeBucket e.id then 1 else 0) := by
  have counts : (s.moveEntry a b e).spillCount x = ((s.clearSlot a).occupySlot b e).spillCount x := by
    unfold State.moveEntry State.spillCount
    rw [State.moveClearDue_spillCounts, State.moveHolds_engine]
  rw [counts, State.occupySlot, State.spillCount_spillGain, ← State.spillCount_clearSlot he]
  rfl

/-- What leaves a count and comes to it again makes up for itself. -/
theorem count_moved {n out back : Nat} (h : out ≤ n) : n - out + back + out = n + back := by omega

/-- The clear-due list after a MOVE: the target stands for the source (R106, R113). -/
theorem State.mem_clearDue_moved (s : State) (a b : Nat) (e : Entry) (m : Nat) :
    m ∈ (s.moveEntry a b e).engine.clearDue ↔
      if a ∈ s.engine.clearDue then (m ∈ s.engine.clearDue ∧ m ≠ a) ∨ m = b else m ∈ s.engine.clearDue := by
  have before : (((s.clearSlot a).occupySlot b e).moveHolds a b).engine.clearDue = s.engine.clearDue := by
    rw [State.moveHolds_engine, State.occupySlot_clearDue, State.clearSlot_clearDue]
  unfold State.moveEntry State.moveClearDue
  rw [before]
  by_cases ha : a ∈ s.engine.clearDue
  · simp [ha, State.leaveClearDue, State.joinClearDue, before, or_comm]
  · simp [ha, before]

/-- Settles O34: the three updates of a MOVE show as one in the store, and the working state follows. -/
theorem moveCompletes : Obligations.MoveCompletes := by
  intro s a b e old o rest hp hab he hid hb positive hc
  refine ⟨?_, exec_moveCompletion hp hc .fault⟩
  have hba : b ≠ a := Ne.symm hab
  have held : (s.ended rest ((Work.moveImage a b e).updates 3 s.store)).entryAt a = some old := he
  have durable := Work.slot_moved (st := s.store) hba e
  have slots := State.slot_moveEntry (s.ended rest ((Work.moveImage a b e).updates 3 s.store)) hba e
  have counts := State.spillCount_moveEntry (b := b) held e
  rw [hid] at counts
  simp only [inSpill_iff] at counts
  refine ⟨(s.ended rest ((Work.moveImage a b e).updates 3 s.store)).moveEntry a b e, exec_moveCompletion hp hc .ok, ?_, ?_,
    fun m hma hmb => ?_, ?_, fun x hx => ?_, fun n hn => ?_, State.mem_clearDue_moved _ a b e, ?_⟩
  · rw [slots, if_pos rfl]; rfl
  · rw [slots, if_neg hab, if_pos rfl]; rfl
  · rw [slots, if_neg hmb, if_neg hma]; rfl
  · have total := counts (homeBucket e.id)
    rw [show (s.ended rest _).spillCount (homeBucket e.id) = s.spillCount (homeBucket e.id) from rfl] at total
    simp only [and_true] at total
    rw [total]
    refine count_moved ?_
    split
    · rename_i spill
      exact positive spill.1 spill.2
    · exact Nat.zero_le _
  · rw [counts, if_neg (fun h => hx h.2), if_neg (fun h => hx h.2)]
    rfl
  · rw [State.place_moveEntry _ hab e hn]
    show (s.place n).follow a b = _
    cases hl : (s.place n).live with
    | none => exact HoldPlace.follow_of_none hl
    | some h => exact HoldPlace.follow_of_live hl
  · have frame := State.rehouses_moveEntry (s.ended rest ((Work.moveImage a b e).updates 3 s.store)) a b e
    have store : ((s.ended rest ((Work.moveImage a b e).updates 3 s.store)).moveEntry a b e).store =
        (Work.moveImage a b e).updates 3 s.store := congrArg State.store frame
    rw [store]
    refine ⟨?_, ?_, ?_, ?_, fun m hma hmb => ?_, frame⟩
    · rw [durable, if_pos rfl]
    · rw [durable, if_pos rfl]
    · rw [durable, if_neg hab, if_pos rfl]
    · rw [durable, if_neg hab, if_pos rfl]
    · rw [durable, if_neg hmb, if_neg hma]

end Sys2Proof.Machine
end

section
/-! Restore, slot by slot: what it makes of a store with one mark at most (O51), and of a MOVE cut short (O35). -/

namespace Sys2Proof.Machine

variable {st : Store}

/-! ### Marks and twins (R117) -/

/-- A twin is another slot with an entry of the same ID (R117). -/
theorem Store.hasTwin_iff {n : Nat} {id : List Byte} :
    st.hasTwin n id = true ↔ ∃ m x, m ≠ n ∧ (st.slot m).image = some x ∧ x.id = id := by
  constructor
  · intro h
    obtain ⟨m, -, hm⟩ := List.any_eq_true.1 h
    obtain ⟨other, held⟩ := Bool.and_eq_true_iff.1 hm
    cases hx : (st.slot m).image with
    | none => rw [hx] at held; cases held
    | some x =>
      rw [hx] at held
      exact ⟨m, x, by simpa using other, hx, of_decide_eq_true held⟩
  · rintro ⟨m, x, other, hx, same⟩
    exact List.any_eq_true.2 ⟨m, Store.mem_keys hx, by simp [other, hx, same]⟩

/-- A marked slot whose entry has a twin is cleared (R117). -/
theorem Store.settleMark_of_twin {n : Nat} {e : Entry} (hm : (st.slot n).moveTarget = true)
    (he : (st.slot n).image = some e) (twin : ∃ m x, m ≠ n ∧ (st.slot m).image = some x ∧ x.id = e.id) :
    st.settleMark n = st.clear n := by
  simp [Store.settleMark, hm, he, Store.hasTwin_iff.2 twin]

/-- A marked slot without a twin loses its mark (R117). -/
theorem Store.settleMark_of_alone {n : Nat} (hm : (st.slot n).moveTarget = true)
    (alone : ∀ m x e, m ≠ n → (st.slot n).image = some e → (st.slot m).image = some x → x.id ≠ e.id) :
    st.settleMark n = st.setSlot n { st.slot n with moveTarget := false } := by
  unfold Store.settleMark
  rw [if_pos hm]
  split
  · rename_i e he
    refine if_neg fun twin => ?_
    obtain ⟨m, x, other, hx, same⟩ := Store.hasTwin_iff.1 twin
    exact alone m x e other he hx same
  · rfl

/-! ### One mark at most -/

theorem Store.foldl_settleMark_of_unmarked (h : ∀ n, (st.slot n).moveTarget = false) (l : List Nat) :
    l.foldl Store.settleMark st = st := by
  induction l with
  | nil => rfl
  | cons n l ih => rw [List.foldl_cons, Store.settleMark_of_unmarked (h n), ih]

/-- Where only the slot `n` may be marked, restore settles that one. -/
theorem Store.foldl_settleMark_of_lone {n : Nat} (others : ∀ m, m ≠ n → (st.slot m).moveTarget = false) (l : List Nat) :
    l.foldl Store.settleMark st = if n ∈ l then st.settleMark n else st := by
  induction l with
  | nil => rfl
  | cons m l ih =>
    rw [List.foldl_cons]
    by_cases hm : m = n
    · subst hm
      have clean : ∀ k, ((st.settleMark m).slot k).moveTarget = false := fun k => by
        obtain ⟨here, elsewhere⟩ := st.settleMark_at m k
        by_cases hk : k = m
        · rw [hk]; exact here
        · rw [elsewhere hk]; exact others k hk
      rw [Store.foldl_settleMark_of_unmarked clean, if_pos List.mem_cons_self]
    · rw [Store.settleMark_of_unmarked (others m hm), ih]
      simp [Ne.symm hm]

theorem Store.settle_of_lone {n : Nat} (others : ∀ m, m ≠ n → (st.slot m).moveTarget = false) :
    st.settle = (st.settleMark n).discardStaged := by
  rw [Store.settle, Store.foldl_settleMark_of_lone others]
  split
  · rfl
  · rename_i unlisted
    rw [Store.settleMark_of_unmarked (by rw [Store.slot_of_not_mem_keys unlisted]; rfl)]

/-- With one mark at most, restore settles each slot as it finds it, and discards its staged version (R117). -/
theorem Store.slot_settle (one : ∀ m n, (st.slot m).moveTarget = true → (st.slot n).moveTarget = true → m = n) (n : Nat) :
    st.settle.slot n = { (st.settleMark n).slot n with staged := none } := by
  have lone : ∀ k, (st.slot k).moveTarget = true → ∀ m, m ≠ k → (st.slot m).moveTarget = false := fun k hk m hm =>
    Bool.eq_false_iff.2 fun marked => hm (one m k marked hk)
  by_cases hn : (st.slot n).moveTarget = true
  · rw [Store.settle_of_lone (lone n hn), Store.slot_discardStaged_none]
  · by_cases marked : ∃ k, (st.slot k).moveTarget = true
    · obtain ⟨k, hk⟩ := marked
      have other : n ≠ k := fun same => hn (same ▸ hk)
      rw [Store.settle_of_lone (lone k hk), Store.slot_discardStaged_none, (st.settleMark_at k n).2 other,
        Store.settleMark_of_unmarked (Bool.eq_false_iff.2 hn)]
    · rw [Store.settle_of_lone (n := n) fun m _ => Bool.eq_false_iff.2 fun h => marked ⟨m, h⟩,
        Store.slot_discardStaged_none]

/-- A slot without a mark stays, but for its staged version (R117). -/
theorem Store.slot_settle_of_unmarked
    (one : ∀ m n, (st.slot m).moveTarget = true → (st.slot n).moveTarget = true → m = n) {n : Nat}
    (h : (st.slot n).moveTarget = false) : st.settle.slot n = { st.slot n with staged := none } := by
  rw [Store.slot_settle one, Store.settleMark_of_unmarked h]

/-! ### What restore leaves alone -/

theorem Store.settleMark_frame (st : Store) (n : Nat) : st.settleMark n = { st with slots := (st.settleMark n).slots } := by
  unfold Store.settleMark
  split
  · split
    · split <;> rfl
    · rfl
  · rfl

/-- Restore's settling writes slots alone (R117). -/
theorem Store.settle_frame (st : Store) : st.settle = { st with slots := st.settle.slots } := by
  have marks : ∀ l : List Nat, l.foldl Store.settleMark st = { st with slots := (l.foldl Store.settleMark st).slots } :=
    fun l => foldl_keeps (P := fun u : Store => u = { st with slots := u.slots }) l
      (fun u n _ hu => by rw [Store.settleMark_frame, hu]) st rfl
  unfold Store.settle Store.discardStaged
  exact foldl_keeps (P := fun u : Store => u = { st with slots := u.slots }) _
    (fun u n _ hu => by rw [hu]; rfl) _ (marks _)

theorem Store.worn_settleMark (st : Store) (n m : Nat) : ((st.settleMark n).slot m).worn = (st.slot m).worn := by
  by_cases hm : m = n
  · subst hm
    unfold Store.settleMark
    split
    · split
      · split
        · rw [Store.slot_clear, if_pos rfl]
        · rw [Store.slot_setSlot_self]
      · rw [Store.slot_setSlot_self]
    · rfl
  · rw [(st.settleMark_at n m).2 hm]

theorem Store.worn_settle (st : Store) (m : Nat) : (st.settle.slot m).worn = (st.slot m).worn := by
  unfold Store.settle
  rw [Store.slot_discardStaged_none]
  exact foldl_keeps (P := fun u : Store => (u.slot m).worn = (st.slot m).worn) _
    (fun u n _ hu => (u.worn_settleMark n m).trans hu) st rfl

/-- Settles O51: slot by slot, and once more on what it left. -/
theorem restoreSettlesTheStore : Obligations.RestoreSettlesTheStore := by
  refine ⟨fun s hp low idle one => ?_, fun st n => ⟨st.settle_unmarked n, st.staged_settle n, ?_, st.worn_settle n⟩⟩
  · refine ⟨_, exec_startUpRestore_of_starting ⟨hp, low, idle⟩, ?_, fun n => ⟨fun unmarked => ?_, fun e marked he twin => ?_,
      fun marked alone => ?_⟩⟩
    · rw [← Store.settle_frame]
    · exact Store.slot_settle_of_unmarked one unmarked
    · rw [Store.slot_settle one, Store.settleMark_of_twin marked he twin, Store.slot_clear, if_pos rfl]
    · rw [Store.slot_settle one, Store.settleMark_of_alone marked alone, Store.slot_setSlot_self]
  · have clean := st.settle_unmarked
    rw [Store.slot_settle_of_unmarked (fun m _ hm => by rw [clean m] at hm; cases hm) (clean n), ← st.staged_settle n]

/-! ### A MOVE cut short (R112, Table 6-2) -/

/-- What a loss of power may find of a MOVE: a store in which the source is whole and the target has no mark and no image yet. -/
structure Store.movable (st : Store) (a b : Nat) (e old : Entry) : Prop where
  apart : a ≠ b
  source : (st.slot a).image = some old
  same : old.id = e.id
  target : (st.slot b).image = none
  unmarked : ∀ n, (st.slot n).moveTarget = false
  alone : ∀ n x, n ≠ a → (st.slot n).image = some x → x.id ≠ e.id

variable {a b : Nat} {e old : Entry}

/-- The target of a MOVE is the only slot that it marks. -/
theorem Store.movable.one (h : st.movable a b e old) (k m n : Nat)
    (hm : (((Work.moveImage a b e).updates (k + 1) st).slot m).moveTarget = true)
    (hn : (((Work.moveImage a b e).updates (k + 1) st).slot n).moveTarget = true) : m = n := by
  obtain ⟨_, _, hb⟩ := Work.marked_cut (w := .moveImage a b e) h.unmarked (.afterUpdates (k + 1)) hm
  obtain ⟨_, _, hb'⟩ := Work.marked_cut (w := .moveImage a b e) h.unmarked (.afterUpdates (k + 1)) hn
  cases hb
  cases hb'
  rfl

/-- Row 1 of Table 6-2: the image is in the target, with its mark. -/
theorem Work.slot_move_written (a b : Nat) (e : Entry) (st : Store) (m : Nat) : ((Work.moveImage a b e).updates 1 st).slot m =
    if m = b then { st.slot b with image := some e, moveTarget := true } else st.slot m := Store.slot_setSlot st b m _

/-- Row 2 of Table 6-2: the source is clear. -/
theorem Work.slot_move_cleared (hab : a ≠ b) (e : Entry) (st : Store) (m : Nat) :
    ((Work.moveImage a b e).updates 2 st).slot m =
      if m = a then { st.slot a with image := none, moveTarget := false, retireMark := false }
      else if m = b then { st.slot b with image := some e, moveTarget := true } else st.slot m := by
  refine (Store.slot_clear _ a m).trans ?_
  rw [Store.slot_setSlot, if_neg hab, Store.slot_setSlot]

/-- After the third update no more is to be made. -/
theorem Work.updates_move_done {k : Nat} (hk : 3 ≤ k) (a b : Nat) (e : Entry) (st : Store) :
    (Work.moveImage a b e).updates k st = (Work.moveImage a b e).updates 3 st := by
  simp only [Work.updates, if_neg (show ¬ k ≤ 1 by omega), if_neg (show ¬ k ≤ 2 by omega)]
  rfl

/-- The entry is in the source, as every other image is (R117). -/
def Store.keptImages (v st : Store) : Prop := ∀ n, (v.slot n).image = (st.slot n).image

/-- The entry is in the target, and every other image as it was (R117). -/
structure Store.movedImage (v st : Store) (a b : Nat) (e : Entry) : Prop where
  source : (v.slot a).image = none
  target : (v.slot b).image = some e
  others : ∀ n, n ≠ a → n ≠ b → (v.slot n).image = (st.slot n).image

/-- Before the first update nothing is in the target, and nothing is marked (R108, R109, R112). -/
theorem Store.movable.unmoved (h : st.movable a b e old) {u : Store} (images : ∀ n, (u.slot n).image = (st.slot n).image)
    (marks : ∀ n, (u.slot n).moveTarget = (st.slot n).moveTarget) : u.settle.keptImages st := fun n => by
  have clean : ∀ m, (u.slot m).moveTarget = false := fun m => (marks m).trans (h.unmarked m)
  rw [Store.slot_settle_of_unmarked (fun m _ hm => by rw [clean m] at hm; cases hm) (clean n)]
  exact images n

/-- With the source still whole, restore clears the marked target (R117). -/
theorem Store.movable.written (h : st.movable a b e old) : ((Work.moveImage a b e).updates 1 st).settle.keptImages st := fun n => by
  have one := h.one 0
  have slot := Work.slot_move_written a b e st
  rw [Store.slot_settle one]
  by_cases hn : n = b
  · subst hn
    have twin : ∃ m x, m ≠ n ∧ (((Work.moveImage a n e).updates 1 st).slot m).image = some x ∧ x.id = e.id :=
      ⟨a, old, h.apart, by rw [slot, if_neg h.apart]; exact h.source, h.same⟩
    rw [Store.settleMark_of_twin (e := e) (by rw [slot, if_pos rfl]) (by rw [slot, if_pos rfl]) twin, Store.slot_clear,
      if_pos rfl]
    exact h.target.symm
  · rw [Store.settleMark_of_unmarked (by rw [slot, if_neg hn]; exact h.unmarked n)]
    dsimp only
    rw [slot, if_neg hn]

/-- With the source clear, restore drops the target's mark (R117). -/
theorem Store.movable.cleared (h : st.movable a b e old) : ((Work.moveImage a b e).updates 2 st).settle.movedImage st a b e := by
  have one := h.one 1
  have slot := Work.slot_move_cleared h.apart e st
  have settled := Store.slot_settle one
  have marked : (((Work.moveImage a b e).updates 2 st).slot b).moveTarget = true := by
    rw [slot, if_neg h.apart.symm, if_pos rfl]
  have unmarked : ∀ n, n ≠ b → (((Work.moveImage a b e).updates 2 st).slot n).moveTarget = false := fun n hn => by
    rw [slot]
    split
    · rfl
    · exact h.unmarked n
  have alone : ∀ m x y, m ≠ b → (((Work.moveImage a b e).updates 2 st).slot b).image = some y →
      (((Work.moveImage a b e).updates 2 st).slot m).image = some x → x.id ≠ y.id := fun m x y hm hy hx => by
    rw [slot, if_neg h.apart.symm, if_pos rfl] at hy
    cases hy
    rw [slot, if_neg hm] at hx
    split at hx
    · cases hx
    · rename_i hma
      exact h.alone m x hma hx
  refine ⟨?_, ?_, fun n hna hnb => ?_⟩
  · rw [settled, Store.settleMark_of_unmarked (unmarked a h.apart), slot, if_pos rfl]
  · rw [settled, Store.settleMark_of_alone marked alone, Store.slot_setSlot_self]
    dsimp only
    rw [slot, if_neg h.apart.symm, if_pos rfl]
  · rw [settled, Store.settleMark_of_unmarked (unmarked n hnb), slot, if_neg hna, if_neg hnb]

/-- With the mark taken away the MOVE is done, and restore has nothing to settle (R117). -/
theorem Store.movable.done (h : st.movable a b e old) : ((Work.moveImage a b e).updates 3 st).settle.movedImage st a b e := by
  have slot := Work.slot_moved (st := st) h.apart.symm e
  have clean : ∀ n, (((Work.moveImage a b e).updates 3 st).slot n).moveTarget = false := fun n => by
    rw [slot]
    split
    · rfl
    · split
      · rfl
      · exact h.unmarked n
  have settled := fun n => Store.slot_settle_of_unmarked (n := n) (h.one 2) (clean n)
  refine ⟨?_, ?_, fun n hna hnb => ?_⟩
  · rw [settled, slot, if_neg h.apart, if_pos rfl]
  · rw [settled, slot, if_pos rfl]
  · rw [settled, slot, if_neg hnb, if_neg hna]

/-- Whether the source is clear at this point of Table 6-2. -/
def pastClear : PowerCut → Prop
  | .afterUpdates k => 2 ≤ k
  | _ => False

/-- Restore after a cut finds the entry in its source before the source clear (R112, R117). -/
theorem Store.movable.settled_early (h : st.movable a b e old) {cut : PowerCut} (early : ¬ pastClear cut) :
    ((Work.moveImage a b e).cut cut st).settle.keptImages st := by
  cases cut with
  | beforeUpdates => exact h.unmoved (fun _ => rfl) fun _ => rfl
  | duringWrite => exact h.unmoved (fun _ => rfl) fun _ => rfl
  | afterWrite => exact h.unmoved (fun _ => rfl) fun _ => rfl
  | afterFault => exact h.unmoved (fun n => (Work.slot_faulted _ st n).1) fun n => (Work.slot_faulted _ st n).2.1
  | afterUpdates k =>
    match k, early with
    | 0, _ => exact h.unmoved (fun _ => rfl) fun _ => rfl
    | 1, _ => exact h.written
    | k + 2, early => exact absurd (Nat.le_add_left 2 k) early

/-- Restore after a cut finds the entry in its target from the source clear on (R112, R117). -/
theorem Store.movable.settled_late (h : st.movable a b e old) {cut : PowerCut} (late : pastClear cut) :
    ((Work.moveImage a b e).cut cut st).settle.movedImage st a b e := by
  cases cut with
  | afterUpdates k =>
    match k, late with
    | 2, _ => exact h.cleared
    | k + 3, _ =>
      change ((Work.moveImage a b e).updates (k + 3) st).settle.movedImage st a b e
      rw [Work.updates_move_done (Nat.le_add_left 3 k)]
      exact h.done
  | _ => exact late.elim

/-- Settles O35: each point of Table 6-2 leaves the entry in one slot. -/
theorem moveSurvivesPowerLoss : Obligations.MoveSurvivesPowerLoss := by
  intro st a b e old cut apart source same target unmarked alone
  have h : st.movable a b e old := ⟨apart, source, same, target, unmarked, alone⟩
  refine ⟨Store.settle_unmarked _, fun n hna hnb => ?others, ?one, fun early => ?early, fun late => ?late,
    fun k hk late => ?later, ?written, ?cleared, ?done, fun s on high held busy => ?run⟩
  case others =>
    by_cases late : pastClear cut
    · exact (h.settled_late late).others n hna hnb
    · exact h.settled_early late n
  case one =>
    by_cases late : pastClear cut
    · have moved := h.settled_late late
      exact .inr ⟨moved.source, moved.target⟩
    · have kept := h.settled_early late
      exact .inl ⟨(kept a).trans source, (kept b).trans target⟩
  case early =>
    refine (h.settled_early (fun late => ?_) a).trans source
    rcases early with rfl | rfl | rfl | rfl | rfl | rfl <;> simp [pastClear] at late
  case late =>
    refine (h.settled_late ?_).target
    rcases late with rfl | rfl <;> simp [pastClear]
  case later =>
    subst late
    exact (h.settled_late (cut := .afterUpdates k) (show 2 ≤ k by omega)).target
  case written =>
    rintro rfl
    have slot := Work.slot_move_written a b e st
    exact ⟨(slot a).trans (if_neg apart), (slot b).trans (if_pos rfl)⟩
  case cleared =>
    rintro rfl
    have slot := Work.slot_move_cleared apart e st
    exact ⟨(slot a).trans (if_pos rfl), (slot b).trans ((if_neg apart.symm).trans (if_pos rfl))⟩
  case done =>
    rintro rfl
    have slot := Work.slot_moved (st := st) apart.symm e
    exact ⟨(slot a).trans ((if_neg apart).trans (if_pos rfl)), (slot b).trans (if_pos rfl)⟩
  case run =>
    subst held
    exact ⟨_, _, _, exec_powerLoss cut on busy, rfl, rfl, rfl, exec_powerOn_of_off rfl,
      exec_startUpRestore_of_starting ⟨rfl, high, rfl⟩, rfl, rfl⟩

end Sys2Proof.Machine
end

section
/-! Start-ups: where they begin (O50), and the working state at their end (O52). -/

namespace Sys2Proof.Machine

variable {s t : State}

/-! ### The beginning (R116, R187, R188) -/

/-- A start-up writes over what the take of a Reset request wrote (R116, R187). -/
theorem State.beginStartUp_dequeue (s : State) : (s.dequeue .mp).beginStartUp = s.beginStartUp := rfl

theorem exec_reset {r : Request} (h : s.takeable .mp .reset = some r) : exec .reset s = .next s.beginStartUp :=
  congrArg Host.Outcome.next ((State.take_of_takeable h _).trans s.beginStartUp_dequeue)

/-- What a start-up writes, whatever level RESET_N then has (R42, R52, R116, R174, R180, R188). -/
theorem State.beginStartUp_writes (low : Bool) (ht : t = { s.beginStartUp with resetLow := low }) :
    t.phase = .starting ∧
    (∀ p, t.port p = ⟨[], [], [], (s.port p).transaction.map fun x => { x with abandoned := true }, (s.port p).sdo⟩) ∧
    t.commits = s.commits.atStartUp ∧ t.time = ⟨0, none, 0, 0⟩ ∧ t.engine = { s.engine with pointer := .port .mp } ∧
    t.store = s.store ∧ t.inhibited = s.inhibited := by
  subst ht
  exact ⟨rfl, fun p => by cases p <;> rfl, rfl, rfl, rfl, rfl, rfl⟩

/-- The falling edge of RESET_N while intake is open (R116). -/
theorem State.resetFall_running (high : s.resetLow = false) (hp : s.phase = .running) (b : Bool) :
    s.resetFall b = { s.beginStartUp with resetLow := true } := by
  simp [State.resetFall, high, hp]

/-- The falling edge of RESET_N while restore is to begin (R116). -/
theorem State.resetFall_starting (high : s.resetLow = false) (hp : s.phase = .starting) (b : Bool) :
    s.resetFall b = { s.beginStartUp with resetLow := true } := by
  simp [State.resetFall, high, hp]

/-- The falling edge of RESET_N during restore: the start counter may have been raised (R115, log 20). -/
theorem State.resetFall_settled (high : s.resetLow = false) (hp : s.phase = .settled) (b : Bool) : s.resetFall b =
    { s.beginStartUp with resetLow := true, store := if b = true then s.store.raiseCounter else s.store } := by
  cases b with
  | false => simp [State.resetFall, high, hp]; rfl
  | true => simp [State.resetFall, high, hp]

theorem State.resetFall_off (high : s.resetLow = false) (hp : s.phase = .off) (b : Bool) :
    s.resetFall b = { s with resetLow := true } := by
  simp [State.resetFall, high, hp]

/-- A loss of power with no commit in progress and no restore under way keeps the store (R108). -/
theorem exec_powerLoss_idle (on : s.phase ≠ .off) (idle : s.commits.work = none) (hp : s.phase ≠ .settled) (cut : PowerCut) :
    exec (.powerLoss cut) s = .next (s.unpowered s.store) := by
  have kept : s.storeAfterLoss cut = s.store := by
    unfold State.storeAfterLoss
    rw [idle]
    dsimp only
    split
    · rename_i settled
      exact absurd settled hp
    · rfl
  exact congrArg Host.Outcome.next ((if_neg on).trans (by rw [kept]))

/-- Settles O50: a Reset and a fall of RESET_N begin the same start-up. -/
theorem startUpBeginsAtResetAndPins : Obligations.StartUpBeginsAtResetAndPins := by
  refine ⟨fun s t hp begins => ?begins, fun s r ht => ⟨_, exec_reset ht, rfl⟩, fun s b high => ⟨_, rfl, ?fall⟩, fun s => rfl,
    fun s b => rfl, fun s off => exec_powerOn_of_off off, fun s cut on idle hp => ?loss⟩
  case begins =>
    rcases begins with ⟨⟨r, ht⟩, done, low⟩ | ⟨high, ⟨b, done⟩, -⟩
    · cases (exec_reset ht).symm.trans done
      exact State.beginStartUp_writes s.resetLow rfl
    · cases done
      exact State.beginStartUp_writes true (State.resetFall_running high hp b)
  case fall =>
    cases hp : s.phase with
    | off =>
      rw [State.resetFall_off high hp]
      exact ⟨rfl, fun _ => by rw [hp], fun on => absurd rfl on, nofun, nofun, nofun⟩
    | starting =>
      rw [State.resetFall_starting high hp]
      exact ⟨rfl, nofun, fun _ => rfl, fun _ => ⟨rfl, rfl⟩, nofun, nofun⟩
    | settled =>
      rw [State.resetFall_settled high hp]
      refine ⟨rfl, nofun, fun _ => rfl, nofun, fun _ hb => ?_, fun _ hb => ?_⟩
      · rw [hb]; rfl
      · rw [hb]; rfl
    | running =>
      rw [State.resetFall_running high hp]
      exact ⟨rfl, nofun, fun _ => rfl, nofun, nofun, nofun⟩
  case loss =>
    exact ⟨_, exec_powerLoss_idle on idle hp cut, rfl, rfl, rfl, fun p => by cases p <;> exact ⟨rfl, rfl, rfl⟩⟩

/-! ### The end (R26, R118) -/

theorem State.loadSlot_pointer (s : State) (n : Nat) : (s.loadSlot n).engine.pointer = s.engine.pointer := by
  unfold State.loadSlot State.spillGain
  dsimp only
  split
  · split <;> split <;> rfl
  · rfl

theorem State.rising_loadSlot (h : rising s.engine.clearDue = true) (n : Nat) :
    rising (s.loadSlot n).engine.clearDue = true := by
  have gain : ∀ id : List Byte, ((s.setSlot n (s.store.slot n).working).spillGain n id).engine.clearDue = s.engine.clearDue :=
    fun id => by
      unfold State.spillGain
      split <;> rfl
  unfold State.loadSlot
  dsimp only
  split
  · split
    · exact rising_insertRising _ _ (by rwa [gain])
    · rwa [gain]
  · exact h

/-- The built table has the grant pointer at MP and the clear-due list in slot order (R25, R180). -/
theorem State.buildTable_order (s : State) :
    s.buildTable.engine.pointer = .port .mp ∧ rising s.buildTable.engine.clearDue = true :=
  foldl_keeps (P := fun u : State => u.engine.pointer = .port .mp ∧ rising u.engine.clearDue = true) _
    (fun u n _ hu => ⟨(u.loadSlot_pointer n).trans hu.1, State.rising_loadSlot hu.2 n⟩) _ ⟨rfl, rfl⟩

theorem State.entryAt_buildTable (hwf : Table.wf emptyDurable s.store.slots = true) (n : Nat) :
    s.buildTable.entryAt n = (s.store.slot n).image := by
  rw [State.entryAt, (s.buildTable_at hwf n).1, DurableSlot.entry_working]

/-- A slot of the store holds an entry with this home bucket. -/
def DurableSlot.homeIs (b : Nat) (d : DurableSlot) : Bool :=
  match d.image with
  | some e => decide (homeBucket e.id = b)
  | none => false

/-- The built spill counts are counted afresh over the 256 spill slots (R17). -/
theorem State.spillCount_buildTable (hwf : Table.wf emptyDurable s.store.slots = true) (b : Nat) :
    s.buildTable.spillCount b = ((List.range 256).filter fun i => (s.store.slot (4096 + i)).homeIs b).length := by
  rw [s.spillSound_buildTable hwf b, State.spillResidents, spillArea, List.filter_map, List.length_map]
  refine congrArg List.length (List.filter_congr fun i _ => ?_)
  change (match s.buildTable.entryAt (4096 + i) with
    | some e => decide (homeBucket e.id = b)
    | none => false) = _
  rw [State.entryAt_buildTable hwf]
  rfl

theorem DurableSlot.retiring_iff (d : DurableSlot) :
    d.retiring = true ↔ ∃ e, d.image = some e ∧ (e.state = .retiring ∨ d.retireMark = true) := by
  unfold DurableSlot.retiring
  cases d.image <;> simp

/-- Settles O52: the table is built from the store of canonical form, and every other block is at its start. -/
theorem restoreBuildsTheWorkingState : Obligations.RestoreBuildsTheWorkingState := by
  intro s hp high hwf
  obtain ⟨u, hu⟩ : ∃ u : State, u = { s with
    store := s.store.raiseCounter, holds := [], commits := ⟨[], none⟩, batch := emptyBatch, scan := idleScan
    time := startTime, phase := .running } := ⟨_, rfl⟩
  have done : exec .restoreComplete s = .next u.buildTable := by
    rw [exec_restoreComplete_of_settled ⟨hp, high⟩, hu]
    rfl
  have frame := u.buildTable_frame
  have stored : ∀ n, u.store.slot n = s.store.slot n := fun n => by rw [hu]; rfl
  have canonical : Table.wf emptyDurable u.store.slots = true := by rw [hu]; exact hwf
  have slots := u.buildTable_at canonical
  obtain ⟨pointer, ordered⟩ := u.buildTable_order
  refine ⟨u.buildTable, done, ?phase, ?store, ?holds, ?commits, ?batch, ?scan, ?time, pointer, fun n => ?slots, fun b => ?counts,
    fun n => ?due, ordered, ?mp, ?tp0, ?tp1, ?inhibited⟩
  case slots =>
    rw [(slots n).1, stored]
    rfl
  case counts =>
    rw [State.spillCount_buildTable canonical]
    simp only [stored]
    rfl
  case due => rw [(slots n).2, stored, DurableSlot.retiring_iff]
  case store | time =>
    rw [frame, hu]
    rfl
  all_goals rw [frame, hu]

end Sys2Proof.Machine
end

section
/-! Single-entry changes: the checks of Table 7-1 by number (O23), check 9 and the commit queued (O24), and Insert (O22). -/

namespace Sys2Proof.Machine

variable {s : State} {c : Instr} {k : Kind} {r : Request} {x : Item} {slot n : Nat} {e : Entry}

/-! ### The locked batch (R140) -/

theorem Batch.isLocked_iff {b : Batch} : b.isLocked = true ↔ b.state = .writing ∨ b.state = .promoting := by
  unfold Batch.isLocked
  cases b.state <;> simp

theorem Batch.isLocked_eq_false {b : Batch} : b.isLocked = false ↔ b.state = .empty ∨ b.state = .opened := by
  unfold Batch.isLocked
  cases b.state <;> simp

/-! ### The take of a change (R120, R121) -/

/-- The five kinds of change that name an entry carry an item of their own kind. -/
theorem itemOf_eq_some {payload : List Byte} (h : itemOf k payload = some x) :
    (k = .modify ∧ ∃ id y f, x = .modify id y f) ∨ (k = .topUp ∧ ∃ id v, x = .topUp id v) ∨
      (k = .bar ∧ ∃ id y, x = .bar id y) ∨ (k = .unbar ∧ ∃ id y, x = .unbar id y) ∨
      (k = .retire ∧ ∃ id y, x = .retire id y) := by
  cases k with
  | modify =>
    obtain ⟨id, y, f, rfl⟩ := readModify_eq h
    exact .inl ⟨rfl, id, y, f, rfl⟩
  | topUp =>
    obtain ⟨id, v, rfl⟩ := readTopUp_eq h
    exact .inr (.inl ⟨rfl, id, v, rfl⟩)
  | bar =>
    obtain ⟨⟨id, y⟩, -, rfl⟩ := Option.map_eq_some_iff.1 h
    exact .inr (.inr (.inl ⟨rfl, id, y, rfl⟩))
  | unbar =>
    obtain ⟨⟨id, y⟩, -, rfl⟩ := Option.map_eq_some_iff.1 h
    exact .inr (.inr (.inr (.inl ⟨rfl, id, y, rfl⟩)))
  | retire =>
    obtain ⟨⟨id, y⟩, -, rfl⟩ := Option.map_eq_some_iff.1 h
    exact .inr (.inr (.inr (.inr ⟨rfl, id, y, rfl⟩)))
  | _ => cases h

theorem itemOf_named {payload : List Byte} (h : itemOf k payload = some x) :
    x.isInsert = false ∧ (k = .modify ∨ k = .topUp ∨ k = .bar ∨ k = .unbar ∨ k = .retire) := by
  obtain ⟨rfl, -, -, -, rfl⟩ | ⟨rfl, -, -, rfl⟩ | ⟨rfl, -, -, rfl⟩ | ⟨rfl, -, -, rfl⟩ | ⟨rfl, -, -, rfl⟩ := itemOf_eq_some h
  all_goals exact ⟨rfl, by simp⟩

/-- The commands of the five kinds share one take. -/
theorem exec_change (hc : takenBy c = some (.mp, k))
    (hk : k = .modify ∨ k = .topUp ∨ k = .bar ∨ k = .unbar ∨ k = .retire) (ht : s.takeable .mp k = some r) :
    exec c s = .next (takeChange (itemOf k r.payload) r (s.dequeue .mp)) := by
  cases c with
  | modify => cases hc; exact congrArg Host.Outcome.next (State.take_of_takeable ht _)
  | topUp => cases hc; exact congrArg Host.Outcome.next (State.take_of_takeable ht _)
  | bar => cases hc; exact congrArg Host.Outcome.next (State.take_of_takeable ht _)
  | unbar => cases hc; exact congrArg Host.Outcome.next (State.take_of_takeable ht _)
  | retire => cases hc; exact congrArg Host.Outcome.next (State.take_of_takeable ht _)
  | _ =>
    cases hc
    all_goals simp at hk

theorem exec_insert (ht : s.takeable .mp .insert = some r) :
    exec .insert s = .next (takeChange (readInsertItem r.payload) r (s.dequeue .mp)) :=
  congrArg Host.Outcome.next (State.take_of_takeable ht _)

theorem takeChange_of_malformed (hk : r.kind = k) :
    takeChange none r (s.dequeue .mp) = s.answered .mp ⟨k.code, r.tag, .badField, []⟩ := by
  rw [takeChange, State.dequeue_answer, hk]

theorem takeChange_of_locked (hk : r.kind = k) (locked : s.batch.isLocked = true) :
    takeChange (some x) r (s.dequeue .mp) = s.answered .mp ⟨k.code, r.tag, .applyInProgress, []⟩ := by
  simp only [takeChange, State.dequeue_batch, locked, if_true, State.dequeue_answer, hk]

/-- Past check 2 the validation decides: a refusal is the answer. -/
theorem takeChange_of_refused (hk : r.kind = k) (unlocked : s.batch.isLocked = false) {refusal : Refused}
    (refused : s.validate s.inhibited x = .error refusal) :
    takeChange (some x) r (s.dequeue .mp) = s.answered .mp ⟨k.code, r.tag, refusal.1, refusal.2⟩ := by
  simp only [takeChange, State.dequeue_batch, unlocked, Bool.false_eq_true, if_false, State.dequeue_inhibited,
    State.dequeue_validate, refused, State.dequeue_answer, hk]

/-- A slot reserved while a request is accepted is one that was reserved before it (R14, R120). -/
theorem State.dequeue_reserveSlot_accept (s : State) (r : Request) (n : Nat) (id : List Byte) (h : Holder) (d : Change) :
    ((s.dequeue .mp).reserveSlot n id h).accept .mp r d =
      (s.setSlot n { s.slot n with content := .reserved id h }).accepted .mp r.kind.code r.tag d := rfl

/-- A change of an entry that passes is queued (R120). -/
theorem takeChange_of_passed (hk : r.kind = k) (unlocked : s.batch.isLocked = false) (named : x.isInsert = false)
    (passed : s.validate s.inhibited x = .ok n) :
    takeChange (some x) r (s.dequeue .mp) = s.accepted .mp k.code r.tag (x.change n) := by
  simp only [takeChange, State.dequeue_batch, unlocked, Bool.false_eq_true, if_false, State.dequeue_inhibited,
    State.dequeue_validate, passed, State.reserveFor, named, State.dequeue_accept, hk]

/-- An Insert that passes reserves its slot and is queued (R120, R126). -/
theorem takeChange_of_placed (hk : r.kind = k) (unlocked : s.batch.isLocked = false)
    (passed : s.validate s.inhibited (.insert e) = .ok n) :
    takeChange (some (.insert e)) r (s.dequeue .mp) =
      (s.setSlot n { s.slot n with content := .reserved e.id .singleInsert }).accepted .mp k.code r.tag (.insertEntry n e) := by
  simp only [takeChange, State.dequeue_batch, unlocked, Bool.false_eq_true, if_false, State.dequeue_inhibited,
    State.dequeue_validate, passed, State.reserveFor, Item.isInsert, if_true, State.dequeue_reserveSlot_accept, hk,
    Item.change, Item.id]

/-! ### Insert (R126) -/

theorem State.validateInsert_of_present {sample : Bool} (h : s.foundOrReserved e.id = some n) :
    s.validate sample (.insert e) = .error (.alreadyPresent, be 2 n) := by
  simp only [State.validate, State.validateInsert, h]

/-- The guard on the one class that an Insert touches (R37). -/
theorem State.guardFails_singleton {sample : Bool} {d : Nat} :
    s.guardFails sample [d] = true ↔ sample = true ∧ s.underGuard d = true := by
  simp [State.guardFails]

theorem State.validateInsert_of_guarded {sample : Bool} (h : s.foundOrReserved e.id = none)
    (hg : sample = true ∧ s.underGuard e.cls = true) : s.validate sample (.insert e) = .error (.guarded, []) := by
  simp only [State.validate, State.validateInsert, h, if_pos (State.guardFails_singleton.2 hg)]

theorem State.validateInsert_of_placed {sample : Bool} (h : s.foundOrReserved e.id = none)
    (hg : ¬ (sample = true ∧ s.underGuard e.cls = true)) (hp : s.placement e.id = some n) :
    s.validate sample (.insert e) = .ok n := by
  simp only [State.validate, State.validateInsert, h, if_neg (mt State.guardFails_singleton.1 hg), hp]

theorem State.validateInsert_of_full {sample : Bool} (h : s.foundOrReserved e.id = none)
    (hg : ¬ (sample = true ∧ s.underGuard e.cls = true)) (hp : s.placement e.id = none) :
    s.validate sample (.insert e) = .error (.tableFull, be 2 s.wornSlots) := by
  simp only [State.validate, State.validateInsert, h, if_neg (mt State.guardFails_singleton.1 hg), hp]

/-- Settles O22: the checks stand in the order of R126, and an Insert that passes them all has its slot. -/
theorem insertChecksInOrder : Obligations.InsertChecksInOrder := by
  intro r s ht
  have kind : r.kind = .insert := State.takeable_kind ht
  refine ⟨fun hr => ?_, fun e hr => ?_⟩
  · rw [exec_insert ht, readInsertItem, hr]
    exact congrArg Host.Outcome.next (takeChange_of_malformed kind)
  · rw [exec_insert ht, readInsertItem, hr]
    refine congrArg Host.Outcome.next ?_
    split
    next locked => exact takeChange_of_locked kind (Batch.isLocked_iff.2 locked)
    next unlocked =>
      have unlocked : s.batch.isLocked = false := Bool.eq_false_iff.2 (mt Batch.isLocked_iff.1 unlocked)
      split
      next n found => exact takeChange_of_refused kind unlocked (State.validateInsert_of_present found)
      next absent =>
        split
        next guarded => exact takeChange_of_refused kind unlocked (State.validateInsert_of_guarded absent guarded)
        next unguarded =>
          split
          next n placed => exact takeChange_of_placed kind unlocked (State.validateInsert_of_placed absent unguarded placed)
          next full => exact takeChange_of_refused kind unlocked (State.validateInsert_of_full absent unguarded full)

/-! ### Checks in order (R121) -/

/-- The first refusal of two lists of checks, one after the other. -/
theorem firstRefusal_append (a b : List Check) : firstRefusal (a ++ b) = (firstRefusal a).or (firstRefusal b) := by
  simp [firstRefusal, List.find?_append, Option.map_or]

theorem firstRefusal_nil : firstRefusal [] = none := rfl

theorem firstRefusal_cons (b : Bool) (y : Refused) (l : List Check) :
    firstRefusal ((b, y) :: l) = if b = true then some y else firstRefusal l := by
  cases b <;> rfl

/-- Checks 4 to 8 of Table 7-1 by number, as the validation computes them. -/
def State.checkFails (s : State) (sample : Bool) (item : Item) (slot : Nat) (e : Entry) : Nat → Bool
  | 4 => s.isPending slot
  | 5 => s.isRetiring slot e
  | 6 => item.expected.any fun y => !(y == e.revision)
  | 7 => item.writesImage && s.wornResident slot
  | 8 => s.guardFails sample (item.classes e)
  | _ => false

/-- Check 7 is passed over by a Retire alone (R133). -/
theorem Item.writesImage_iff : x.writesImage = true ↔ ∀ id y, x ≠ .retire id y := by
  cases x <;> simp [Item.writesImage]

theorem State.checkFails_iff : s.checkFails s.inhibited x slot e n = true ↔ s.changeFails x slot e n := by
  unfold State.checkFails State.changeFails
  split
  · exact Iff.rfl
  · exact State.isRetiring_iff
  · simp [Option.any_eq_true]
  · simp only [Bool.and_eq_true, Item.writesImage_iff, State.wornResident]
  · simp only [State.guardFails, Bool.and_eq_true, List.any_eq_true]
  · simp

/-- The validation of an entry is checks 4 to 8 in rising order, then check 9 of the kind (Table 7-1). -/
theorem State.entryChecks_eq (sample : Bool) : s.entryChecks sample x slot e =
    (List.range' 4 5).map (fun m => (s.checkFails sample x slot e m, s.changeRefusal slot e m)) ++ s.kindChecks slot e x :=
  rfl

theorem State.changeFails_range (h : s.changeFails x slot e n) : 4 ≤ n ∧ n ≤ 8 := by
  unfold State.changeFails at h
  split at h <;> simp at h ⊢

/-- The first of checks 4 to 8 that fails gives its refusal. -/
theorem State.firstRefusal_of_first_failing (fails : s.changeFails x slot e n)
    (first : ∀ m, m < n → ¬ s.changeFails x slot e m) :
    firstRefusal (s.entryChecks s.inhibited x slot e) = some (s.changeRefusal slot e n) := by
  obtain ⟨low, high⟩ := State.changeFails_range fails
  have found : (List.range' 4 5).find? (s.checkFails s.inhibited x slot e) = some n := by
    refine List.find?_range'_eq_some.2 ⟨State.checkFails_iff.2 fails, List.mem_range'_1.2 ⟨low, by omega⟩, fun m _ hm => ?_⟩
    simpa using mt State.checkFails_iff.1 (first m hm)
  rw [State.entryChecks_eq, firstRefusal_append, firstRefusal, List.find?_map]
  simp only [Function.comp_def, found, Option.map_some, Option.some_or]

/-- Where checks 4 to 8 pass, check 9 decides. -/
theorem State.firstRefusal_of_none_failing (passes : ∀ m, ¬ s.changeFails x slot e m) :
    firstRefusal (s.entryChecks s.inhibited x slot e) = firstRefusal (s.kindChecks slot e x) := by
  have none_found : (List.range' 4 5).find? (s.checkFails s.inhibited x slot e) = none :=
    List.find?_eq_none.2 fun m _ => mt State.checkFails_iff.1 (passes m)
  rw [State.entryChecks_eq, firstRefusal_append, firstRefusal, List.find?_map]
  simp only [Function.comp_def, none_found, Option.map_none, Option.none_or]

/-! ### The validation of a change that names an entry -/

section
variable (named : x.isInsert = false)
include named

theorem State.validate_of_absent {sample : Bool} (hl : s.lookup x.id = none) :
    s.validate sample x = .error (.notFound, []) := by
  simp only [State.validate_of_named named, State.validateNamed, hl]

theorem State.validate_of_refusal {sample : Bool} (hl : s.lookup x.id = some slot) (he : s.entryAt slot = some e)
    {refusal : Refused} (h : firstRefusal (s.entryChecks sample x slot e) = some refusal) :
    s.validate sample x = .error refusal := by
  simp only [State.validate_of_named named, State.validateNamed, hl, he, h]

theorem State.validate_of_no_refusal {sample : Bool} (hl : s.lookup x.id = some slot) (he : s.entryAt slot = some e)
    (h : firstRefusal (s.entryChecks sample x slot e) = none) : s.validate sample x = .ok slot := by
  simp only [State.validate_of_named named, State.validateNamed, hl, he, h]

end

/-- Settles O23: the checks stand in the order of their numbers, and the first that fails answers. -/
theorem changeRefusedByFirstFailingCheck : Obligations.ChangeRefusedByFirstFailingCheck := by
  intro c k r s hc hk ht
  have kind : r.kind = k := State.takeable_kind ht
  refine ⟨fun hr => ?malformed, fun x hx => ⟨fun locked => ?locked, fun unlocked => ?_⟩⟩
  case malformed =>
    rw [exec_change hc hk ht, hr, takeChange_of_malformed kind]
  case locked =>
    rw [exec_change hc hk ht, hx, takeChange_of_locked kind (Batch.isLocked_iff.2 locked)]
  obtain ⟨named, -⟩ := itemOf_named hx
  have unlocked := Batch.isLocked_eq_false.2 unlocked
  refine ⟨fun hl => ?absent, fun slot e n hl he fails first => ?refused⟩
  case absent =>
    rw [exec_change hc hk ht, hx, takeChange_of_refused kind unlocked (State.validate_of_absent named hl)]
  case refused =>
    have refusal := State.firstRefusal_of_first_failing fails first
    rw [exec_change hc hk ht, hx, takeChange_of_refused kind unlocked (State.validate_of_refusal named hl he refusal)]

/-! ### Check 9 (R129, R131) -/

theorem windowOk_iff {a b : Option Nat} : windowOk a b = true ↔ ∀ v w, a = some v → b = some w → v < w := by
  unfold windowOk
  cases a <;> cases b <;> simp

/-- A Modify whose resulting window is empty (R129). -/
theorem State.modifyChecks_of_window {a : Entry} {v w : Nat} (hv : a.validFrom = some v) (hw : a.validUntil = some w)
    (h : w ≤ v) : firstRefusal (s.modifyChecks slot a) = some (.badField, be 4 v ++ be 4 w) := by
  have empty : windowOk a.validFrom a.validUntil = false := by
    simp [windowOk, hv, hw, h]
  rw [State.modifyChecks, firstRefusal_cons, empty, hv, hw]
  rfl

section
variable {a : Entry} (window : ∀ v w, a.validFrom = some v → a.validUntil = some w → v < w)
include window

/-- A Modify whose resulting balance is below the held units (R129). -/
theorem State.modifyChecks_of_held {b : Nat} (hb : a.balance = some b) (h : b < s.heldUnits slot) :
    firstRefusal (s.modifyChecks slot a) = some (.held, be 3 (s.heldUnits slot)) := by
  simp [State.modifyChecks, firstRefusal_cons, windowOk_iff.2 window, hb, h]

/-- A Modify whose resulting balance covers the held units meets the check of the open holds last (R129). -/
theorem State.modifyChecks_of_covered (covered : ∀ b, a.balance = some b → s.heldUnits slot ≤ b) :
    firstRefusal (s.modifyChecks slot a) =
      if a.holdsLimit < s.openHolds slot then some (.held, be 1 (s.openHolds slot)) else none := by
  cases hb : a.balance with
  | none => simp [State.modifyChecks, firstRefusal_cons, firstRefusal_nil, windowOk_iff.2 window, hb]
  | some b =>
    have enough := Nat.not_lt.2 (covered b hb)
    simp [State.modifyChecks, firstRefusal_cons, firstRefusal_nil, windowOk_iff.2 window, hb, enough]

end

theorem topUpChecks_of_unmetered (h : e.balance = none) (v : Nat) :
    firstRefusal (topUpChecks e v) = some (.badField, []) := by
  rw [topUpChecks, h]
  rfl

/-- A Top Up keeps the balance within its three bytes (R131). -/
theorem topUpChecks_of_metered {b : Nat} (h : e.balance = some b) (v : Nat) :
    firstRefusal (topUpChecks e v) = if 16777215 < b + v then some (.range, be 3 b) else none := by
  simp only [topUpChecks, h, firstRefusal_cons, decide_eq_true_eq]
  rfl

/-- Settles O24: past checks 4 to 8 the refusal of check 9 answers, and where there is none the commit is queued. -/
theorem changeMeetsCheckNineAndQueues : Obligations.ChangeMeetsCheckNineAndQueues := by
  intro c k r s x slot e hc ht hx unlocked hl he passes
  have kind : r.kind = k := State.takeable_kind ht
  obtain ⟨named, hk⟩ := itemOf_named hx
  have unlocked := Batch.isLocked_eq_false.2 unlocked
  have check9 := State.firstRefusal_of_none_failing passes
  have refused : ∀ y, firstRefusal (s.kindChecks slot e x) = some y →
      exec c s = .next (s.answered .mp ⟨k.code, r.tag, y.1, y.2⟩) := fun y hy => by
    rw [exec_change hc hk ht, hx,
      takeChange_of_refused kind unlocked (State.validate_of_refusal named hl he (check9.trans hy))]
  have queued : firstRefusal (s.kindChecks slot e x) = none →
      exec c s = .next (s.accepted .mp k.code r.tag (x.change slot)) := fun hy => by
    rw [exec_change hc hk ht, hx,
      takeChange_of_passed kind unlocked named (State.validate_of_no_refusal named hl he (check9.trans hy))]
  obtain ⟨rfl, id, y, f, rfl⟩ | ⟨rfl, id, v, rfl⟩ | ⟨rfl, id, y, rfl⟩ | ⟨rfl, id, y, rfl⟩ | ⟨rfl, id, y, rfl⟩ :=
    itemOf_eq_some hx
  · refine ⟨fun _ _ _ _ a hi ha => ?_, nofun, nofun, nofun, nofun⟩
    cases hi
    subst ha
    refine ⟨fun v w hv hw h => refused _ (State.modifyChecks_of_window hv hw h), fun window =>
      ⟨fun b hb h => refused _ (State.modifyChecks_of_held window hb h), fun covered => ?_⟩⟩
    have last := State.modifyChecks_of_covered window covered
    split
    next exceeds => exact refused _ (last.trans (if_pos exceeds))
    next within => exact queued (last.trans (if_neg within))
  · refine ⟨nofun, fun _ _ _ hi => ?_, nofun, nofun, nofun⟩
    cases hi
    split
    next unmetered => exact refused _ (topUpChecks_of_unmetered unmetered v)
    next b metered =>
      have range := topUpChecks_of_metered metered v
      split
      next exceeds => exact refused _ (range.trans (if_pos exceeds))
      next fits => exact queued (range.trans (if_neg fits))
  · exact ⟨nofun, nofun, fun _ => queued rfl, nofun, nofun⟩
  · exact ⟨nofun, nofun, nofun, fun _ => queued rfl, nofun⟩
  · exact ⟨nofun, nofun, nofun, nofun, fun _ => queued rfl⟩

end Sys2Proof.Machine
end

section
/-! Relocate: its checks, its target, and the MOVE that it queues (O25). -/

namespace Sys2Proof.Machine

variable {s : State} {r : Request} {id : List Byte} {target : Option Nat} {slot t : Nat}

/-! ### The target (R21, R135) -/

@[simp] theorem State.dequeue_eligibleTarget (s : State) (p : Port) (id : List Byte) (t : Nat) :
    (s.dequeue p).eligibleTarget id t = s.eligibleTarget id t := by cases p <;> rfl

@[simp] theorem State.dequeue_badSlotFields (s : State) (p : Port) (t : Nat) :
    (s.dequeue p).badSlotFields t = s.badSlotFields t := by cases p <;> rfl

theorem State.dequeue_spendFree (s : State) (p : Port) (t : Nat) :
    (s.dequeue p).spendFree t = (s.spendFree t).dequeue p := by
  unfold State.spendFree
  split
  · rfl
  · cases p <;> rfl

/-- A named target is eligible where it exists, is FREE and sound, and may hold the ID (R21). -/
theorem State.eligibleTarget_eq_true : s.eligibleTarget id t = true ↔ t ≤ 4351 ∧ (s.slot t).content = .free ∧
    (s.slot t).worn = false ∧ (t ∈ waysOf (homeBucket id) ∨ 4096 ≤ t) := by
  simp only [State.eligibleTarget, Bool.and_eq_true, Bool.or_eq_true, decide_eq_true_eq, List.contains_iff_mem,
    State.placeable_iff, inSpill_iff]
  constructor
  · rintro ⟨⟨within, free, sound⟩, lies⟩
    exact ⟨Nat.le_of_lt_succ within, free, sound, lies.imp_right And.left⟩
  · rintro ⟨within, free, sound, lies⟩
    exact ⟨⟨Nat.lt_succ_of_le within, free, sound⟩, lies.imp_right fun low => ⟨low, Nat.lt_succ_of_le within⟩⟩

/-! ### The take (R135) -/

theorem exec_relocate (ht : s.takeable .mp .relocate = some r) :
    exec .relocate s = .next (takeRelocate r (s.dequeue .mp)) :=
  congrArg Host.Outcome.next (State.take_of_takeable ht takeRelocate)

theorem exec_relocate_of_malformed (ht : s.takeable .mp .relocate = some r) (hr : readRelocate r.payload = none) :
    exec .relocate s = .next (s.answered .mp ⟨0x2A#8, r.tag, .badField, []⟩) := by
  rw [exec_relocate ht]
  simp only [takeRelocate, hr, State.dequeue_answer, State.takeable_kind ht, Kind.code]

theorem exec_relocate_of_locked (ht : s.takeable .mp .relocate = some r) (hr : readRelocate r.payload = some (id, target))
    (locked : s.batch.isLocked = true) :
    exec .relocate s = .next (s.answered .mp ⟨0x2A#8, r.tag, .applyInProgress, []⟩) := by
  rw [exec_relocate ht]
  simp only [takeRelocate, hr, State.dequeue_batch, locked, if_true, State.dequeue_answer, State.takeable_kind ht, Kind.code]

theorem exec_relocate_of_absent (ht : s.takeable .mp .relocate = some r) (hr : readRelocate r.payload = some (id, target))
    (unlocked : s.batch.isLocked = false) (hl : s.lookup id = none) :
    exec .relocate s = .next (s.answered .mp ⟨0x2A#8, r.tag, .notFound, []⟩) := by
  rw [exec_relocate ht]
  simp only [takeRelocate, hr, State.dequeue_batch, unlocked, Bool.false_eq_true, if_false, State.dequeue_lookup, hl,
    State.dequeue_answer, State.takeable_kind ht, Kind.code]

theorem exec_relocate_of_pending (ht : s.takeable .mp .relocate = some r) (hr : readRelocate r.payload = some (id, target))
    (unlocked : s.batch.isLocked = false) (hl : s.lookup id = some slot) (pending : s.isPending slot = true) :
    exec .relocate s = .next (s.answered .mp ⟨0x2A#8, r.tag, .entryBusy, [s.pendingCode slot]⟩) := by
  rw [exec_relocate ht]
  simp only [takeRelocate, hr, State.dequeue_batch, unlocked, Bool.false_eq_true, if_false, State.dequeue_lookup, hl,
    State.dequeue_isPending, pending, if_true, State.dequeue_pendingCode, State.dequeue_answer, State.takeable_kind ht, Kind.code]

/-- Past its first four checks a Relocate comes to the target it names. -/
theorem exec_relocate_of_named (ht : s.takeable .mp .relocate = some r)
    (hr : readRelocate r.payload = some (id, some t)) (unlocked : s.batch.isLocked = false) (hl : s.lookup id = some slot)
    (free : s.isPending slot = false) : exec .relocate s = .next
      (if s.eligibleTarget id t = true then
        (s.setSlot t { s.slot t with content := .reserved id .move }).accepted .mp 0x2A#8 r.tag (.moveEntry slot t)
       else (s.spendFree t).answered .mp ⟨0x2A#8, r.tag, .badSlot, s.badSlotFields t⟩) := by
  rw [exec_relocate ht]
  simp only [takeRelocate, hr, State.dequeue_batch, unlocked, Bool.false_eq_true, if_false, State.dequeue_lookup, hl,
    State.dequeue_isPending, free, State.dequeue_eligibleTarget, State.dequeue_badSlotFields, State.dequeue_spendFree,
    State.dequeue_answer, State.dequeue_reserveSlot_accept, State.takeable_kind ht, Kind.code]

section
variable (ht : s.takeable .mp .relocate = some r) (hr : readRelocate r.payload = some (id, none))
  (unlocked : s.batch.isLocked = false) (hl : s.lookup id = some slot) (free : s.isPending slot = false)
include ht hr unlocked hl free

/-- Where it names none, one is placed (R20). -/
theorem exec_relocate_of_placed (placed : s.placement id = some t) : exec .relocate s = .next
    ((s.setSlot t { s.slot t with content := .reserved id .move }).accepted .mp 0x2A#8 r.tag (.moveEntry slot t)) := by
  rw [exec_relocate ht]
  simp only [takeRelocate, hr, State.dequeue_batch, unlocked, Bool.false_eq_true, if_false, State.dequeue_lookup, hl,
    State.dequeue_isPending, free, State.dequeue_placement, placed, State.dequeue_reserveSlot_accept, State.takeable_kind ht,
    Kind.code]

theorem exec_relocate_of_full (full : s.placement id = none) :
    exec .relocate s = .next (s.answered .mp ⟨0x2A#8, r.tag, .tableFull, []⟩) := by
  rw [exec_relocate ht]
  simp only [takeRelocate, hr, State.dequeue_batch, unlocked, Bool.false_eq_true, if_false, State.dequeue_lookup, hl,
    State.dequeue_isPending, free, State.dequeue_placement, full, State.dequeue_answer, State.takeable_kind ht, Kind.code]

end

/-- Settles O25: the checks of R135 in their order, and a target named or placed. -/
theorem relocateChecksInOrder : Obligations.RelocateChecksInOrder := by
  intro r s ht
  refine ⟨exec_relocate_of_malformed ht, fun id target hr => ⟨fun locked => ?_, fun unlocked => ?_⟩⟩
  · exact exec_relocate_of_locked ht hr (Batch.isLocked_iff.2 locked)
  have unlocked := Batch.isLocked_eq_false.2 unlocked
  refine ⟨exec_relocate_of_absent ht hr unlocked, fun slot hl =>
    ⟨exec_relocate_of_pending ht hr unlocked hl, fun free => ?_⟩⟩
  refine ⟨fun t named => ?named, fun unnamed => ?unnamed⟩
  case named =>
    subst named
    rw [exec_relocate_of_named ht hr unlocked hl free]
    refine ⟨fun within empty sound lies => ?eligible, fun within bad => ?bad, fun beyond => ?beyond⟩
    case eligible => rw [if_pos (State.eligibleTarget_eq_true.2 ⟨within, empty, sound, lies⟩)]
    case bad =>
      have refused : ¬ s.eligibleTarget id t = true := fun h => by
        obtain ⟨-, empty, sound, lies⟩ := State.eligibleTarget_eq_true.1 h
        rcases bad with taken | worn | ⟨away, home⟩
        · exact taken empty
        · exact Bool.false_ne_true (sound.symm.trans worn)
        · exact lies.elim away (Nat.not_le.2 home)
      have listed : t < Config.slots := Nat.lt_succ_of_le within
      rw [if_neg refused, State.spendFree, State.badSlotFields, if_pos listed, if_pos listed]
      rfl
    case beyond =>
      have refused : ¬ s.eligibleTarget id t = true := fun h =>
        Nat.not_le.2 beyond (State.eligibleTarget_eq_true.1 h).1
      have unlisted : ¬ t < Config.slots := Nat.not_lt.2 beyond
      refine ⟨Config.freeByte s.freeIndex, Config.freeByte (s.freeIndex + 1), ?_⟩
      rw [if_neg refused, State.spendFree, State.badSlotFields, if_neg unlisted, if_neg unlisted]
  case unnamed =>
    subst unnamed
    exact ⟨fun t placed => exec_relocate_of_placed ht hr unlocked hl free placed,
      fun full => exec_relocate_of_full ht hr unlocked hl free full⟩

end Sys2Proof.Machine
end

section
/-! Read Entry, and the conditions that it reports (O26). -/

namespace Sys2Proof.Machine

variable {s : State} {r : Request} {id : List Byte} {n : Nat} {e : Entry}

/-! ### Pending (R23) -/

/-- A batch locks the slots recorded for its items that name an entry (R24, R148). -/
theorem Batch.mem_lockedSlots_iff_getElem? {b : Batch} : n ∈ b.lockedSlots ↔
    ∃ (i : Nat) (x : Item) (y : ItemRecord), b.items[i]? = some x ∧ b.records[i]? = some y ∧ x.isInsert = false ∧
      y.slot = n := by
  simp only [Batch.mem_lockedSlots, Batch.mem_recorded]
  constructor
  · rintro ⟨x, y, ⟨i, hx, hy⟩, named, lies⟩
    exact ⟨i, x, y, hx, hy, named, lies⟩
  · rintro ⟨i, x, y, hx, hy, named, lies⟩
    exact ⟨x, y, ⟨i, hx, hy⟩, named, lies⟩

/-- Being a commit for an entry is decided by its subject and the slots that the batch locks. -/
theorem State.isCommitFor_iff {d : Change} : s.isCommitFor n d ↔ d.isFor s.batch.lockedSlots n = true := by
  cases d with
  | promoteBatch => exact Batch.mem_lockedSlots_iff_getElem?.symm.trans List.contains_iff_mem.symm
  | _ => simp [State.isCommitFor, Change.isFor]

theorem State.isPending_iff : s.isPending n = true ↔ ∃ c ∈ s.commits.queue, s.isCommitFor n c.change := by
  rw [← Bool.not_eq_false, State.isPending_eq_false]
  simp [State.isCommitFor_iff]

theorem State.pendingChange_of_free (h : s.isPending n = false) : s.pendingChange n = none :=
  Option.isNone_iff_eq_none.1 (Option.isSome_eq_false_iff.1 h)

/-- The first commit for an entry in the queue is the one that it is pending by. -/
theorem State.pendingChange_of_first {front back : List Commit} {c : Commit} (hq : s.commits.queue = front ++ c :: back)
    (before : ∀ d ∈ front, ¬ s.isCommitFor n d.change) (hc : s.isCommitFor n c.change) :
    s.pendingChange n = some c.change := by
  have first : s.commits.queue.find? (fun c => c.change.isFor s.batch.lockedSlots n) = some c := by
    refine List.find?_eq_some_iff_append.2 ⟨State.isCommitFor_iff.1 hc, front, back, hq, fun d hd => ?_⟩
    simpa using mt State.isCommitFor_iff.2 (before d hd)
  rw [State.pendingChange, first]
  rfl

/-- What an entry that is not pending reports (Table 10-7). -/
theorem State.reports_of_free (h : s.isPending n = false) :
    s.pendingCode n = 0#8 ∧ s.pendingSettlement n = false ∧ s.changing n = s.locked n := by
  have none_pending := State.pendingChange_of_free h
  refine ⟨?_, ?_, ?_⟩
  · rw [State.pendingCode, none_pending]
  · rw [State.pendingSettlement, none_pending]
  · rw [State.changing, none_pending]
    exact Bool.or_false _

section
variable {d : Change} (h : s.pendingChange n = some d)
include h

theorem State.pendingCode_of_pending : s.pendingCode n = d.pendingCode := by
  rw [State.pendingCode, h]

theorem State.changing_of_pending : s.changing n = true ↔ s.locked n = true ∨ d.makesChanging = true := by
  rw [State.changing, h]
  exact Bool.or_eq_true_iff

theorem State.pendingSettlement_of_pending : s.pendingSettlement n = true ↔ ∃ m place u, d = .settleHold m place u := by
  rw [State.pendingSettlement, h]
  cases d <;> simp

end

/-- A change that makes the entry it is for changing (R24). -/
theorem Change.makesChanging_iff {d : Change} (hd : s.isCommitFor n d) : d.makesChanging = true ↔
    (∃ f, d = .modifyEntry n f) ∨ (∃ x, d = .setEntryState n x) ∨ d = .retireEntry n := by
  cases d with
  | modifyEntry m f => cases hd; simp [Change.makesChanging]
  | setEntryState m x => cases hd; simp [Change.makesChanging]
  | retireEntry m => cases hd; simp [Change.makesChanging]
  | _ => simp [Change.makesChanging]

/-- A settlement that is a commit for an entry charges a hold on it. -/
theorem Change.settlement_iff {d : Change} (hd : s.isCommitFor n d) :
    (∃ m place u, d = .settleHold m place u) ↔ ∃ place u, d = .settleHold n place u := by
  constructor
  · rintro ⟨m, place, u, rfl⟩
    cases hd
    exact ⟨place, u, rfl⟩
  · rintro ⟨place, u, rfl⟩
    exact ⟨n, place, u, rfl⟩

/-! ### Locked, clear due, held (R22, R24, R25) -/

theorem State.locked_iff : s.locked n = true ↔ (s.batch.state = .writing ∨ s.batch.state = .promoting) ∧
    ∃ (i : Nat) (x : Item) (y : ItemRecord), s.batch.items[i]? = some x ∧ s.batch.records[i]? = some y ∧
      x.isInsert = false ∧ y.slot = n := by
  rw [State.locked_eq_true, Batch.isLocked_iff]
  exact and_congr_right fun _ => Batch.mem_lockedSlots_iff_getElem?

theorem State.isClearDue_iff : s.isClearDue n = true ↔
    n ∈ s.engine.clearDue ∨ ∃ c ∈ s.commits.queue, c.change = .clearEntry n := by
  rw [State.isClearDue, Bool.or_eq_true, State.clearQueued_iff, List.contains_iff_mem]

theorem State.slotRetiring_iff : s.slotRetiring n = true ↔
    ∃ e, s.entryAt n = some e ∧ (e.state = .retiring ∨ (s.slot n).retireMark = true) := by
  constructor
  · intro h
    obtain ⟨e, he⟩ := State.entryAt_of_slotRetiring h
    rw [State.slotRetiring_eq he] at h
    exact ⟨e, he, by simpa using h⟩
  · rintro ⟨e, he, h⟩
    rw [State.slotRetiring_eq he]
    simpa using h

/-- In a sound table the clear-due entries are the RETIRING ones without an open hold (R25). -/
theorem State.holdsSound.isClearDue_iff (h : s.holdsSound) : s.isClearDue n = true ↔
    s.openHolds n = 0 ∧ ∃ e, s.entryAt n = some e ∧ (e.state = .retiring ∨ (s.slot n).retireMark = true) := by
  rw [State.isClearDue, Bool.or_eq_true, List.contains_iff_mem, h.clearing n, State.slotRetiring_iff, and_comm]

theorem holdCount_eq (n : Nat) (x : Option Hold) : holdCount n x = if x.any (fun h => h.slot == n) = true then 1 else 0 := by
  cases x with
  | none => rfl
  | some h => simp [holdCount]

/-- The open holds of an entry are the places whose live hold is on it (R22). -/
theorem State.openHolds_eq_length (s : State) (n : Nat) :
    s.openHolds n = ((List.range 32).filter fun i => (s.place i).live.any fun h => h.slot == n).length := by
  have counts : ∀ l : List Nat, (l.map fun i => holdCount n (s.place i).live).sum =
      (l.filter fun i => (s.place i).live.any fun h => h.slot == n).length := by
    intro l
    induction l with
    | nil => rfl
    | cons i l ih =>
      rw [List.map_cons, List.sum_cons, ih, holdCount_eq, List.filter_cons]
      split <;> simp [Nat.add_comm]
  exact (s.openHolds_eq_sum n).trans (counts (List.range 32))

/-- The held units of an entry are the units of those holds (R22). -/
theorem State.heldUnits_eq_list_sum (s : State) (n : Nat) :
    s.heldUnits n = ((List.range 32).map fun i => holdUnits n (s.place i).live).sum := s.heldUnits_eq_sum n

/-! ### The report (R137, R138) -/

@[simp] theorem State.dequeue_entryReport (s : State) (p : Port) (n : Nat) (e : Entry) :
    (s.dequeue p).entryReport n e = s.entryReport n e := by cases p <;> rfl

theorem yesNo_inSpill (n : Nat) : yesNo (inSpill n) = if 4096 ≤ n ∧ n ≤ 4351 then 1#8 else 0#8 :=
  if_congr (inSpill_iff.trans (and_congr_right fun _ => Nat.lt_succ_iff)) rfl rfl

theorem yesNo_isNone {α : Type} (o : Option α) : yesNo o.isNone = if o.isSome then 0#8 else 1#8 := by
  cases o <;> rfl

theorem exec_readEntry (ht : s.takeable .mp .readEntry = some r) :
    exec .readEntry s = .next (takeReadEntry r (s.dequeue .mp)) :=
  congrArg Host.Outcome.next (State.take_of_takeable ht takeReadEntry)

theorem exec_readEntry_of_malformed (ht : s.takeable .mp .readEntry = some r) (hr : readEntryName r.payload = none) :
    exec .readEntry s = .next (s.answered .mp ⟨0x2B#8, r.tag, .badField, []⟩) := by
  rw [exec_readEntry ht]
  simp only [takeReadEntry, hr, State.dequeue_answer, State.takeable_kind ht, Kind.code]

theorem exec_readEntry_of_unknown (ht : s.takeable .mp .readEntry = some r) (hr : readEntryName r.payload = some (.byId id))
    (hl : s.lookup id = none) : exec .readEntry s = .next (s.answered .mp ⟨0x2B#8, r.tag, .notFound, []⟩) := by
  rw [exec_readEntry ht]
  simp only [takeReadEntry, hr, State.dequeue_lookup, hl, State.dequeue_answer, State.takeable_kind ht, Kind.code]

theorem exec_readEntry_of_bad_slot (ht : s.takeable .mp .readEntry = some r)
    (hr : readEntryName r.payload = some (.bySlot n)) (beyond : 4351 < n) :
    exec .readEntry s = .next (s.answered .mp ⟨0x2B#8, r.tag, .badSlot, []⟩) := by
  have unlisted : Config.slots ≤ n := beyond
  rw [exec_readEntry ht]
  simp only [takeReadEntry, hr, unlisted, if_true, State.dequeue_answer, State.takeable_kind ht, Kind.code]

theorem exec_readEntry_of_vacant (ht : s.takeable .mp .readEntry = some r)
    (hr : readEntryName r.payload = some (.bySlot n)) (within : n ≤ 4351) (he : s.entryAt n = none) :
    exec .readEntry s = .next (s.answered .mp ⟨0x2B#8, r.tag, .notFound,
      [(s.slot n).content.code, yesNo (s.slot n).worn]⟩) := by
  have listed : ¬ Config.slots ≤ n := Nat.not_le.2 (Nat.lt_succ_of_le within)
  rw [exec_readEntry ht]
  simp only [takeReadEntry, hr, listed, if_false, State.dequeue_entryAt, he, State.dequeue_slot, State.dequeue_answer,
    State.takeable_kind ht, Kind.code]

/-- An entry named by its ID or by its slot is reported alike. -/
theorem exec_readEntry_of_entry (ht : s.takeable .mp .readEntry = some r)
    (found : (∃ id, readEntryName r.payload = some (.byId id) ∧ s.lookup id = some n) ∨
      (readEntryName r.payload = some (.bySlot n) ∧ n ≤ 4351)) (he : s.entryAt n = some e) :
    exec .readEntry s = .next (s.answered .mp ⟨0x2B#8, r.tag, .ok, s.entryReport n e⟩) := by
  rw [exec_readEntry ht]
  rcases found with ⟨id, hr, hl⟩ | ⟨hr, within⟩
  · simp only [takeReadEntry, hr, State.dequeue_lookup, hl, State.dequeue_entryAt, he, State.dequeue_entryReport,
      State.dequeue_answer, State.takeable_kind ht, Kind.code]
  · have listed : ¬ Config.slots ≤ n := Nat.not_le.2 (Nat.lt_succ_of_le within)
    simp only [takeReadEntry, hr, listed, if_false, State.dequeue_entryAt, he, State.dequeue_entryReport,
      State.dequeue_answer, State.takeable_kind ht, Kind.code]

/-- Settles O26: each answer of the take, and each condition in its report by the commits, the batch and the holds. -/
theorem readEntryReports : Obligations.ReadEntryReports := by
  refine ⟨fun r s ht => ⟨exec_readEntry_of_malformed ht, fun id => exec_readEntry_of_unknown ht, fun n hr =>
    ⟨exec_readEntry_of_bad_slot ht hr, exec_readEntry_of_vacant ht hr⟩, fun n e found he => ?_⟩,
    fun s n => ⟨State.isPending_iff, State.reports_of_free, fun front c back hq before hc => ?_, State.locked_iff,
      State.isClearDue_iff, fun running sound => (sound.holds running).isClearDue_iff, s.openHolds_eq_length n,
      s.heldUnits_eq_list_sum n⟩⟩
  · rw [exec_readEntry_of_entry ht found he, State.entryReport, yesNo_inSpill, yesNo_isNone, State.entryState_of_mark,
      valueOrZero, State.available]
    cases e.balance <;> rfl
  · have pending := State.pendingChange_of_first hq before hc
    refine ⟨?_, ?_, ?_⟩
    · rw [State.pendingCode_of_pending pending]
      cases hd : c.change with
      | insertEntry | writeClass =>
        rw [hd] at hc
        cases hc
      | _ => rfl
    · rw [State.pendingSettlement_of_pending pending, Change.settlement_iff hc]
    · rw [State.changing_of_pending pending, Change.makesChanging_iff hc]

end Sys2Proof.Machine
end

section
/-! The completions of Insert (O30), Modify, Top Up, Bar and Unbar (O31). -/

namespace Sys2Proof.Machine

variable {s : State} {n : Nat} {e : Entry} {o : Origin} {rest : List Commit} {w : Work}

/-! ### Insert (R17, R127) -/

theorem exec_insertCompletion (hp : s.phase = .running) (hc : s.commits = ⟨⟨.insertEntry n e, o⟩ :: rest, some w⟩)
    (v : Verify) : exec (.insertCompletion v) s =
      .next (insertEffect ⟨.insertEntry n e, o⟩ w (w.result v) (s.ended rest (w.complete v s.store))) :=
  congrArg Host.Outcome.next (State.complete_running hp hc Change.isInsertion rfl v insertEffect)

/-- An entry that joins a slot changes the directory and the spill counts, and nothing else. -/
theorem State.occupySlot_frame (s : State) (n : Nat) (e : Entry) : s.occupySlot n e = { s with
    engine := { s.engine with
      slots := (s.occupySlot n e).engine.slots
      spillCounts := (s.occupySlot n e).engine.spillCounts } } := by
  unfold State.occupySlot State.spillGain
  split <;> rfl

theorem State.spillCount_occupySlot (s : State) (n : Nat) (e : Entry) (b : Nat) : (s.occupySlot n e).spillCount b =
    s.spillCount b + (if inSpill n = true ∧ b = homeBucket e.id then 1 else 0) :=
  State.spillCount_spillGain _ _ _ _

/-- Settles O30: the entry joins its slot, or the slot is spoiled. -/
theorem insertCompletes : Obligations.InsertCompletes := by
  intro s n e o rest hp hc
  refine ⟨?ok, exec_insertCompletion hp hc .fault⟩
  refine ⟨(s.ended rest (s.store.writeImage n e)).occupySlot n e, exec_insertCompletion hp hc .ok, ?slot, fun m hm => ?others,
    ?count, fun b hb => ?counts, ?store, ?commits, ?frame⟩
  case slot => exact (State.slot_occupySlot _ _ _ _).trans (if_pos rfl)
  case others => exact (State.slot_occupySlot _ _ _ _).trans (if_neg hm)
  case count =>
    rw [State.spillCount_occupySlot]
    simp only [inSpill_iff, and_true]
    rfl
  case counts =>
    rw [State.spillCount_occupySlot, if_neg (fun h => hb h.2)]
    rfl
  case store | commits | frame =>
    rw [State.occupySlot_frame]
    rfl

/-! ### Modify, Top Up, Bar and Unbar (R130, R131, R132) -/

theorem exec_modifyCompletion (hp : s.phase = .running) {f : FieldChanges}
    (hc : s.commits = ⟨⟨.modifyEntry n f, o⟩ :: rest, some w⟩) (v : Verify) : exec (.modifyCompletion v) s =
      .next (modifyEffect ⟨.modifyEntry n f, o⟩ w (w.result v) (s.ended rest (w.complete v s.store))) :=
  congrArg Host.Outcome.next (State.complete_running hp hc Change.isModification rfl v modifyEffect)

theorem exec_topUpCompletion (hp : s.phase = .running) {amount : Nat}
    (hc : s.commits = ⟨⟨.topUpEntry n amount, o⟩ :: rest, some w⟩) (v : Verify) : exec (.topUpCompletion v) s =
      .next (topUpEffect ⟨.topUpEntry n amount, o⟩ w (w.result v) (s.ended rest (w.complete v s.store))) :=
  congrArg Host.Outcome.next (State.complete_running hp hc Change.isTopUp rfl v topUpEffect)

theorem exec_barCompletion (hp : s.phase = .running) {x : EntryState}
    (hc : s.commits = ⟨⟨.setEntryState n x, o⟩ :: rest, some w⟩) (v : Verify) : exec (.barCompletion v) s =
      .next (barEffect ⟨.setEntryState n x, o⟩ w (w.result v) (s.ended rest (w.complete v s.store))) :=
  congrArg Host.Outcome.next (State.complete_running hp hc Change.isBar rfl v barEffect)

/-- The revision that a refused write reports is that of the entry still there. -/
theorem State.revisionAt_of_entry (he : s.entryAt n = some e) : s.revisionAt n = byte e.revision := by
  rw [State.revisionAt, he]
  rfl

/-- A Top Up completed with OK reports the new balance and what of it is not held (R131, log 15). -/
theorem topUpEffect_of_metered {b : Nat} (hb : e.balance = some b) (c : Commit) (t : State) :
    topUpEffect c (.writeImage n e) .ok t = (t.setEntry n e).report c.origin .ok
      (be 3 b ++ be 3 (b - t.heldUnits n) ++ [byte e.revision]) := by
  have available : (t.setEntry n e).available n e = some (b - t.heldUnits n) := by
    rw [State.available, hb]
    rfl
  simp only [topUpEffect, available, hb, Option.getD_some]

/-- Settles O31: the image stands in both copies of the slot, or both carry the wear mark. -/
theorem imageWritesComplete : Obligations.ImageWritesComplete := by
  intro s n e old o rest good bad hp he hgood hbad
  subst hgood hbad
  refine ⟨fun f hc => ⟨exec_modifyCompletion hp hc .ok, ?worn⟩, fun v b hc hb => ⟨?toppedUp, exec_topUpCompletion hp hc .fault⟩,
    fun x hc => ⟨exec_barCompletion hp hc .ok, exec_barCompletion hp hc .fault⟩⟩
  case worn =>
    rw [exec_modifyCompletion hp hc .fault, ← State.revisionAt_of_entry he]
    rfl
  case toppedUp =>
    exact (exec_topUpCompletion hp hc .ok).trans (congrArg Host.Outcome.next (topUpEffect_of_metered hb _ _))

end Sys2Proof.Machine
end

section
/-! The buffer of a batch: Stage and the item that joins it (O36), Discard and Read Batch (O37). -/

namespace Sys2Proof.Machine

variable {s : State} {r : Request} {x y : Item} {b : Batch}

/-- A count of one byte is sent as that byte (R189). -/
theorem be_one (v : Nat) : be 1 v = [byte v] := by
  simp [be, byte]

/-- A take that rewrites the batch and answers does both on the state without the request. -/
theorem State.dequeue_setBatch_answer (s : State) (b : Batch) (r : Request) (status : Status) (payload : List Byte) :
    ((s.dequeue .mp).setBatch b).answer .mp r status payload =
      (s.setBatch b).answered .mp ⟨r.kind.code, r.tag, status, payload⟩ := rfl

/-! ### Stage (R139, R141) -/

theorem exec_stage (ht : s.takeable .mp .stage = some r) : exec .stage s = .next (takeStage r (s.dequeue .mp)) :=
  congrArg Host.Outcome.next (State.take_of_takeable ht _)

/-- The item found is the first that names the ID. -/
theorem Batch.indexOf_eq_some {i : Nat} (hi : b.items[i]? = some y) (hid : y.id = x.id)
    (first : ∀ j z, j < i → b.items[j]? = some z → z.id ≠ x.id) : b.indexOf x.id = some i := by
  obtain ⟨bound, rfl⟩ := List.getElem?_eq_some_iff.1 hi
  refine List.findIdx?_eq_some_iff_getElem.2 ⟨bound, decide_eq_true hid, fun j hj => ?_⟩
  simpa using first j _ hj (List.getElem?_eq_getElem (hj.trans bound))

theorem Batch.indexOf_of_new (new : ∀ y ∈ b.items, y.id ≠ x.id) : b.indexOf x.id = none :=
  List.findIdx?_eq_none_iff.2 fun y hy => decide_eq_false (new y hy)

theorem takeStage_of_locked (hk : r.kind = .stage) (locked : s.batch.isLocked = true) :
    takeStage r (s.dequeue .mp) = s.answered .mp ⟨0x30#8, r.tag, .batchBusy, []⟩ := by
  simp only [takeStage, State.dequeue_batch, locked, if_true, State.dequeue_answer, hk, Kind.code]

theorem takeStage_of_malformed (hk : r.kind = .stage) (unlocked : s.batch.isLocked = false)
    (hr : readStage r.payload = none) :
    takeStage r (s.dequeue .mp) = s.answered .mp ⟨0x30#8, r.tag, .badField, []⟩ := by
  simp only [takeStage, State.dequeue_batch, unlocked, Bool.false_eq_true, if_false, hr, State.dequeue_answer, hk, Kind.code]

section
variable (hk : r.kind = .stage) (unlocked : s.batch.isLocked = false) (hr : readStage r.payload = some x)
include hk unlocked hr

theorem takeStage_of_full (full : 24 ≤ s.batch.items.length) :
    takeStage r (s.dequeue .mp) = s.answered .mp ⟨0x30#8, r.tag, .batchFull, []⟩ := by
  simp only [takeStage, State.dequeue_batch, unlocked, Bool.false_eq_true, if_false, hr, Config.batchItems, full, if_true,
    State.dequeue_answer, hk, Kind.code]

theorem takeStage_of_duplicate (room : s.batch.items.length < 24) {i : Nat} (found : s.batch.indexOf x.id = some i) :
    takeStage r (s.dequeue .mp) = s.answered .mp ⟨0x30#8, r.tag, .duplicateInBatch, [byte i]⟩ := by
  simp only [takeStage, State.dequeue_batch, unlocked, Bool.false_eq_true, if_false, hr, Config.batchItems,
    Nat.not_le.2 room, found, be_one, State.dequeue_answer, hk, Kind.code]

/-- An item whose ID no item before it names joins the buffer at its end (R141). -/
theorem takeStage_of_new (room : s.batch.items.length < 24) (new : s.batch.indexOf x.id = none) :
    takeStage r (s.dequeue .mp) =
      { s with batch := { s.batch with state := .opened, items := s.batch.items ++ [x] } }.answered .mp
        ⟨0x30#8, r.tag, .ok, [byte s.batch.items.length, byte (s.batch.items.length + 1)]⟩ := by
  simp only [takeStage, State.dequeue_batch, unlocked, Bool.false_eq_true, if_false, hr, Config.batchItems,
    Nat.not_le.2 room, new, be_one, List.cons_append, List.nil_append,
    State.dequeue_setBatch_answer, hk]
  rfl

end

/-- Settles O36: each check answers where those before it have passed. -/
theorem stageChecksInOrder : Obligations.StageChecksInOrder := by
  intro r s ht
  have kind : r.kind = .stage := State.takeable_kind ht
  rw [exec_stage ht]
  refine ⟨fun locked => ?busy, fun unlocked => ?_⟩
  case busy => rw [takeStage_of_locked kind (Batch.isLocked_iff.2 locked)]
  have unlocked := Batch.isLocked_eq_false.2 unlocked
  refine ⟨fun hr => ?malformed, fun x hr => ⟨fun full => ?full, fun room =>
    ⟨fun i y hi hid first => ?duplicate, fun new => ?new⟩⟩⟩
  case malformed => rw [takeStage_of_malformed kind unlocked hr]
  case full => rw [takeStage_of_full kind unlocked hr full]
  case duplicate => rw [takeStage_of_duplicate kind unlocked hr room (Batch.indexOf_eq_some hi hid first)]
  case new => rw [takeStage_of_new kind unlocked hr room (Batch.indexOf_of_new new)]

/-! ### Discard (R142) -/

theorem exec_discard (ht : s.takeable .mp .discard = some r) : exec .discard s = .next (takeDiscard r (s.dequeue .mp)) :=
  congrArg Host.Outcome.next (State.take_of_takeable ht _)

theorem takeDiscard_of_empty (hk : r.kind = .discard) (empty : s.batch.state = .empty) :
    takeDiscard r (s.dequeue .mp) = s.answered .mp ⟨0x32#8, r.tag, .batchEmpty, []⟩ := by
  simp only [takeDiscard, State.dequeue_batch, empty, State.dequeue_answer, hk, Kind.code]

theorem takeDiscard_of_locked (hk : r.kind = .discard) (locked : s.batch.state = .writing ∨ s.batch.state = .promoting) :
    takeDiscard r (s.dequeue .mp) = s.answered .mp ⟨0x32#8, r.tag, .batchBusy, []⟩ := by
  rcases locked with locked | locked
  all_goals simp only [takeDiscard, State.dequeue_batch, locked, State.dequeue_answer, hk, Kind.code]

/-- An OPEN buffer is emptied (R142). -/
theorem takeDiscard_of_opened (hk : r.kind = .discard) (opened : s.batch.state = .opened) :
    takeDiscard r (s.dequeue .mp) =
      { s with batch := { s.batch with state := .empty, items := [], lastResult := none } }.answered .mp
        ⟨0x32#8, r.tag, .ok, [byte s.batch.items.length]⟩ := by
  simp only [takeDiscard, State.dequeue_batch, opened, be_one, State.dequeue_setBatch_answer, hk]
  rfl

/-! ### Read Batch (R143) -/

theorem exec_readBatch (ht : s.takeable .mp .readBatch = some r) :
    exec .readBatch s = .next (s.answered .mp ⟨0x33#8, r.tag, .ok, s.batch.report⟩) := by
  refine congrArg Host.Outcome.next ((State.take_of_takeable ht _).trans ?_)
  rw [takeReadBatch, State.dequeue_batch, State.dequeue_answer, State.takeable_kind ht]
  rfl

/-- The parts of the report in their order; the counts of stage writes are in that of a locked batch alone (R143). -/
theorem Batch.report_eq (b : Batch) : b.report = [b.state.code, byte b.items.length] ++ lastResultField b.lastResult
    ++ (if b.isLocked = true then [byte b.needed, byte b.staged] else []) := by
  simp only [Batch.report, be_one, List.cons_append, List.nil_append]

/-- Settles O37: each batch state has its answer to a Discard, and the report is made of its parts. -/
theorem discardAndReadBatch : Obligations.DiscardAndReadBatch := by
  refine ⟨fun r s ht => ?_, fun r s ht => ?_⟩
  · have kind : r.kind = .discard := State.takeable_kind ht
    rw [exec_discard ht]
    refine ⟨fun opened => ?_, fun empty => ?_, fun locked => ?_⟩
    · rw [takeDiscard_of_opened kind opened]
    · rw [takeDiscard_of_empty kind empty]
    · rw [takeDiscard_of_locked kind locked]
  · rw [exec_readBatch ht, Batch.report_eq, if_congr Batch.isLocked_iff rfl rfl]
    refine congrArg (fun report => Host.Outcome.next (s.answered .mp ⟨0x33#8, r.tag, .ok, report⟩))
      (congrArg (· ++ _) (congrArg₂ (· ++ ·) (congrArg (· :: _) ?state) ?result))
    case state => cases s.batch.state <;> rfl
    case result =>
      cases s.batch.lastResult with
      | none => rfl
      | some result =>
        obtain ⟨origin, index, status⟩ := result
        cases origin <;> rfl

end Sys2Proof.Machine
end

section
/-! Apply: its refusals, and the validation of its items one after the other (O38). -/

namespace Sys2Proof.Machine

variable {s : State} {r : Request} {x : Item} {items : List Item} {slots : List Nat} {n slot : Nat} {e : Entry}
  {status : Status}

/-! ### One item judged (R145, R146) -/

theorem State.judged_eq_ok : s.judged x = .ok n ↔ s.validate s.inhibited x = .ok n := by
  unfold State.judged
  split
  next m h => simp [h]
  next st fields h => simp [h]

theorem State.judged_eq_error : s.judged x = .error status ↔
    ∃ fields, s.validate s.inhibited x = .error (status, fields) := by
  unfold State.judged
  split
  next m h => simp [h]
  next st fields h => simp [h]

theorem State.judged_of_error {refusal : Refused} (h : s.validate s.inhibited x = .error refusal) :
    s.judged x = .error refusal.1 :=
  State.judged_eq_error.2 ⟨refusal.2, h⟩

/-- An INSERT item is judged by the checks of an Insert (R126, R145). -/
theorem State.judged_insert (s : State) (e : Entry) : s.judged (.insert e) =
    if (s.foundOrReserved e.id).isSome = true then .error .alreadyPresent
    else if s.inhibited = true ∧ s.underGuard e.cls = true then .error .guarded
    else match s.placement e.id with
      | some n => .ok n
      | none => .error .tableFull := by
  cases found : s.foundOrReserved e.id with
  | some n => exact State.judged_of_error (State.validateInsert_of_present found)
  | none =>
    rw [if_neg (by simp)]
    split
    next guarded => exact State.judged_of_error (State.validateInsert_of_guarded found guarded)
    next unguarded =>
      cases placed : s.placement e.id with
      | some n => exact State.judged_eq_ok.2 (State.validateInsert_of_placed found unguarded placed)
      | none => exact State.judged_of_error (State.validateInsert_of_full found unguarded placed)

section
variable (named : x.isInsert = false) (hl : s.lookup x.id = some slot) (he : s.entryAt slot = some e)
include named hl he

theorem State.judged_of_refusal {refusal : Refused}
    (h : firstRefusal (s.entryChecks s.inhibited x slot e) = some refusal) : s.judged x = .error refusal.1 :=
  State.judged_of_error (State.validate_of_refusal named hl he h)

theorem State.judged_of_no_refusal (h : firstRefusal (s.entryChecks s.inhibited x slot e) = none) : s.judged x = .ok slot :=
  State.judged_eq_ok.2 (State.validate_of_no_refusal named hl he h)

/-- Past checks 4 to 8, check 9 of the kind decides. -/
theorem State.judged_of_none_failing (passes : ∀ m, ¬ s.changeFails x slot e m) :
    s.judged x = match (firstRefusal (s.kindChecks slot e x)).map (·.1) with
      | some status => .error status
      | none => .ok slot := by
  have check9 := State.firstRefusal_of_none_failing passes
  cases h : firstRefusal (s.kindChecks slot e x) with
  | some refusal => exact State.judged_of_refusal named hl he (check9.trans h)
  | none => exact State.judged_of_no_refusal named hl he (check9.trans h)

end

/-- Check 9 of a Modify: the window, then the held units, then the open holds (R129). -/
theorem State.modifyChecks_status (s : State) (slot : Nat) (a : Entry) :
    (firstRefusal (s.modifyChecks slot a)).map (·.1) =
      if windowOk a.validFrom a.validUntil = false then some .badField
      else if (a.balance.any fun b => decide (b < s.heldUnits slot)) = true then some .held
      else if a.holdsLimit < s.openHolds slot then some .held
      else none := by
  cases hb : a.balance with
  | none =>
    simp only [State.modifyChecks, hb, firstRefusal_cons, firstRefusal_nil, decide_eq_true_eq, Bool.not_eq_true',
      Option.any_none, Bool.false_eq_true, if_false]
    split_ifs <;> rfl
  | some b =>
    simp only [State.modifyChecks, hb, firstRefusal_cons, firstRefusal_nil, decide_eq_true_eq, Bool.not_eq_true',
      Option.any_some]
    split_ifs <;> rfl

/-- Check 9 of a Top Up: a metered entry, whose balance stays within its three bytes (R131). -/
theorem topUpChecks_status (e : Entry) (amount : Nat) :
    (firstRefusal (topUpChecks e amount)).map (·.1) =
      if e.balance = none then some .badField
      else if (e.balance.any fun b => decide (16777215 < b + amount)) = true then some .range
      else none := by
  cases hb : e.balance with
  | none =>
    rw [topUpChecks_of_unmetered hb, if_pos rfl]
    rfl
  | some b =>
    simp only [topUpChecks_of_metered hb, reduceCtorEq, if_false, Option.any_some, decide_eq_true_eq]
    split_ifs <;> rfl

/-! ### The items one after the other (R145, R146) -/

/-- Items that pass their validation with these slots, each judged after the reservations of those before it. -/
def State.passes (s : State) (items : List Item) (slots : List Nat) : Prop :=
  ∀ (j : Nat) (x : Item) (n : Nat), items[j]? = some x → slots[j]? = some n →
    (s.afterReservations ((items.zip slots).take j)).judged x = .ok n

theorem State.passWith_iff : s.passWith slots ↔ s.passes s.batch.items slots := Iff.rfl

theorem State.afterReservations_cons (s : State) (x : Item) (n : Nat) (l : List (Item × Nat)) :
    s.afterReservations ((x, n) :: l) = (s.reserveFor x n .batchInsert).afterReservations l := rfl

theorem State.passes_nil (s : State) (items : List Item) : s.passes items [] := fun _ _ _ _ h => nomatch h

/-- The first item is judged as the state stands, and the others after its reservation. -/
theorem State.passes_cons : s.passes (x :: items) (n :: slots) ↔
    s.judged x = .ok n ∧ (s.reserveFor x n .batchInsert).passes items slots := by
  constructor
  · exact fun h => ⟨h 0 x n rfl rfl, fun j y m hy hm => h (j + 1) y m hy hm⟩
  · rintro ⟨first, others⟩ (_ | j) y m hy hm
    · cases hy
      cases hm
      exact first
    · exact others j y m hy hm

/-- A reservation writes the content of its slot alone (R14). -/
theorem State.reserveFor_eq (s : State) (x : Item) (n : Nat) (h : Holder) : s.reserveFor x n h =
    { s with engine := { s.engine with slots := (s.reserveFor x n h).engine.slots } } := by
  unfold State.reserveFor
  split <;> rfl

theorem State.reserveFor_worn (s : State) (x : Item) (n : Nat) (h : Holder) (m : Nat) :
    ((s.reserveFor x n h).slot m).worn = (s.slot m).worn := by
  unfold State.reserveFor
  split
  · rw [State.reserveSlot, State.slot_setSlot]
    split
    next same => rw [same]
    next => rfl
  · rfl

theorem State.reserveFor_inhibited (s : State) (x : Item) (n : Nat) (h : Holder) :
    (s.reserveFor x n h).inhibited = s.inhibited := by
  rw [State.reserveFor_eq]

theorem State.reserveFor_openHolds (s : State) (x : Item) (n : Nat) (h : Holder) (m : Nat) :
    (s.reserveFor x n h).openHolds m = s.openHolds m := by
  rw [State.reserveFor_eq]
  rfl

theorem State.afterReservations_batch (s : State) (l : List (Item × Nat)) : (s.afterReservations l).batch = s.batch :=
  foldl_keeps (P := fun u : State => u.batch = s.batch) l
    (fun u x _ hu => (congrArg State.batch (u.reserveFor_eq x.1 x.2 .batchInsert)).trans hu) s rfl

/-- A stage write is needed but for a RETIRE of an entry with no open hold or in a WORN slot (R151). -/
theorem State.needsStage_eq (s : State) (x : Item) (n : Nat) :
    s.needsStage x n = !(x.isRetire && (decide (s.openHolds n = 0) || (s.slot n).worn)) := by
  cases x <;> simp [State.needsStage, Item.isRetire, State.wornResident]

theorem State.reserveFor_needsStage (s : State) (x y : Item) (n m : Nat) (h : Holder) :
    (s.reserveFor x n h).needsStage y m = s.needsStage y m := by
  rw [State.needsStage_eq, State.needsStage_eq, State.reserveFor_openHolds, State.reserveFor_worn]

/-- The records of items that passed with these slots (R139, R151). -/
def State.recordsOf (s : State) (l : List (Item × Nat)) : List ItemRecord :=
  l.map fun x => ⟨x.2, s.needsStage x.1 x.2⟩

theorem State.reserveFor_recordsOf (s : State) (x : Item) (n : Nat) (h : Holder) (l : List (Item × Nat)) :
    (s.reserveFor x n h).recordsOf l = s.recordsOf l :=
  List.map_congr_left fun _ _ => by rw [State.reserveFor_needsStage]

/-- A validation whose first item passes goes on after its reservation. -/
theorem State.validateItems_cons {index : Nat} (first : s.judged x = .ok n) :
    s.validateItems s.inhibited index (x :: items) =
      ((s.reserveFor x n .batchInsert).validateItems (s.reserveFor x n .batchInsert).inhibited (index + 1) items).map
        fun y => (y.1, ⟨n, s.needsStage x n⟩ :: y.2) := by
  simp only [State.validateItems, State.judged_eq_ok.1 first, State.reserveFor_inhibited]
  split <;> simp_all [Except.map]

theorem State.validateItems_of_refused {index : Nat} (first : s.judged x = .error status) :
    s.validateItems s.inhibited index (x :: items) = .error (index, status) := by
  obtain ⟨fields, refused⟩ := State.judged_eq_error.1 first
  simp only [State.validateItems, refused]

/-- The first item that fails ends the validation with its index and status (R147). -/
theorem State.validateItems_of_failing {index : Nat} (passes : s.passes items slots)
    (hx : items[slots.length]? = some x)
    (failing : (s.afterReservations (items.zip slots)).judged x = .error status) :
    s.validateItems s.inhibited index items = .error (index + slots.length, status) := by
  induction slots generalizing s items index with
  | nil =>
    obtain ⟨rest, rfl⟩ : ∃ rest, items = x :: rest := by
      cases items with
      | nil => cases hx
      | cons y rest => cases hx; exact ⟨rest, rfl⟩
    rw [List.zip_nil_right] at failing
    exact State.validateItems_of_refused failing
  | cons n slots ih =>
    cases items with
    | nil => cases hx
    | cons y rest =>
      obtain ⟨first, others⟩ := State.passes_cons.1 passes
      rw [State.validateItems_cons first, ih others hx failing]
      simp [Except.map, Nat.add_assoc, Nat.add_comm 1]

/-- Items that all pass leave their reservations and records (R145, R146, R148). -/
theorem State.validateItems_of_passing {index : Nat} (passes : s.passes items slots) (length : slots.length = items.length) :
    s.validateItems s.inhibited index items =
      .ok (s.afterReservations (items.zip slots), s.recordsOf (items.zip slots)) := by
  induction items generalizing s slots index with
  | nil => rfl
  | cons x items ih =>
    cases slots with
    | nil => cases length
    | cons n slots =>
      obtain ⟨first, others⟩ := State.passes_cons.1 passes
      rw [State.validateItems_cons first, ih others (Nat.succ.inj length), State.reserveFor_recordsOf]
      rfl

/-- A validation goes on until an item fails or none is left. -/
theorem State.exists_passes (s : State) (items : List Item) : ∃ slots, s.passes items slots ∧
    (slots.length = items.length ∨ ∃ x status, items[slots.length]? = some x ∧
      (s.afterReservations (items.zip slots)).judged x = .error status) := by
  induction items generalizing s with
  | nil => exact ⟨[], s.passes_nil _, .inl rfl⟩
  | cons x items ih =>
    cases judged : s.judged x with
    | error status => exact ⟨[], s.passes_nil _, .inr ⟨x, status, rfl, judged⟩⟩
    | ok n =>
      obtain ⟨slots, passes, done⟩ := ih (s.reserveFor x n .batchInsert)
      exact ⟨n :: slots, State.passes_cons.2 ⟨judged, passes⟩, done.imp (congrArg (· + 1)) id⟩

/-! ### The take (R144, R147, R148) -/

theorem exec_apply (ht : s.takeable .mp .apply = some r) : exec .apply s = .next (takeApply r (s.dequeue .mp)) :=
  congrArg Host.Outcome.next (State.take_of_takeable ht _)

theorem State.dequeue_reserveFor (s : State) (x : Item) (n : Nat) (h : Holder) :
    (s.dequeue .mp).reserveFor x n h = (s.reserveFor x n h).dequeue .mp := by
  unfold State.reserveFor
  split <;> rfl

theorem State.dequeue_needsStage (s : State) (x : Item) (n : Nat) :
    (s.dequeue .mp).needsStage x n = s.needsStage x n := by
  rw [State.needsStage_eq, State.needsStage_eq, State.dequeue_openHolds, State.dequeue_slot]

/-- The validation reads nothing of the request that is taken. -/
theorem State.dequeue_validateItems (s : State) (sample : Bool) (index : Nat) (items : List Item) :
    (s.dequeue .mp).validateItems sample index items =
      (s.validateItems sample index items).map fun y => (y.1.dequeue .mp, y.2) := by
  induction items generalizing s index with
  | nil => rfl
  | cons x items ih =>
    simp only [State.validateItems, State.dequeue_validate]
    cases s.validate sample x with
    | error refusal => rfl
    | ok n =>
      simp only [State.dequeue_reserveFor, State.dequeue_needsStage, ih]
      cases (s.reserveFor x n .batchInsert).validateItems sample (index + 1) items <;> rfl

theorem takeApply_of_empty (hk : r.kind = .apply) (empty : s.batch.state = .empty) :
    takeApply r (s.dequeue .mp) = s.answered .mp ⟨0x31#8, r.tag, .batchEmpty, []⟩ := by
  simp only [takeApply, State.dequeue_batch, empty, if_true, State.dequeue_answer, hk, Kind.code]

theorem takeApply_of_locked (hk : r.kind = .apply) (locked : s.batch.state = .writing ∨ s.batch.state = .promoting) :
    takeApply r (s.dequeue .mp) = s.answered .mp ⟨0x31#8, r.tag, .batchBusy, []⟩ := by
  have filled : s.batch.state ≠ .empty := fun h => by rw [h] at locked; simp at locked
  simp only [takeApply, State.dequeue_batch, filled, if_false, Batch.isLocked_iff.2 locked, if_true, State.dequeue_answer,
    hk, Kind.code]

section
variable (hk : r.kind = .apply) (opened : s.batch.state = .opened)
include hk opened

theorem takeApply_of_scanning (scanning : s.scan.state = .running ∨ s.scan.state = .draining) :
    takeApply r (s.dequeue .mp) = s.answered .mp ⟨0x31#8, r.tag, .scanActive, []⟩ := by
  have unlocked : s.batch.isLocked = false := Batch.isLocked_eq_false.2 (.inr opened)
  simp only [takeApply, State.dequeue_batch, opened, reduceCtorEq, if_false, unlocked, Bool.false_eq_true,
    State.dequeue_scan, scanning, if_true, State.dequeue_answer, hk, Kind.code]

variable (still : s.scan.state = .idle ∨ s.scan.state = .suspended)
include still

/-- An Apply that no refusal stops is decided by its validation (R145). -/
theorem takeApply_of_opened : takeApply r (s.dequeue .mp) =
    match s.validateItems s.inhibited 0 s.batch.items with
    | .error (index, status) => ((s.setBatch { s.batch with lastResult := some ⟨.validation, index, status⟩ }).answered .mp
        ⟨0x31#8, r.tag, .rejected, [byte index, status.code]⟩)
    | .ok (t, records) => (t.dequeue .mp).acceptApply r records := by
  have unlocked : s.batch.isLocked = false := Batch.isLocked_eq_false.2 (.inr opened)
  have idle : ¬ (s.scan.state = .running ∨ s.scan.state = .draining) := by
    rcases still with h | h <;> simp [h]
  simp only [takeApply, State.dequeue_batch, opened, reduceCtorEq, if_false, unlocked, Bool.false_eq_true,
    State.dequeue_scan, idle, State.dequeue_inhibited, State.dequeue_validateItems]
  cases s.validateItems s.inhibited 0 s.batch.items with
  | error failure =>
    simp only [Except.map, State.dequeue_setBatch_answer, hk, be_one]
    rfl
  | ok plan => rfl

end

/-- The accepted Apply on the state with its reservations (R148). -/
theorem State.dequeue_acceptApply (t : State) (hk : r.kind = .apply) (records : List ItemRecord) :
    (t.dequeue .mp).acceptApply r records = (t.setBatch (t.batch.accepted r.tag records)).answeredWithNotice
      ⟨0x31#8, r.tag, .accepted, [byte t.batch.items.length, byte (records.filter (·.needsStage)).length]⟩ 0xB1#8 r.tag := by
  rw [State.acceptApply_eq, State.dequeue_batch, State.dequeue_setBatch_answer, State.answered_reserve, hk, be_one, be_one]
  rfl

/-- Settles O38: the refusals, then the validation item by item. -/
theorem applyOutcomes : Obligations.ApplyOutcomes := by
  refine ⟨fun r s ht => ?take, State.judged_insert, fun s x named => ⟨fun absent => ?absent, fun slot e hl he =>
    ⟨fun n fails first => ?refused, fun passes => ?passed⟩⟩⟩
  case absent => exact State.judged_of_error (State.validate_of_absent named absent)
  case refused => exact State.judged_of_refusal named hl he (State.firstRefusal_of_first_failing fails first)
  case passed =>
    rw [State.judged_of_none_failing named hl he passes]
    cases x with
    | modify id y f =>
      dsimp only [State.kindChecks]
      rw [State.modifyChecks_status]
      split_ifs <;> rfl
    | topUp id amount =>
      dsimp only [State.kindChecks]
      rw [topUpChecks_status]
      split_ifs <;> rfl
    | _ => rfl
  case take =>
    have kind : r.kind = .apply := State.takeable_kind ht
    rw [exec_apply ht]
    refine ⟨fun empty => ?_, fun locked => ?_, fun opened scanning => ?_, fun opened still =>
      ⟨fun slots x status passes hx failing => ?_, fun slots records passes length hr => ?_, s.exists_passes _⟩⟩
    · rw [takeApply_of_empty kind empty]
    · rw [takeApply_of_locked kind locked]
    · rw [takeApply_of_scanning kind opened scanning]
    · rw [takeApply_of_opened kind opened still,
        State.validateItems_of_failing (State.passWith_iff.1 passes) hx failing, Nat.zero_add]
      rfl
    · have same : records = s.recordsOf (s.batch.items.zip slots) :=
        hr.trans (List.map_congr_left fun x _ => by rw [State.needsStage_eq])
      rw [takeApply_of_opened kind opened still, State.validateItems_of_passing (State.passWith_iff.1 passes) length,
        ← same]
      dsimp only
      rw [State.dequeue_acceptApply _ kind, State.afterReservations_batch]
      rfl

end Sys2Proof.Machine
end

section
/-! The feed of the batch unit (O39), and the completion of a stage write (O40). -/

namespace Sys2Proof.Machine

variable {s : State} {b b' : Batch} {c : Change} {i n : Nat} {x : ItemRecord}

/-! ### What the batch unit has ready (R151) -/

/-- The next stage write is that of the first record from the feed on that needs one. -/
theorem nextStage_drop_eq_some {l : List ItemRecord} {fed : Nat} (low : fed ≤ i) (hx : l[i]? = some x)
    (need : x.needsStage = true)
    (first : ∀ j y, fed ≤ j → j < i → l[j]? = some y → y.needsStage = false) :
    nextStage fed (l.drop fed) = some (i, x) := by
  cases h : nextStage fed (l.drop fed) with
  | none =>
    have mem : x ∈ l.drop fed :=
      List.mem_of_getElem? (i := i - fed) (by rw [List.getElem?_drop, Nat.add_sub_cancel' low, hx])
    rw [nextStage_eq_none h x mem] at need
    cases need
  | some found =>
    obtain ⟨j, y⟩ := found
    obtain ⟨k, rfl, hy, hneed, before⟩ := nextStage_eq_some h
    rw [List.getElem?_drop] at hy
    rcases Nat.lt_trichotomy (fed + k) i with lt | rfl | gt
    · rw [first (fed + k) y (Nat.le_add_right _ _) lt hy] at hneed
      cases hneed
    · rw [hy] at hx
      cases hx
      rfl
    · have skipped := before (i - fed) x (by omega) (by rw [List.getElem?_drop, Nat.add_sub_cancel' low, hx])
      rw [skipped] at need
      cases need

theorem nextStage_drop_eq_none {l : List ItemRecord} {fed : Nat}
    (none_needs : ∀ j y, fed ≤ j → l[j]? = some y → y.needsStage = false) : nextStage fed (l.drop fed) = none := by
  cases h : nextStage fed (l.drop fed) with
  | none => rfl
  | some found =>
    obtain ⟨j, y⟩ := found
    obtain ⟨k, -, hy, hneed, -⟩ := nextStage_eq_some h
    rw [List.getElem?_drop] at hy
    rw [none_needs (fed + k) y (Nat.le_add_right _ _) hy] at hneed
    cases hneed

theorem Batch.offer_stage (writing : b.state = .writing) (low : b.fed ≤ i) (hx : b.records[i]? = some x)
    (need : x.needsStage = true)
    (first : ∀ j y, b.fed ≤ j → j < i → b.records[j]? = some y → y.needsStage = false) :
    b.offer = some (.stageItem i x.slot, { b with fed := i + 1 }) := by
  simp only [Batch.offer, writing, nextStage_drop_eq_some low hx need first]

/-- After the last stage write the PROMOTE is ready, once. -/
theorem Batch.offer_promote (writing : b.state = .writing)
    (none_needs : ∀ j y, b.fed ≤ j → b.records[j]? = some y → y.needsStage = false) :
    b.offer = if b.promoteFed = true then none
      else some (.promoteBatch, { b with fed := b.records.length, promoteFed := true }) := by
  simp only [Batch.offer, writing, nextStage_drop_eq_none none_needs]

/-! ### Its admission (R23, R105, R106) -/

theorem State.clearDueOffer_eq_none : s.clearDueOffer = none ↔ ∀ n ∈ s.engine.clearDue, s.isPending n = true := by
  simp [State.clearDueOffer]

/-- The batch unit goes behind every clear-due entry that can be offered (R106). -/
theorem State.admitBatch_of_clearDue (h : ∃ n ∈ s.engine.clearDue, s.isPending n = false) : s.admitBatch = s := by
  have offered : s.clearDueOffer ≠ none := fun none => by
    obtain ⟨n, due, free⟩ := h
    rw [State.clearDueOffer_eq_none.1 none n due] at free
    cases free
  exact if_neg fun admits => offered admits.2

theorem State.admitBatch_of_no_offer (h : s.batch.offer = none) : s.admitBatch = s := by
  simp only [State.admitBatch, State.batchOffer, h, ite_self]

theorem State.admitBatch_of_pending (h : s.batch.offer = some (c, b')) (pending : s.hasPendingSubject c = true) :
    s.admitBatch = s := by
  simp only [State.admitBatch, State.batchOffer, h, pending, if_true, ite_self]

theorem State.admitBatch_of_offer (admits : s.admitsInternal = true)
    (clear : ∀ n ∈ s.engine.clearDue, s.isPending n = true) (h : s.batch.offer = some (c, b'))
    (free : s.hasPendingSubject c = false) : s.admitBatch = (s.setBatch b').joinQueue ⟨c, .batch⟩ := by
  simp only [State.admitBatch, admits, State.clearDueOffer_eq_none.2 clear, and_self, if_true,
    State.batchOffer_eq_some.2 ⟨h, free⟩]

/-- A stage write is for the entry of its slot where the batch locks it (R23). -/
theorem State.hasPendingSubject_stage (hl : s.batch.isLocked = true) :
    s.hasPendingSubject (.stageItem i n) = true ↔ s.locked n = true ∧ s.isPending n = true := by
  simp only [State.hasPendingSubject_iff, State.locked_eq_true, hl, true_and, Change.isFor, beq_iff_eq]
  exact ⟨fun ⟨m, mem, same, pending⟩ => same ▸ ⟨mem, pending⟩, fun ⟨mem, pending⟩ => ⟨n, mem, rfl, pending⟩⟩

/-- The PROMOTE is for every entry that the batch locks (R23). -/
theorem State.hasPendingSubject_promote (hl : s.batch.isLocked = true) :
    s.hasPendingSubject .promoteBatch = true ↔ ∃ n, s.locked n = true ∧ s.isPending n = true := by
  simp only [State.hasPendingSubject_iff, State.locked_eq_true, hl, true_and, Change.isFor, List.contains_iff_mem]
  exact exists_congr fun n => ⟨fun ⟨mem, _, pending⟩ => ⟨mem, pending⟩, fun ⟨mem, pending⟩ => ⟨mem, mem, pending⟩⟩

/-- Settles O39: what the unit has ready is admitted where no clear-due entry is offered and no entry it is for is pending. -/
theorem batchFeedsInOrder : Obligations.BatchFeedsInOrder := by
  intro s hrun hfree writing
  have admits : s.admitsInternal = true := State.admitsInternal_iff.2 ⟨hrun, hfree⟩
  have locked : s.batch.isLocked = true := Batch.isLocked_iff.2 (.inl writing)
  refine ⟨fun due => congrArg Host.Outcome.next (State.admitBatch_of_clearDue due), fun clear =>
    ⟨fun i x low hx need first => ?stage, fun none_needs => ⟨fun unfed => ?promote, fun fed => ?fed⟩⟩⟩
  case stage =>
    have offer := Batch.offer_stage writing low hx need first
    refine ⟨fun free => congrArg Host.Outcome.next (State.admitBatch_of_offer admits clear offer ?_),
      fun lock pending => congrArg Host.Outcome.next
        (State.admitBatch_of_pending offer ((State.hasPendingSubject_stage locked).2 ⟨lock, pending⟩))⟩
    refine Bool.eq_false_iff.2 fun subject => ?_
    obtain ⟨lock, pending⟩ := (State.hasPendingSubject_stage locked).1 subject
    simp [lock, pending] at free
  case promote =>
    have offer : s.batch.offer = some (.promoteBatch, { s.batch with fed := s.batch.records.length, promoteFed := true }) := by
      rw [Batch.offer_promote writing none_needs, unfed]
      rfl
    refine ⟨fun free => congrArg Host.Outcome.next (State.admitBatch_of_offer admits clear offer ?_),
      fun pending => congrArg Host.Outcome.next
        (State.admitBatch_of_pending offer ((State.hasPendingSubject_promote locked).2 pending))⟩
    refine Bool.eq_false_iff.2 fun subject => ?_
    obtain ⟨n, lock, pending⟩ := (State.hasPendingSubject_promote locked).1 subject
    rw [free n lock] at pending
    cases pending
  case fed =>
    have offer : s.batch.offer = none := by rw [Batch.offer_promote writing none_needs, if_pos fed]
    exact congrArg Host.Outcome.next (State.admitBatch_of_no_offer offer)

/-! ### The completion of a stage write (R152, R153) -/

section
variable {o : Origin} {rest : List Commit} {e : Entry}

theorem exec_stageWriteCompletion (hp : s.phase = .running)
    (hc : s.commits = ⟨⟨.stageItem i n, o⟩ :: rest, some (.writeStaged n e)⟩) (v : Verify) :
    exec (.stageWriteCompletion v) s = .next (stageEffect ⟨.stageItem i n, o⟩ (.writeStaged n e) v
      (s.ended rest ((Work.writeStaged n e).complete v s.store))) :=
  congrArg Host.Outcome.next (State.complete_running hp hc Change.isStageWrite rfl v stageEffect)

/-- A discard of staged versions writes slots alone (R117, R153). -/
theorem Store.discardStaged_frame (st : Store) : st.discardStaged = { st with slots := st.discardStaged.slots } := by
  unfold Store.discardStaged
  exact foldl_keeps (P := fun u : Store => u = { st with slots := u.slots }) _
    (fun u n _ hu => congrArg (fun v : Store => { v with slots := (u.setSlot n { u.slot n with staged := none }).slots }) hu)
    st rfl

/-- The state of a batch abandoned after the stage write of item `i` in slot `n` failed, before its notice (R153). -/
def State.abandoned (s : State) (i n : Nat) : State :=
  (s.batch.reservedSlots.foldl State.releaseSlot (s.removeBatchCommits.wearSlot n)).setBatch { s.batch with
    state := .opened, records := [], lastResult := some ⟨.store, i, .batchStoreFault⟩
    fed := 0, promoteFed := false, staged := 0 }

theorem State.abandonBatch_eq (s : State) (i n : Nat) : s.abandonBatch i n =
    (s.abandoned i n).fillReserved .mp 0xB1#8 s.batch.applyTag .batchStoreFault (byte i :: be 2 n) := by
  rw [State.abandonBatch, be_one]
  rfl

/-- An abandonment writes slots, the commit queue and the batch (R153). -/
theorem State.abandoned_frame (s : State) (i n : Nat) : s.abandoned i n = { s with
    engine := { s.engine with slots := (s.abandoned i n).engine.slots }
    commits := { s.commits with queue := notOfBatch s.commits.queue }
    batch := { s.batch with
      state := .opened, records := [], lastResult := some ⟨.store, i, .batchStoreFault⟩
      fed := 0, promoteFed := false, staged := 0 } } := by
  unfold State.abandoned
  rw [(State.releaseSlot_foldl s.batch.reservedSlots (s.removeBatchCommits.wearSlot n)).2]
  rfl

theorem State.slot_abandoned (s : State) (i n m : Nat) : (s.abandoned i n).slot m =
    ⟨if m ∈ s.batch.reservedSlots then .free else (s.slot m).content, (s.slot m).worn || decide (m = n),
      (s.slot m).retireMark⟩ :=
  State.slot_releaseSlot_wearSlot s.removeBatchCommits s.batch.reservedSlots n m

end

/-- Settles O40: the version is kept and counted, or the whole batch is abandoned. -/
theorem stageWriteCompletes : Obligations.StageWriteCompletes := by
  intro s i n e o rest hp hc
  refine ⟨exec_stageWriteCompletion hp hc .ok, (s.ended rest (s.store.wear n).discardStaged).abandoned i n, ?exec, ?commits,
    ?batch, fun m => State.slot_abandoned _ i n m, fun m => ?stored, ?frame⟩
  case exec =>
    refine (exec_stageWriteCompletion hp hc .fault).trans (congrArg Host.Outcome.next ?_)
    exact State.abandonBatch_eq (s.ended rest (s.store.wear n).discardStaged) i n
  case commits | batch =>
    rw [State.abandoned_frame]
    rfl
  case stored =>
    rw [State.abandoned_frame]
    exact Work.slot_faulted_writeStaged n e s.store m
  case frame =>
    have store := (s.store.wear n).discardStaged_frame
    rw [State.abandoned_frame, State.ended_store, store]
    rfl

end Sys2Proof.Machine
end

section
/-! The completion of a PROMOTE: every item applied, to the table and to the store (O41). -/

namespace Sys2Proof.Machine

variable {s : State} {x : Item × Nat × Promotion} {l : List (Item × Nat × Promotion)} {b n : Nat}

/-! ### What a promotion leaves alone (R154) -/

theorem State.mapEntry_eq (s : State) (n : Nat) (f : Entry → Entry) : s.mapEntry n f =
    { s with engine := { s.engine with slots := (s.mapEntry n f).engine.slots } } := by
  unfold State.mapEntry
  split <;> rfl

/-- A promoted item writes the table alone: the directory, the spill counts and the clear-due list. -/
theorem State.promoteItem_frame (s : State) (x : Item × Nat × Promotion) : s.promoteItem x =
    { s with engine := { (s.promoteItem x).engine with pointer := s.engine.pointer } } := by
  obtain ⟨y, n, u⟩ := x
  have mapped : ∀ f, s.mapEntry n f = { s with engine := { (s.mapEntry n f).engine with pointer := s.engine.pointer } } :=
    fun f => by
      rw [State.mapEntry_eq]
  have settled : ∀ v : State, v = { s with engine := { v.engine with pointer := s.engine.pointer } } →
      v.settleRetiring n = { s with engine := { (v.settleRetiring n).engine with pointer := s.engine.pointer } } :=
    fun v hv => by
      rw [State.settleRetiring_eq, hv]
  cases y with
  | insert image =>
    change s.occupySlot n image = { s with engine := { (s.occupySlot n image).engine with pointer := s.engine.pointer } }
    rw [State.occupySlot_frame]
  | retire id k =>
    cases u with
    | clear =>
      change s.clearSlot n = { s with engine := { (s.clearSlot n).engine with pointer := s.engine.pointer } }
      rw [State.clearSlot_frame]
    | mark => exact settled (s.markRetiring n) rfl
    | makeCurrent => exact settled _ (mapped _)
  | _ => exact mapped _

theorem State.promoteItems_frame (s : State) (l : List (Item × Nat × Promotion)) : l.foldl State.promoteItem s =
    { s with engine := { (l.foldl State.promoteItem s).engine with pointer := s.engine.pointer } } :=
  foldl_keeps (P := fun u : State => u = { s with engine := { u.engine with pointer := s.engine.pointer } }) l
    (fun u x _ hu => by
      rw [u.promoteItem_frame x, hu]) s rfl

/-- A PROMOTE writes slots alone (R114). -/
theorem Store.promoteSlot_frame (st : Store) (x : Nat × Promotion) :
    st.promoteSlot x = { st with slots := (st.promoteSlot x).slots } := by
  obtain ⟨n, u⟩ := x
  cases u <;> rfl

theorem Store.promoteSlots_frame (st : Store) (ups : List (Nat × Promotion)) :
    ups.foldl Store.promoteSlot st = { st with slots := (ups.foldl Store.promoteSlot st).slots } :=
  foldl_keeps (P := fun u : Store => u = { st with slots := u.slots }) ups
    (fun u x _ hu => by
      rw [u.promoteSlot_frame x, hu]) st rfl

/-! ### What the slots read (R154) -/

theorem promotedSlot_of_insert (image : Entry) (n : Nat) (u : Promotion) (w : WorkingSlot) :
    promotedSlot (.insert image, n, u) w = { w with content := .occupied image } := by
  obtain ⟨content, worn, mark⟩ := w
  cases content <;> rfl

/-- An entry that is neither cleared nor marked is rewritten in its slot. -/
theorem promotedSlot_of_rewrite {w : WorkingSlot} {old : Entry} (hx : x.1.isRetire = true → x.2.2 = .makeCurrent)
    (hw : w.content = .occupied old) : promotedSlot x w = ⟨.occupied (x.1.rewrite old), w.worn, w.retireMark⟩ := by
  unfold promotedSlot
  split
  next retires =>
    rw [hx retires, hw]
    rfl
  next =>
    rw [hw]
    rfl

theorem State.promoteItems_slot_other (s : State) (hn : n ∉ l.map (·.2.1)) :
    (l.foldl State.promoteItem s).slot n = s.slot n :=
  (State.touchesOnly_foldl (N := (· ∈ l.map (·.2.1))) l
    (fun u _ hx => u.touchesOnly_promoteItem (List.mem_map_of_mem hx)) s).slots n hn

/-! ### The clear-due list (R114) -/

theorem State.mem_clearDue_promoteItems (s : State) (hl : (l.map (·.2.1)).Nodup) :
    n ∈ (l.foldl State.promoteItem s).engine.clearDue ↔ n ∈ s.engine.clearDue ∨
      ∃ y u, (y, n, u) ∈ l ∧ y.isRetire = true ∧ u ≠ .clear ∧ s.openHolds n = 0 := by
  by_cases hn : n ∈ l.map (·.2.1)
  · obtain ⟨⟨y, m, u⟩, mem, rfl⟩ := List.mem_map.1 hn
    have at_slot : ∀ y' u', (y', m, u') ∈ l → (m ∈ (l.foldl State.promoteItem s).engine.clearDue ↔
        m ∈ s.engine.clearDue ∨ (y'.isRetire = true ∧ u' ≠ .clear ∧ s.openHolds m = 0)) := fun y' u' mem' =>
      (State.promoteItems_at l hl s mem').2
    constructor
    · exact fun due => ((at_slot y u mem).1 due).imp_right fun made => ⟨y, u, mem, made⟩
    · rintro (due | ⟨y', u', mem', made⟩)
      · exact (at_slot y u mem).2 (.inl due)
      · exact (at_slot y' u' mem').2 (.inr made)
  · have off := (State.touchesOnly_foldl (N := (· ∈ l.map (·.2.1))) l
      (fun u _ hx => u.touchesOnly_promoteItem (List.mem_map_of_mem hx)) s).due n hn
    refine off.trans ⟨.inl, fun due => due.resolve_right ?_⟩
    rintro ⟨y, u, mem, -⟩
    exact hn (List.mem_map.2 ⟨_, mem, rfl⟩)

/-! ### The spill counts (R17) -/

/-- The item clears a spill slot whose entry has this home bucket. -/
def State.clearsSpill (s : State) (b : Nat) (x : Item × Nat × Promotion) : Bool :=
  x.1.isRetire && decide (x.2.2 = .clear) && inSpill x.2.1 && ((s.entryAt x.2.1).any fun e => decide (homeBucket e.id = b))

/-- The item puts an entry of this home bucket into a spill slot. -/
def insertsSpill (b : Nat) (x : Item × Nat × Promotion) : Bool :=
  x.1.isInsert && inSpill x.2.1 && decide (homeBucket x.1.id = b)

theorem State.spillCount_mapEntry (s : State) (n : Nat) (f : Entry → Entry) (b : Nat) :
    (s.mapEntry n f).spillCount b = s.spillCount b := by
  rw [State.mapEntry_eq]
  rfl

theorem State.spillCount_settleRetiring (s : State) (n b : Nat) : (s.settleRetiring n).spillCount b = s.spillCount b := by
  rw [State.settleRetiring_eq]
  rfl

/-- One item changes the count of a bucket by what it clears and inserts. -/
theorem State.spillCount_promoteItem (s : State) (x : Item × Nat × Promotion) (b : Nat) : (s.promoteItem x).spillCount b =
    s.spillCount b - (if s.clearsSpill b x = true then 1 else 0) + (if insertsSpill b x = true then 1 else 0) := by
  obtain ⟨y, n, u⟩ := x
  cases y with
  | insert image =>
    have gains : insertsSpill b (.insert image, n, u) = true ↔ inSpill n = true ∧ b = homeBucket image.id :=
      Bool.and_eq_true_iff.trans (and_congr_right fun _ => decide_eq_true_iff.trans eq_comm)
    exact (State.spillCount_occupySlot s n image b).trans (congrArg _ (if_congr gains.symm rfl rfl))
  | retire id k =>
    cases u with
    | clear =>
      change (s.clearSlot n).spillCount b = _
      cases he : s.entryAt n with
      | some e =>
        have loses : s.clearsSpill b (.retire id k, n, .clear) = true ↔ inSpill n = true ∧ b = homeBucket e.id := by
          simp [State.clearsSpill, Item.isRetire, he, eq_comm (a := b)]
        exact (State.spillCount_clearSlot he b).trans (congrArg _ (if_congr loses.symm rfl rfl))
      | none =>
        simp [State.clearSlot, State.clearsSpill, insertsSpill, Item.isInsert, he, State.spillCount_setSlot]
    | mark => exact State.spillCount_settleRetiring _ n b
    | makeCurrent => exact (State.spillCount_settleRetiring _ n b).trans (State.spillCount_mapEntry s n _ b)
  | _ => exact State.spillCount_mapEntry s n _ b

/-- Items of different slots change the count by all that they clear and insert, where it covers what they clear. -/
theorem State.spillCount_promoteItems (hl : (l.map (·.2.1)).Nodup)
    (covered : l.countP (s.clearsSpill b) ≤ s.spillCount b) : (l.foldl State.promoteItem s).spillCount b +
      l.countP (s.clearsSpill b) = s.spillCount b + l.countP (insertsSpill b) := by
  induction l generalizing s with
  | nil => rfl
  | cons x l ih =>
    rw [List.map_cons, List.nodup_cons] at hl
    have same : l.countP ((s.promoteItem x).clearsSpill b) = l.countP (s.clearsSpill b) := by
      refine List.countP_congr fun y hy => ?_
      have ne : y.2.1 ≠ x.2.1 := fun h => hl.1 (h ▸ List.mem_map_of_mem (f := fun x : Item × Nat × Promotion => x.2.1) hy)
      have entry : (s.promoteItem x).entryAt y.2.1 = s.entryAt y.2.1 :=
        State.entryAt_congr ((s.slot_promoteItem x y.2.1).trans (if_neg ne))
      rw [State.clearsSpill, State.clearsSpill, entry]
    have one := s.spillCount_promoteItem x b
    rw [List.countP_cons] at covered
    have rest := ih hl.2 (s := s.promoteItem x) (by omega)
    rw [List.foldl_cons, List.countP_cons, List.countP_cons]
    omega

/-! ### The completion (R154, R155) -/

theorem exec_promoteCompletion {o : Origin} {rest : List Commit} {ups : List (Nat × Promotion)} (hp : s.phase = .running)
    (hc : s.commits = ⟨⟨.promoteBatch, o⟩ :: rest, some (.promote ups)⟩) : exec .promoteCompletion s =
      .next ((s.ended rest (ups.foldl Store.promoteSlot s.store)).applyPromotion ups) :=
  congrArg Host.Outcome.next (State.complete_running hp hc Change.isPromote rfl .ok promoteEffect)

/-- The counts of the notice follow that of its items (R155). -/
theorem appliedContent_eq (l : List (Item × Nat × Promotion)) : appliedContent l =
    byte l.length :: (be 2 (l.filter (·.1.isInsert)).length
      ++ be 2 (l.filter fun x => x.1.isRetire && decide (x.2.2 = .clear)).length
      ++ be 2 (l.filter fun x => x.1.isRetire && !(decide (x.2.2 = .clear))).length) := by
  rw [appliedContent, be_one]
  rfl

/-- Settles O41: each item changes its own slot, so the batch changes the table slot by slot. -/
theorem promoteAppliesTheWholeBatch : Obligations.PromoteAppliesTheWholeBatch := by
  intro s o rest ups z hp hc length nodup hz
  have snd : z.map (·.2) = ups := hz ▸ List.map_snd_zip (Nat.le_of_eq length)
  have keys : z.map (·.2.1) = ups.map (·.1) := by
    rw [← snd, List.map_map]
    rfl
  have size : z.length = s.batch.items.length := by
    rw [hz, List.length_zip, length, Nat.min_self]
  have apart : (z.map (·.2.1)).Nodup := keys ▸ nodup
  refine ⟨(z.foldl State.promoteItem (s.ended rest (ups.foldl Store.promoteSlot s.store))).setBatch emptyBatch, ?exec, rfl,
    ?commits, fun m hm => ?others, fun x n u mem => ?_, fun b covered => ?counts,
    fun m => State.mem_clearDue_promoteItems _ apart, fun m hm => ?unstored, fun n u mem => ?stored, ?store, ?frame⟩
  case exec =>
    rw [exec_promoteCompletion hp hc, State.applyPromotion, State.ended_batch, ← hz, appliedContent_eq, size]
    rfl
  case commits =>
    rw [State.promoteItems_frame]
    rfl
  case others => exact State.promoteItems_slot_other _ (keys ▸ hm)
  case counts =>
    rw [← List.countP_eq_length_filter] at covered ⊢
    rw [← List.countP_eq_length_filter]
    exact State.spillCount_promoteItems (s := s.ended rest _) apart covered
  case unstored =>
    rw [State.setBatch_store, State.promoteItems_frame]
    exact Store.slot_promoteSlots_other ups s.store hm
  case stored =>
    rw [State.setBatch_store, State.promoteItems_frame]
    refine (Store.promoteSlots_at ups nodup s.store mem).trans ?_
    cases u <;> rfl
  case store =>
    rw [State.setBatch_store, State.promoteItems_frame]
    exact s.store.promoteSlots_frame ups
  case frame =>
    rw [State.promoteItems_frame]
    rfl
  have slot := (State.promoteItems_at z apart (s.ended rest (ups.foldl Store.promoteSlot s.store)) mem).1
  refine ⟨?insert, fun old he => ?_⟩
  case insert =>
    rintro e rfl
    exact slot.trans (promotedSlot_of_insert e n u _)
  have rewritten : (x.isRetire = true → u = .makeCurrent) → promotedSlot (x, n, u) (s.slot n) =
      ⟨.occupied (x.rewrite old), (s.slot n).worn, (s.slot n).retireMark⟩ := fun hx =>
    promotedSlot_of_rewrite (x := (x, n, u)) hx (State.entryAt_eq_some.1 he)
  refine ⟨?modify, ?topUp, ?bar, ?unbar, ?retire⟩
  case modify =>
    rintro id y f rfl
    exact slot.trans (rewritten nofun)
  case topUp | bar | unbar =>
    rintro id y rfl
    exact slot.trans (rewritten nofun)
  case retire =>
    rintro id y rfl
    refine ⟨?_, ?_, fun current => slot.trans (rewritten fun _ => current)⟩
    all_goals
      rintro rfl
      exact slot

end Sys2Proof.Machine
end

section
/-! Start Scan (O42): its checks in order, and the scan record that it writes. -/

namespace Sys2Proof.Machine

variable {s : State} {r : Request} {kind : ScanKind} {argument : Option Nat}

/-! ### The scan record (R159, R171) -/

theorem scanTimeOf_eq (kind : ScanKind) (deviceTime : Option Nat) :
    scanTimeOf kind deviceTime = if kind = .expiry then deviceTime else none := by
  cases kind <;> rfl

/-- What an accepted Start Scan reports of its record: kind, argument and scan time. -/
theorem selection_startedScan (kind : ScanKind) (argument deviceTime : Option Nat) (tag : Byte) :
    (startedScan kind argument deviceTime tag).selection =
      kind.code :: (optional 2 argument ++ optional 4 (scanTimeOf kind deviceTime)) := rfl

/-- A take that rewrites the scan and answers does both on the state without the request. -/
theorem State.dequeue_setScan_answer (s : State) (x : Scan) (r : Request) (status : Status) (payload : List Byte) :
    ((s.dequeue .mp).setScan x).answer .mp r status payload =
      (s.setScan x).answered .mp ⟨r.kind.code, r.tag, status, payload⟩ := rfl

/-! ### The take (R159) -/

theorem exec_startScan (ht : s.takeable .mp .startScan = some r) :
    exec .startScan s = .next (takeStartScan r (s.dequeue .mp)) :=
  congrArg Host.Outcome.next (State.take_of_takeable ht _)

theorem takeStartScan_of_malformed (hk : r.kind = .startScan) (hr : readStartScan r.payload = none) :
    takeStartScan r (s.dequeue .mp) = s.answered .mp ⟨0x38#8, r.tag, .badField, []⟩ := by
  simp only [takeStartScan, hr, State.dequeue_answer, hk, Kind.code]

/-- A Start Scan that is read answers by the first check that fails; one that passes writes the scan record and reserves the
place of its notice (R172). -/
theorem takeStartScan_of_read (hk : r.kind = .startScan) (hr : readStartScan r.payload = some (kind, argument)) :
    takeStartScan r (s.dequeue .mp) =
      if s.scan.state ≠ .idle then s.answered .mp ⟨0x38#8, r.tag, .scanActive, []⟩
      else if s.batch.isLocked = true then s.answered .mp ⟨0x38#8, r.tag, .applyInProgress, []⟩
      else if kind = .expiry ∧ s.time.deviceTime = none then s.answered .mp ⟨0x38#8, r.tag, .timeUnknown, []⟩
      else (s.setScan (startedScan kind argument s.time.deviceTime r.tag)).answeredWithNotice
        ⟨0x38#8, r.tag, .accepted, kind.code :: (optional 2 argument ++ optional 4 (scanTimeOf kind s.time.deviceTime))⟩
        0xB8#8 r.tag := by
  simp only [takeStartScan, hr, State.dequeue_scan, State.dequeue_batch, State.dequeue_time, State.dequeue_answer,
    State.dequeue_setScan_answer, State.answered_reserve, selection_startedScan, hk, Kind.code, scanNotice]

/-- Settles O42: a payload that is not read is malformed, and the checks on one that is stand in their order. -/
theorem startScanChecksInOrder : Obligations.StartScanChecksInOrder := by
  intro r s ht
  have hk : r.kind = .startScan := State.takeable_kind ht
  rw [exec_startScan ht]
  refine ⟨fun hr => ?malformed, fun kind argument now hr time => ?read⟩
  case malformed => rw [takeStartScan_of_malformed hk hr]
  case read =>
    rw [← scanTimeOf_eq] at time
    rw [takeStartScan_of_read hk hr, time]
    simp only [Batch.isLocked_iff]
    rfl

end Sys2Proof.Machine
end

section
/-! The scan's step (O44): the decision for a slot by its rows, and the walk of a step slot by slot. -/

namespace Sys2Proof.Machine

variable {s : State} {sample : Bool} {n : Nat} {e : Entry}

/-! ### Which entries qualify (R160) -/

/-- The rows of Table 9-3, for an entry that is not RETIRING. -/
theorem State.qualifies_iff : s.qualifies n e = true ↔
    e.state ≠ .retiring ∧ (s.slot n).retireMark = false ∧
      ((s.scan.kind = some .expiry ∧ ∃ v t, e.validUntil = some v ∧ s.scan.scanTime = some t ∧ v ≤ t) ∨
        (s.scan.kind = some .cls ∧ s.scan.argument = some e.cls) ∨
        (s.scan.kind = some .group ∧ ∃ g, e.groupTag = some g ∧ s.scan.argument = some g) ∨
        s.scan.kind = some .clear) := by
  have live : s.isRetiring n e = false ↔ e.state ≠ .retiring ∧ (s.slot n).retireMark = false := by
    rw [← Bool.not_eq_true, State.isRetiring_iff, not_or, Bool.not_eq_true]
  rw [State.qualifies, Bool.and_eq_true, Bool.not_eq_true', live, and_assoc]
  refine and_congr_right fun _ => and_congr_right fun _ => ?_
  cases s.scan.kind with
  | none => simp
  | some kind =>
    cases kind with
    | expiry => cases e.validUntil <;> cases s.scan.scanTime <;> simp
    | cls => simp
    | group => cases e.groupTag <;> simp
    | clear => simp

/-! ### The decision for a slot (R162, R163) -/

theorem State.slotDecision_of_no_entry (he : s.entryAt n = none) : s.slotDecision sample n = .pass := by
  simp only [State.slotDecision, he]

theorem State.slotDecision_of_qualifies (he : s.entryAt n = some e) (qualifies : s.qualifies n e = true) :
    s.slotDecision sample n =
      if s.isPending n = true ∨ s.locked n = true then .skip
      else if sample = true ∧ s.underGuard e.cls = true then .skip else .retire := by
  simp only [State.slotDecision, he, qualifies, if_true]

/-- An entry that does not qualify is left, or goes home (R163). -/
theorem State.slotDecision_of_not_qualifies (he : s.entryAt n = some e) (stays : s.qualifies n e = false) :
    s.slotDecision sample n = s.rehoming n e := by
  simp only [State.slotDecision, he, stays, Bool.false_eq_true, if_false]

/-! ### One slot of the walk (R161) -/

/-- The walk can pass the slot at the cursor: there is one, and a place for the commit it may need. -/
def State.canPass (s : State) : Prop :=
  s.scan.cursor < 4352 ∧ (s.cursorDecision.needsCommit = true → s.commits.queue.length < 16)

theorem State.not_canPass (h : ¬ s.canPass) :
    4352 ≤ s.scan.cursor ∨ (s.cursorDecision.needsCommit = true ∧ 16 ≤ s.commits.queue.length) := by
  rw [State.canPass, not_and_or, Classical.not_imp, Nat.not_lt, Nat.not_lt] at h
  exact h

theorem State.freeCommits_eq_zero : s.freeCommits = 0 ↔ 16 ≤ s.commits.queue.length :=
  Nat.sub_eq_zero_iff_le

/-- The walk goes on from the state that the slot's decision leaves. -/
theorem State.examine_of_canPass (h : s.canPass) (k : Nat) : State.examine s.inhibited (k + 1) s =
    State.examine s.inhibited k (s.examined s.cursorDecision) := by
  obtain ⟨within, room⟩ := h
  have within : ¬ Config.slots ≤ s.scan.cursor := Nat.not_le.2 within
  rw [State.examine, if_neg within]
  unfold State.cursorDecision at room ⊢
  cases decision : s.slotDecision s.inhibited s.scan.cursor with
  | pass | skip => rfl
  | retire | rehome id target =>
    have free : s.freeCommits ≠ 0 := fun full =>
      Nat.not_le.2 (room (by rw [decision]; rfl)) (State.freeCommits_eq_zero.1 full)
    exact if_neg free

/-- The walk stops after the last slot, and before a commit that finds no place. -/
theorem State.examine_of_not_canPass (h : ¬ s.canPass) (k : Nat) : State.examine s.inhibited k s = s := by
  cases k with
  | zero => rfl
  | succ k =>
    rw [State.examine]
    rcases State.not_canPass h with last | ⟨needs, full⟩
    · exact if_pos last
    · have full := State.freeCommits_eq_zero.2 full
      unfold State.cursorDecision at needs
      rw [full]
      cases decision : s.slotDecision s.inhibited s.scan.cursor with
      | pass | skip =>
        rw [decision] at needs
        cases needs
      | retire | rehome id target => exact ite_self s

theorem State.examined_inhibited (s : State) (d : SlotDecision) : (s.examined d).inhibited = s.inhibited := by
  cases d <;> rfl

theorem State.examined_cursor (s : State) (d : SlotDecision) : (s.examined d).scan.cursor = s.scan.cursor + 1 := by
  cases d <;> rfl

theorem State.examined_queue_length (s : State) (d : SlotDecision) : (s.examined d).commits.queue.length =
    s.commits.queue.length + if d.needsCommit = true then 1 else 0 := by
  cases d with
  | pass | skip => rfl
  | retire | rehome id target => exact List.length_append

/-! ### The walk of a step (R161) -/

/-- A walk's first slot is that at the cursor. -/
theorem State.walked_succ (s : State) (k : Nat) : s.walked (k + 1) = (s.examined s.cursorDecision).walked k := by
  induction k with
  | zero => rfl
  | succ k ih => exact congrArg (fun u : State => u.examined u.cursorDecision) ih

/-- The walk passes slot after slot until a slot stops it or it has passed as many as it may. -/
theorem State.examine_eq_walked (s : State) (k : Nat) : ∃ j, j ≤ k ∧ State.examine s.inhibited k s = s.walked j ∧
    (∀ i, i < j → (s.walked i).canPass) ∧ (j = k ∨ ¬ (s.walked j).canPass) := by
  induction k generalizing s with
  | zero => exact ⟨0, Nat.le_refl 0, rfl, nofun, .inl rfl⟩
  | succ k ih =>
    by_cases first : s.canPass
    · obtain ⟨j, bound, same, passed, stop⟩ := ih (s.examined s.cursorDecision)
      rw [State.examined_inhibited] at same
      refine ⟨j + 1, Nat.succ_le_succ bound, ?_, fun i hi => ?_, ?_⟩
      · rw [State.examine_of_canPass first, same, State.walked_succ]
      · cases i with
        | zero => exact first
        | succ i =>
          rw [State.walked_succ]
          exact passed i (Nat.lt_of_succ_lt_succ hi)
      · rw [State.walked_succ]
        exact stop.imp_left (congrArg (· + 1))
    · exact ⟨0, Nat.zero_le _, State.examine_of_not_canPass first _, nofun, .inr first⟩

/-- What holds at the first slot and is kept by each slot that the walk passes holds where it stops. -/
theorem State.walked_keeps {P : State → Prop} (keeps : ∀ u : State, u.canPass → P u → P (u.examined u.cursorDecision))
    (start : P s) {j : Nat} (passed : ∀ i, i < j → (s.walked i).canPass) : P (s.walked j) := by
  induction j with
  | zero => exact start
  | succ j ih => exact keeps _ (passed j (Nat.lt_succ_self j)) (ih fun i hi => passed i (Nat.lt_succ_of_lt hi))

theorem State.walked_cursor_le (start : s.scan.cursor ≤ 4352) {j : Nat} (passed : ∀ i, i < j → (s.walked i).canPass) :
    (s.walked j).scan.cursor ≤ 4352 := by
  refine State.walked_keeps (P := fun u => u.scan.cursor ≤ 4352) (fun u pass _ => ?_) start passed
  rw [State.examined_cursor]
  exact pass.1

/-- A commit joins the queue only where a place is free (R101). -/
theorem State.walked_queue_le (start : s.commits.queue.length ≤ 16) {j : Nat}
    (passed : ∀ i, i < j → (s.walked i).canPass) : (s.walked j).commits.queue.length ≤ 16 := by
  refine State.walked_keeps (P := fun u => u.commits.queue.length ≤ 16) (fun u pass within => ?_) start passed
  rw [State.examined_queue_length]
  split
  next needs => exact pass.2 needs
  next => exact within

/-! ### The step, and the end of the walk (R161, R167) -/

/-- The sample of CHG_INH that a step takes is the line's level at its grant. -/
theorem exec_scanStep (granted : s.granted = some .scan) : exec .scanStep s =
    let u := s.setPointer (.port .mp)
    let t := State.examine u.inhibited 8 u
    .next (if t.scan.cursor = 4352 then t.endWalk else t) :=
  congrArg Host.Outcome.next (if_pos granted)

/-- A walk that passed the last slot (R167). -/
theorem State.endWalk_of_last (last : s.scan.cursor = 4352) : s.endWalk =
    if s.scan.inFlight = 0 then
      { s with scan := { s.scan with state := .idle } }.fillReserved .mp 0xB8#8 s.scan.startTag .scanDone s.scan.notice
    else { s with scan := { s.scan with state := .draining } } := by
  have done : s.scan.endStatus = .scanDone := if_pos last
  rw [State.endWalk, State.endScan, done]
  rfl

/-- Settles O44: a slot is decided by the rows that speak of its entry, and a step is the walk that `canPass` bounds. -/
theorem slotIsDecidedByTheRows : Obligations.SlotIsDecidedByTheRows := by
  refine ⟨fun s sample n => ⟨State.slotDecision_of_no_entry, fun e he =>
    ⟨State.qualifies_iff, State.slotDecision_of_qualifies he, fun stays => ?rehoming⟩⟩, fun s granted bound => ?step⟩
  case rehoming =>
    have spill : inSpill n = true ↔ 4096 ≤ n ∧ n ≤ 4351 := inSpill_iff.trans (and_congr_right fun _ => Nat.lt_succ_iff)
    exact (State.slotDecision_of_not_qualifies he stays).trans (if_congr (and_congr_right' spill) rfl rfl)
  case step =>
    obtain ⟨k, most, walk, passed, stop⟩ := State.examine_eq_walked (s.setPointer (.port .mp)) 8
    have cursor := State.walked_cursor_le (s := s.setPointer (.port .mp)) bound passed
    rw [exec_scanStep granted]
    dsimp only
    rw [walk]
    refine ⟨k, _, _, most, rfl, rfl, passed, stop.imp_right fun blocked => ?stop,
      fun start => State.walked_queue_le (s := s.setPointer (.port .mp)) start passed, fun within => ?inside,
      fun last => ?last⟩
    case stop => exact (State.not_canPass blocked).imp_left (Nat.le_antisymm cursor)
    case inside => rw [if_neg (Nat.ne_of_lt within)]
    case last => rw [if_pos last, State.endWalk_of_last last]

end Sys2Proof.Machine
end

section
/-! The arbiter's cyclic order and what makes a port a candidate (O49). -/

namespace Sys2Proof.Machine

/-! ### The cyclic order MP, TP0, TP1, SCAN (R180) -/

/-- From every pointer each candidate is considered. -/
theorem mem_candidatesFrom (a c : Candidate) : c ∈ candidatesFrom a := by
  rcases a with (_ | _ | _) | _ <;> rcases c with (_ | _ | _) | _ <;> decide

/-- The pointer set past `g` leaves in front of `c` only what stood between them. -/
theorem Candidate.distance_after_lt {a g c : Candidate} (near : a.distance g ≤ a.distance c) (other : c ≠ g) :
    g.after.distance c < a.distance c := by
  revert near other
  rcases a with (_ | _ | _) | _ <;> rcases g with (_ | _ | _) | _ <;> rcases c with (_ | _ | _) | _ <;> decide

/-- The element that `find?` answers stands before every other one that passes. -/
theorem idxOf_le_of_find?_eq_some {α : Type} [DecidableEq α] {f : α → Bool} {l : List α} {x y : α}
    (found : l.find? f = some x) (passes : f y = true) : l.idxOf x ≤ l.idxOf y := by
  obtain ⟨-, before, after, rfl, failed⟩ := List.find?_eq_some_iff_append.1 found
  have absent : y ∉ before := fun h => by simpa [passes] using failed y h
  calc (before ++ x :: after).idxOf x ≤ before.length := by
        rw [List.idxOf_append]; split
        next h => exact List.idxOf_le_length
        next => simp
    _ ≤ (before ++ x :: after).idxOf y := by rw [List.idxOf_append_of_notMem absent]; omega

/-! ### Candidates and the grant (R179, R180) -/

variable {s : State}

theorem State.granted_of_running (running : s.phase = .running) :
    s.granted = (candidatesFrom s.engine.pointer).find? s.isCandidate := if_pos running

theorem State.granted_eq_none_iff (running : s.phase = .running) :
    s.granted = none ↔ ∀ c, s.isCandidate c = false := by
  rw [State.granted_of_running running, List.find?_eq_none]
  simp [mem_candidatesFrom]

theorem State.isCandidate_of_granted {g : Candidate} (running : s.phase = .running) (granted : s.granted = some g) :
    s.isCandidate g = true := by
  rw [State.granted_of_running running] at granted
  exact List.find?_some (p := s.isCandidate) granted

theorem State.granted_nearest {g c : Candidate} (running : s.phase = .running) (granted : s.granted = some g)
    (candidate : s.isCandidate c = true) : s.engine.pointer.distance g ≤ s.engine.pointer.distance c := by
  rw [State.granted_of_running running] at granted
  exact idxOf_le_of_find?_eq_some granted candidate

/-- Free places are counted to 0 where more than four are in use, so a kind that needs no place has room there too. -/
theorem PortState.le_freePlaces_iff (x : PortState) (k : Nat) :
    k ≤ x.freePlaces ↔ x.filled.length + x.reserved.length + k ≤ max 4 (x.filled.length + x.reserved.length) := by
  unfold PortState.freePlaces Config.portPlaces
  omega

theorem State.one_le_freeCommits_iff : 1 ≤ s.freeCommits ↔ s.commits.queue.length < 16 := by
  unfold State.freeCommits Config.commitPlaces
  omega

/-- The head request of a candidate has a response place for each response and a commit place where it needs one. -/
theorem State.portIsCandidate_iff (p : Port) : s.portIsCandidate p = true ↔ ∃ r rest, (s.port p).requests = r :: rest ∧
    r.kind.responsePlaces ≤ (s.port p).freePlaces ∧ (r.kind.needsCommit = true → 1 ≤ s.freeCommits) := by
  unfold State.portIsCandidate
  cases (s.port p).requests with
  | nil => simp
  | cons r rest =>
    have commit : (!r.kind.needsCommit || decide (1 ≤ s.freeCommits)) = true ↔
        (r.kind.needsCommit = true → 1 ≤ s.freeCommits) := by cases r.kind.needsCommit <;> simp
    dsimp only
    rw [Bool.and_eq_true, decide_eq_true_iff, commit]
    exact ⟨fun room => ⟨r, rest, rfl, room⟩, by rintro ⟨_, _, ⟨⟩, room⟩; exact room⟩

/-- Settles O49: the grant is the first that passes in a list of all candidates, and that list is cyclic. -/
theorem arbiterIsRoundRobin : Obligations.ArbiterIsRoundRobin := by
  refine ⟨fun s running => ⟨State.granted_eq_none_iff running, fun g granted => ?grant, fun p => ?port, decide_eq_true_iff⟩,
    fun k => ?table⟩
  case grant =>
    have nearest := fun c => State.granted_nearest (c := c) running granted
    exact ⟨State.isCandidate_of_granted running granted, nearest,
      fun c candidate other => Candidate.distance_after_lt (nearest c candidate) other⟩
  case port =>
    refine (State.portIsCandidate_iff p).trans (exists_congr fun r => exists_congr fun rest => and_congr_right fun _ => ?_)
    rw [PortState.le_freePlaces_iff, State.one_le_freeCommits_iff]
  case table => exact ⟨by cases k <;> rfl, by cases k <;> decide⟩

end Sys2Proof.Machine
end

section
/-! Numbers on the wire (R189): what `be`, `beNat` and `field` say of each other, and what a field reads of a longer list. -/

namespace Sys2Proof.Machine

/-! ### Numbers as bytes -/

@[simp] theorem length_be (n v : Nat) : (be n v).length = n := by
  induction n with
  | zero => rfl
  | succ n ih => exact congrArg Nat.succ ih

theorem foldl_number (bytes : List Byte) (v : Nat) :
    bytes.foldl (fun v b => 256 * v + b.toNat) v = v * 256 ^ bytes.length + beNat bytes := by
  unfold beNat
  induction bytes generalizing v with
  | nil => simp
  | cons b rest ih => rw [List.foldl_cons, List.foldl_cons, ih, ih (256 * 0 + _), List.length_cons]; ring

theorem beNat_cons (b : Byte) (rest : List Byte) : beNat (b :: rest) = b.toNat * 256 ^ rest.length + beNat rest := by
  rw [beNat, List.foldl_cons, foldl_number]
  simp

theorem beNat_lt (bytes : List Byte) : beNat bytes < 256 ^ bytes.length := by
  induction bytes with
  | nil => decide
  | cons b rest ih =>
    have high : (b.toNat + 1) * 256 ^ rest.length ≤ 256 * 256 ^ rest.length := Nat.mul_le_mul_right _ b.isLt
    rw [beNat_cons, List.length_cons, Nat.pow_succ']
    linarith

/-- `n` bytes carry a number modulo 256^n. -/
theorem beNat_be (n v : Nat) : beNat (be n v) = v % 256 ^ n := by
  induction n with
  | zero => simp [be, beNat, Nat.mod_one]
  | succ n ih =>
    have split : v % 256 ^ (n + 1) = v % 256 ^ n + 256 ^ n * (v / 256 ^ n % 256) := Nat.mod_mul
    rw [be, beNat_cons, ih, length_be, BitVec.toNat_ofNat, split, Nat.mul_comm, Nat.add_comm]

theorem beNat_injective {a b : List Byte} (size : a.length = b.length) (same : beNat a = beNat b) : a = b := by
  induction a generalizing b with
  | nil => exact (List.length_eq_zero_iff.1 size.symm).symm
  | cons x a ih =>
    cases b with
    | nil => cases size
    | cons y b =>
      have size : a.length = b.length := Nat.succ.inj size
      rw [beNat_cons, beNat_cons, size] at same
      have lowA : beNat a < 256 ^ b.length := size ▸ beNat_lt a
      have lowB := beNat_lt b
      have high : x.toNat = y.toNat := by
        have quotient : ∀ (k : Nat) {r : Nat}, r < 256 ^ b.length → (k * 256 ^ b.length + r) / 256 ^ b.length = k :=
          fun k r low => by
            rw [Nat.add_comm, Nat.add_mul_div_right _ _ (by positivity), Nat.div_eq_of_lt low, Nat.zero_add]
        rw [← quotient x.toNat lowA, same, quotient y.toNat lowB]
      rw [BitVec.eq_of_toNat_eq high, ih size (by rw [high] at same; omega)]

/-- Bytes are those of the number they carry. -/
theorem be_beNat (bytes : List Byte) : be bytes.length (beNat bytes) = bytes :=
  beNat_injective (length_be _ _) (by rw [beNat_be, Nat.mod_eq_of_lt (beNat_lt bytes)])

theorem toNat_byte {v : Nat} (h : v < 256) : (byte v).toNat = v := by
  rw [byte, BitVec.toNat_ofNat, Nat.mod_eq_of_lt h]

@[simp] theorem byte_toNat (b : Byte) : byte b.toNat = b := BitVec.eq_of_toNat_eq (toNat_byte b.isLt)

/-! ### Fields of a list -/

variable (bytes : List Byte)

theorem field_lt (i n : Nat) : field bytes i n < 256 ^ n :=
  (beNat_lt _).trans_le (Nat.pow_le_pow_right (by decide) (List.length_take_le _ _))

/-- A field of two bytes is at most 65,535. -/
theorem field_two_le (i : Nat) : field bytes i 2 ≤ maxCount16 := Nat.le_of_lt_succ (field_lt bytes i 2)

/-- A field of three bytes is at most 16,777,215. -/
theorem field_three_le (i : Nat) : field bytes i 3 ≤ maxBalance := Nat.le_of_lt_succ (field_lt bytes i 3)

/-! The largest values of Table 1-1 are those of their bytes. -/

theorem lt_pow_of_seconds {v : Nat} (h : v ≤ maxSeconds) : v < 256 ^ 4 := Nat.lt_succ_of_le h
theorem lt_pow_of_balance {v : Nat} (h : v ≤ maxBalance) : v < 256 ^ 3 := Nat.lt_succ_of_le h
theorem lt_pow_of_count16 {v : Nat} (h : v ≤ maxCount16) : v < 256 ^ 2 := Nat.lt_succ_of_le h
theorem lt_pow_of_byte {v : Nat} (h : v ≤ 255) : v < 256 ^ 1 := Nat.lt_succ_of_le h

/-- The bytes at the head are those of the number read there. -/
theorem be_field {n : Nat} (h : n ≤ bytes.length) : be n (field bytes 0 n) = bytes.take n := by
  have size : (bytes.take n).length = n := List.length_take_of_le h
  have whole := be_beNat (bytes.take n)
  rwa [size] at whole

@[simp] theorem field_cons_succ (b : Byte) (i n : Nat) : field (b :: bytes) (i + 1) n = field bytes i n := rfl

@[simp] theorem field_cons_one (b : Byte) : field (b :: bytes) 0 1 = b.toNat := by
  simp [field, beNat]

/-- A field after a front of `i` bytes or fewer is one of what follows. -/
theorem field_append_of_le {front : List Byte} {i : Nat} (n : Nat) (h : front.length ≤ i) :
    field (front ++ bytes) i n = field bytes (i - front.length) n := by
  unfold field
  rw [List.drop_append, List.drop_eq_nil_of_le h, List.nil_append]

/-- A field within the front does not see what follows. -/
theorem field_append_within {front : List Byte} {i n : Nat} (h : i + n ≤ front.length) :
    field (front ++ bytes) i n = field front i n := by
  unfold field
  rw [List.drop_append_of_le_length (by omega), List.take_append_of_le_length (by rw [List.length_drop]; omega)]

theorem field_be (n v : Nat) : field (be n v) 0 n = v % 256 ^ n := by
  unfold field
  rw [List.drop_zero, List.take_of_length_le (length_be n v).le, beNat_be]

@[simp] theorem field_be_append (n v : Nat) : field (be n v ++ bytes) 0 n = v % 256 ^ n := by
  rw [field_append_within _ (by simp), field_be]

theorem field_be_append_of_le {m i : Nat} (v n : Nat) (h : m ≤ i) :
    field (be m v ++ bytes) i n = field bytes (i - m) n := by
  rw [field_append_of_le _ _ (by simpa using h), length_be]

end Sys2Proof.Machine
end

section
/-! A transaction on a port byte by byte: what a run of bytes leaves of the port, for each type of transaction (R174 to R183). -/

namespace Sys2Proof.Machine

variable {s : State} {p : Port} {t : Transaction}

/-! ### A port in a transaction -/

/-- The transaction after further bytes, once its type byte is in. -/
def Transaction.plus (t : Transaction) (bytes : List Byte) : Transaction := { t with received := t.received ++ bytes }

/-- The state with the transaction `t` open on port `p`, which has driven `out` so far. -/
def State.inTransaction (s : State) (p : Port) (t : Transaction) (out : List Byte) : State :=
  s.setPort p { s.port p with transaction := some t, sdo := out }

/-- The state with the queues of port `p` as the byte after `t` leaves them: a TAKEN request joined (R177), a delivered
response gone (R182). -/
def State.queuesAfter (s : State) (p : Port) (t : Transaction) : State :=
  s.setPort p { s.port p with
    requests := if s.takesIn p t = true then (s.port p).requests ++ (frameRequest t.received).toList else (s.port p).requests
    filled := if t.delivers = true then (s.port p).filled.tail else (s.port p).filled }

@[simp] theorem Transaction.plus_nil : t.plus [] = t := by simp [Transaction.plus]

@[simp] theorem Transaction.plus_plus (a b : List Byte) : (t.plus a).plus b = t.plus (a ++ b) := by simp [Transaction.plus]

@[simp] theorem Transaction.plus_received (bytes : List Byte) : (t.plus bytes).received = t.received ++ bytes := rfl
@[simp] theorem Transaction.plus_frame (bytes : List Byte) : (t.plus bytes).frame = t.frame := rfl
@[simp] theorem Transaction.plus_fetching (bytes : List Byte) : (t.plus bytes).fetching = t.fetching := rfl
@[simp] theorem Transaction.plus_abandoned (bytes : List Byte) : (t.plus bytes).abandoned = t.abandoned := rfl

theorem State.inTransaction_self (opened : (s.port p).transaction = some t) : s.inTransaction p t (s.port p).sdo = s := by
  unfold State.inTransaction
  rw [← opened]
  exact s.setPort_port p

theorem State.openTransaction_eq : s.openTransaction p = s.inTransaction p ⟨s.summary p, [], [], false, false⟩ [] := rfl

@[simp] theorem State.inTransaction_closed (out : List Byte) :
    (s.inTransaction p t out).closeTransaction p = s.setPort p { s.port p with transaction := none, sdo := out } := by
  simp [State.inTransaction, State.closeTransaction]

/-! The summary, the verdict and the byte sent look at the queues alone (R175, R177). -/

@[simp] theorem State.summary_inTransaction (out : List Byte) : (s.inTransaction p t out).summary p = s.summary p := by
  simp [State.summary, State.inTransaction]

@[simp] theorem State.intakeVerdict_inTransaction (out received : List Byte) :
    (s.inTransaction p t out).intakeVerdict p received = s.intakeVerdict p received := by
  simp [State.intakeVerdict, State.inTransaction]

@[simp] theorem State.outByte_inTransaction (u : Transaction) (out : List Byte) :
    (s.inTransaction p t out).outByte p u = s.outByte p u := by
  simp [State.outByte]

@[simp] theorem State.takesIn_inTransaction (u : Transaction) (out : List Byte) :
    (s.inTransaction p t out).takesIn p u = s.takesIn p u := by
  simp [State.takesIn]

/-! ### One byte -/

theorem State.afterByte_of_started (started : t.received ≠ []) (b : Byte) : s.afterByte p t b = t.plus [b] := by
  unfold State.afterByte
  split
  next none => exact absurd none started
  next => rfl

/-- One byte on a port in a transaction: the queues as it leaves them, the byte received and the byte driven. -/
theorem State.clockByte_inTransaction (out : List Byte) (b : Byte) : State.clockByte p (s.inTransaction p t out) b =
    (s.queuesAfter p t).inTransaction p (s.afterByte p t b) (out ++ [s.outByte p t]) := by
  have after : (s.inTransaction p t out).afterByte p t b = s.afterByte p t b := by
    simp [State.afterByte, State.inTransaction]
  have opened : ((s.inTransaction p t out).port p).transaction = some t := by simp [State.inTransaction]
  unfold State.clockByte
  rw [opened]
  simp [after]
  simp [State.inTransaction, State.queuesAfter]

theorem State.queuesAfter_of_quiet (takes : s.takesIn p t = false) (delivers : t.delivers = false) :
    s.queuesAfter p t = s := by
  unfold State.queuesAfter
  rw [takes, delivers]
  exact s.setPort_port p

/-- The first byte of a transaction: the summary is driven, and no queue changes (R175). -/
theorem State.clockByte_first (summary b : Byte) :
    State.clockByte p (s.inTransaction p ⟨summary, [], [], false, false⟩ []) b =
      s.inTransaction p (s.afterByte p ⟨summary, [], [], false, false⟩ b) [summary] := by
  rw [State.clockByte_inTransaction, State.queuesAfter_of_quiet rfl rfl]
  rfl

/-! ### A run of bytes -/

/-- Bytes that change no queue, each answered with `c`. -/
theorem State.foldl_clockByte_steady (c : Byte) {bytes : List Byte} (started : t.received ≠ [])
    (takes : ∀ k < bytes.length, s.takesIn p (t.plus (bytes.take k)) = false)
    (delivers : ∀ k < bytes.length, (t.plus (bytes.take k)).delivers = false)
    (sends : ∀ k < bytes.length, s.outByte p (t.plus (bytes.take k)) = c) (out : List Byte) :
    bytes.foldl (State.clockByte p) (s.inTransaction p t out) =
      s.inTransaction p (t.plus bytes) (out ++ List.replicate bytes.length c) := by
  induction bytes generalizing t out with
  | nil => simp
  | cons b rest ih =>
    have take0 := takes 0 (Nat.succ_pos _)
    have deliver0 := delivers 0 (Nat.succ_pos _)
    have send0 := sends 0 (Nat.succ_pos _)
    rw [List.take_zero, Transaction.plus_nil] at take0 deliver0 send0
    rw [List.foldl_cons, State.clockByte_inTransaction, State.queuesAfter_of_quiet take0 deliver0,
      State.afterByte_of_started started, send0, ih (by simp)]
    · simp [List.replicate_succ]
    · exact fun k within => by simpa using takes (k + 1) (Nat.succ_lt_succ within)
    · exact fun k within => by simpa using delivers (k + 1) (Nat.succ_lt_succ within)
    · exact fun k within => by simpa using sends (k + 1) (Nat.succ_lt_succ within)

/-- An abandoned transaction is answered with FFh and changes no queue (R174). -/
theorem State.foldl_clockByte_abandoned (abandoned : t.abandoned = true) (bytes out : List Byte) :
    ∃ u : Transaction, u.abandoned = true ∧ bytes.foldl (State.clockByte p) (s.inTransaction p t out) =
      s.inTransaction p u (out ++ List.replicate bytes.length 0xFF#8) := by
  induction bytes generalizing t out with
  | nil => exact ⟨t, abandoned, by simp⟩
  | cons b rest ih =>
    have after : (s.afterByte p t b).abandoned = true := by
      unfold State.afterByte
      repeat' split
      all_goals exact abandoned
    obtain ⟨u, still, run⟩ := ih after (out ++ [0xFF#8])
    have sends : s.outByte p t = 0xFF#8 := if_pos abandoned
    refine ⟨u, still, ?_⟩
    rw [List.foldl_cons, State.clockByte_inTransaction, State.queuesAfter_of_quiet (by simp [State.takesIn, abandoned])
      (by simp [Transaction.delivers, abandoned]), sends, run]
    simp [List.replicate_succ]

/-! ### Stretches of a transaction (R174) -/

theorem State.exchange_of_on (on : s.phase ≠ .off) (x : Exchange) : s.exchange p x =
    (if x.selectRises = true then
      (x.sent.foldl (State.clockByte p) (if x.selectFalls = true then s.openTransaction p else s)).closeTransaction p
     else x.sent.foldl (State.clockByte p) (if x.selectFalls = true then s.openTransaction p else s)) := if_neg on

/-- A transaction given whole. -/
theorem State.exchange_whole (on : s.phase ≠ .off) (bytes : List Byte) (spare : Nat) :
    s.exchange p ⟨true, bytes, spare, true⟩ =
      (bytes.foldl (State.clockByte p) (s.inTransaction p ⟨s.summary p, [], [], false, false⟩ [])).closeTransaction p :=
  State.exchange_of_on on _

/-- A stretch of a transaction that is open. -/
theorem State.exchange_within (on : s.phase ≠ .off) (opened : (s.port p).transaction = some t) (bytes : List Byte)
    (spare : Nat) : s.exchange p ⟨false, bytes, spare, false⟩ =
      bytes.foldl (State.clockByte p) (s.inTransaction p t (s.port p).sdo) := by
  rw [State.inTransaction_self opened]
  exact State.exchange_of_on on _

/-- The last stretch of a transaction that is open. -/
theorem State.exchange_rest (on : s.phase ≠ .off) (opened : (s.port p).transaction = some t) (bytes : List Byte)
    (spare : Nat) : s.exchange p ⟨false, bytes, spare, true⟩ =
      (bytes.foldl (State.clockByte p) (s.inTransaction p t (s.port p).sdo)).closeTransaction p := by
  rw [State.inTransaction_self opened]
  exact State.exchange_of_on on _

theorem State.clockByte_phase (b : Byte) : (State.clockByte p s b).phase = s.phase := by
  unfold State.clockByte
  split <;> simp

theorem State.foldl_clockByte_phase (bytes : List Byte) : (bytes.foldl (State.clockByte p) s).phase = s.phase := by
  induction bytes generalizing s with
  | nil => rfl
  | cons b rest ih => exact ih.trans (State.clockByte_phase b)

/-- Two stretches are the one given whole. -/
theorem State.exchange_append (on : s.phase ≠ .off) (falls rises : Bool) (front back : List Byte) (i j : Nat) :
    (s.exchange p ⟨falls, front, i, false⟩).exchange p ⟨false, back, j, rises⟩ =
      s.exchange p ⟨falls, front ++ back, j, rises⟩ := by
  have begun : (if falls = true then s.openTransaction p else s).phase = s.phase := by
    cases falls
    · rfl
    · exact State.setPort_phase _ _ _
  have first : s.exchange p ⟨falls, front, i, false⟩ =
      front.foldl (State.clockByte p) (if falls = true then s.openTransaction p else s) := State.exchange_of_on on _
  have stays : (s.exchange p ⟨falls, front, i, false⟩).phase ≠ .off := by
    rwa [first, State.foldl_clockByte_phase, begun]
  rw [State.exchange_of_on stays, first, State.exchange_of_on on, List.foldl_append]
  rfl

/-! ### A Request transaction (R176, R177) -/

/-- A Request transaction that no start-up abandoned. -/
def Transaction.isRequest (t : Transaction) : Prop :=
  t.received.head? = some requestType ∧ t.fetching = false ∧ t.abandoned = false

/-- The request of a frame joined the queue, where the verdict is TAKEN. -/
def State.joins (s : State) (p : Port) (frame : List Byte) : State :=
  s.setPort p { s.port p with
    requests := if s.intakeVerdict p frame = .taken then (s.port p).requests ++ (frameRequest frame).toList
      else (s.port p).requests }

theorem Transaction.isRequest.started (h : t.isRequest) : t.received ≠ [] := by
  rintro none
  simp [Transaction.isRequest, none] at h

theorem Transaction.isRequest.plus (h : t.isRequest) (bytes : List Byte) : (t.plus bytes).isRequest := by
  obtain ⟨type, fetching, abandoned⟩ := h
  exact ⟨by simp [type], fetching, abandoned⟩

theorem Transaction.isRequest.delivers (h : t.isRequest) : t.delivers = false := by
  simp [Transaction.delivers, h.2.1]

theorem Transaction.isRequest.takesIn (h : t.isRequest) :
    s.takesIn p t = (atVerdict t.received && decide (s.intakeVerdict p t.received = .taken)) := by
  obtain ⟨type, -, abandoned⟩ := h
  simp [State.takesIn, type, abandoned]

theorem Transaction.isRequest.outByte (h : t.isRequest) :
    s.outByte p t = if atVerdict t.received = true then (s.intakeVerdict p t.received).code else 0xFF#8 := by
  obtain ⟨type, -, abandoned⟩ := h
  unfold State.outByte
  rw [if_neg (by simp [abandoned])]
  split
  next none => simp [none] at type
  next first rest received =>
    obtain rfl : first = requestType := by simpa [received] using type
    rw [if_neg (by decide), if_neg (by decide)]
    exact if_congr (and_iff_right rfl) rfl rfl

/-- The verdict byte comes once: the length byte that fixes its place stays where it is. -/
theorem atVerdict_append {frame more : List Byte} (judged : atVerdict frame = true) (further : more ≠ []) :
    atVerdict (frame ++ more) = false := by
  have longer := List.length_pos_of_ne_nil further
  simp only [atVerdict, Bool.and_eq_true, decide_eq_true_eq] at judged
  obtain ⟨begun, place⟩ := judged
  have same : frameLength (frame ++ more) = frameLength frame := field_append_within _ (by omega)
  simp only [atVerdict, same, Bool.and_eq_false_iff, decide_eq_false_iff_not, List.length_append, ← place]
  omega

/-- Before the verdict byte of a frame no byte is one. -/
theorem atVerdict_of_front {front more : List Byte} (judged : atVerdict (front ++ more) = true) (further : more ≠ []) :
    atVerdict front = false := by
  by_contra h
  rw [atVerdict_append (by simpa using h) further] at judged
  cases judged

/-- The bytes of a Request that are not followed by the verdict byte are answered with FFh. -/
theorem State.foldl_clockByte_receiving (h : t.isRequest) {bytes : List Byte}
    (receiving : ∀ k < bytes.length, atVerdict (t.received ++ bytes.take k) = false) (out : List Byte) :
    bytes.foldl (State.clockByte p) (s.inTransaction p t out) =
      s.inTransaction p (t.plus bytes) (out ++ List.replicate bytes.length 0xFF#8) := by
  refine State.foldl_clockByte_steady _ h.started (fun k within => ?_) (fun k _ => (h.plus _).delivers) (fun k within => ?_) out
  · rw [(h.plus _).takesIn, Transaction.plus_received, receiving k within, Bool.false_and]
  · rw [(h.plus _).outByte, Transaction.plus_received, receiving k within]
    rfl

/-- From the verdict byte on: the verdict is driven, the request joins the queue if it is TAKEN, and FFh follows. -/
theorem State.foldl_clockByte_verdict (h : t.isRequest) (judged : atVerdict t.received = true) (b : Byte) (last out : List Byte) :
    (b :: last).foldl (State.clockByte p) (s.inTransaction p t out) =
      (s.joins p t.received).inTransaction p (t.plus (b :: last))
        (out ++ (s.intakeVerdict p t.received).code :: List.replicate last.length 0xFF#8) := by
  have queues : s.queuesAfter p t = s.joins p t.received := by
    simp [State.queuesAfter, State.joins, h.takesIn, h.delivers, judged]
  have sends : s.outByte p t = (s.intakeVerdict p t.received).code := by rw [h.outByte, if_pos judged]
  rw [List.foldl_cons, State.clockByte_inTransaction, queues, sends, State.afterByte_of_started h.started,
    State.foldl_clockByte_receiving (h.plus _)]
  · simp
  · intro k _
    rw [Transaction.plus_received, List.append_assoc]
    exact atVerdict_append judged (by simp)

/-- The frame of a Request, or the front of one, received from the fall of chip select on. -/
theorem State.foldl_clockByte_request {body : List Byte}
    (receiving : ∀ k < body.length, atVerdict (0xC1#8 :: body.take k) = false) (summary : Byte) :
    (0xC1#8 :: body).foldl (State.clockByte p) (s.inTransaction p ⟨summary, [], [], false, false⟩ []) =
      s.inTransaction p ⟨summary, 0xC1#8 :: body, [], false, false⟩ (summary :: List.replicate body.length 0xFF#8) := by
  rw [List.foldl_cons, State.clockByte_first]
  exact State.foldl_clockByte_receiving (t := ⟨summary, [0xC1#8], [], false, false⟩) ⟨rfl, rfl, rfl⟩ receiving [summary]

/-- A whole Request transaction whose frame is complete: its verdict is judged on the state at its verdict byte. -/
theorem State.exchange_request (on : s.phase ≠ .off) {body : List Byte} (judged : atVerdict (0xC1#8 :: body) = true) (b : Byte)
    (last : List Byte) (spare : Nat) : s.exchange p ⟨true, (0xC1#8 :: body) ++ b :: last, spare, true⟩ =
      s.setPort p { s.port p with
        requests := if s.intakeVerdict p (0xC1#8 :: body) = .taken then
            (s.port p).requests ++ (frameRequest (0xC1#8 :: body)).toList
          else (s.port p).requests
        transaction := none
        sdo := s.summary p :: (List.replicate body.length 0xFF#8
          ++ (s.intakeVerdict p (0xC1#8 :: body)).code :: List.replicate last.length 0xFF#8) } := by
  have receiving : ∀ k < body.length, atVerdict (0xC1#8 :: body.take k) = false := fun k within =>
    atVerdict_of_front (more := body.drop k) (by simpa using judged) (by simpa using within)
  rw [State.exchange_whole on, List.foldl_append, State.foldl_clockByte_request receiving,
    State.foldl_clockByte_verdict ⟨rfl, rfl, rfl⟩ judged]
  simp [State.joins]

/-- A Request transaction that ends within its frame changes no queue (R176). -/
theorem State.exchange_request_cut (on : s.phase ≠ .off) {body cut : List Byte} (judged : atVerdict (0xC1#8 :: body) = true)
    (within : cut <+: 0xC1#8 :: body) (spare : Nat) : ∃ out, s.exchange p ⟨true, cut, spare, true⟩ =
      s.setPort p { s.port p with transaction := none, sdo := out } := by
  rw [State.exchange_whole on]
  obtain ⟨more, parts⟩ := within
  cases cut with
  | nil => exact ⟨[], State.inTransaction_closed _⟩
  | cons c front =>
    obtain ⟨rfl, rfl⟩ := List.cons.inj parts
    have receiving : ∀ k < front.length, atVerdict (0xC1#8 :: front.take k) = false := fun k inside =>
      atVerdict_of_front (more := front.drop k ++ more) (by simpa [← List.append_assoc] using judged)
        (by simpa using fun h => absurd h (Nat.not_le.2 inside))
    exact ⟨_, by rw [State.foldl_clockByte_request receiving, State.inTransaction_closed]⟩

/-! ### A Fetch transaction (R182, R183) -/

/-- What is sent of a frame in `n` bytes: FFh after its last byte. -/
theorem map_getD_range (frame : List Byte) (n : Nat) : (List.range n).map (fun k => frame.getD k 0xFF#8) =
    frame.take n ++ List.replicate (n - frame.length) 0xFF#8 := by
  refine List.ext_getElem (by simp; omega) fun i within _ => ?_
  have bound : i < n := by simpa using within
  by_cases inside : i < frame.length
  · rw [List.getElem_append_left (by simp [bound, inside])]
    simp [inside]
  · rw [List.getElem_append_right (by simp; omega)]
    simp [inside]

/-- A Fetch after its type byte: its frame byte by byte, and the oldest response gone once the last byte of a filled one was
clocked out. -/
theorem State.foldl_clockByte_fetch (summary : Byte) {frame : List Byte} (nonempty : frame ≠ []) (fetching : Bool)
    (bytes out : List Byte) :
    bytes.foldl (State.clockByte p) (s.inTransaction p ⟨summary, [0xC2#8], frame, fetching, false⟩ out) =
      (s.setPort p { s.port p with
        filled := if fetching = true ∧ frame.length ≤ bytes.length then (s.port p).filled.tail
          else (s.port p).filled }).inTransaction p ⟨summary, 0xC2#8 :: bytes, frame, fetching, false⟩
        (out ++ (List.range bytes.length).map fun k => frame.getD k 0xFF#8) := by
  have positive := List.length_pos_of_ne_nil nonempty
  induction bytes using List.reverseRecOn with
  | nil => simp [State.inTransaction, Nat.not_le.2 positive]
  | append_singleton bytes b ih =>
    set u := s.setPort p { s.port p with
      filled := if fetching = true ∧ frame.length ≤ bytes.length then (s.port p).filled.tail else (s.port p).filled } with hu
    set x : Transaction := ⟨summary, 0xC2#8 :: bytes, frame, fetching, false⟩ with hx
    have takes : u.takesIn p x = false := rfl
    have delivers : x.delivers = (fetching && decide (bytes.length + 1 = frame.length)) := by simp [hx, Transaction.delivers]
    have sends : u.outByte p x = frame.getD bytes.length 0xFF#8 := rfl
    have queues : u.queuesAfter p x = s.setPort p { s.port p with
        filled := if fetching = true ∧ frame.length ≤ (bytes ++ [b]).length then (s.port p).filled.tail
          else (s.port p).filled } := by
      rw [State.queuesAfter, takes, delivers, hu]
      obtain early | last | late : bytes.length + 1 < frame.length ∨ bytes.length + 1 = frame.length ∨
        frame.length ≤ bytes.length := by omega
      · simp [early.ne, show ¬ frame.length ≤ bytes.length by omega, show ¬ frame.length ≤ bytes.length + 1 by omega]
      · simp [last, show ¬ frame.length ≤ bytes.length by omega]
      · simp [late, show bytes.length + 1 ≠ frame.length by omega, Nat.le_succ_of_le late]
    rw [List.foldl_concat, ih, State.clockByte_inTransaction, State.afterByte_of_started (by simp [hx]), queues, sends]
    simp [Transaction.plus, hx, List.range_succ]

/-- A whole Fetch transaction with a frame to send. -/
theorem State.exchange_fetch (on : s.phase ≠ .off) {frame : List Byte} (nonempty : frame ≠ []) {fetching : Bool}
    (fixed : s.afterByte p ⟨s.summary p, [], [], false, false⟩ 0xC2#8 = ⟨s.summary p, [0xC2#8], frame, fetching, false⟩)
    (bytes : List Byte) (spare : Nat) : s.exchange p ⟨true, 0xC2#8 :: bytes, spare, true⟩ =
      s.setPort p { s.port p with
        filled := if fetching = true ∧ frame.length ≤ bytes.length then (s.port p).filled.tail else (s.port p).filled
        transaction := none
        sdo := s.summary p :: (frame.take bytes.length ++ List.replicate (bytes.length - frame.length) 0xFF#8) } := by
  rw [State.exchange_whole on, List.foldl_cons, State.clockByte_first, fixed, State.foldl_clockByte_fetch _ nonempty,
    map_getD_range]
  simp

/-! ### A Port Status transaction (R175) -/

/-- A whole Port Status transaction sends the summary with each byte and changes no queue. -/
theorem State.exchange_portStatus (on : s.phase ≠ .off) (bytes : List Byte) (spare : Nat) :
    s.exchange p ⟨true, 0xC3#8 :: bytes, spare, true⟩ = s.setPort p { s.port p with
      transaction := none, sdo := List.replicate (bytes.length + 1) (s.summary p) } := by
  have typed : s.afterByte p ⟨s.summary p, [], [], false, false⟩ 0xC3#8 = ⟨s.summary p, [0xC3#8], [], false, false⟩ := rfl
  rw [State.exchange_whole on, List.foldl_cons, State.clockByte_first, typed,
    State.foldl_clockByte_steady (t := ⟨s.summary p, [0xC3#8], [], false, false⟩) (s.summary p) nofun
      (fun _ _ => rfl) (fun _ _ => rfl) (fun _ _ => rfl)]
  simp [List.replicate_succ]

end Sys2Proof.Machine
end

section
/-! Request intake (O46): the fields of a frame, the verdict of Table 10-1, and the stretches of a transaction. -/

namespace Sys2Proof.Machine

variable {s : State} {p : Port}

/-! ### The fields of a frame (R176) -/

/-- What follows the type byte of a frame with this payload. -/
def frameBody (kind tag : Byte) (payload : List Byte) (crc : BitVec 16) : List Byte :=
  kind :: tag :: byte payload.length :: (payload ++ be 2 crc.toNat)

section
variable {kind tag : Byte} {payload : List Byte} {crc : BitVec 16}

theorem frameBody_eq : 0xC1#8 :: frameBody kind tag payload crc =
    [0xC1#8, kind, tag, byte payload.length] ++ payload ++ be 2 crc.toNat := by simp [frameBody]

theorem length_frameBody : (frameBody kind tag payload crc).length = payload.length + 5 := by simp [frameBody]

theorem frameKind_frame : frameKind (0xC1#8 :: frameBody kind tag payload crc) = kindOfCode kind := rfl

variable (short : payload.length ≤ 48)
include short

theorem frameLength_frame : frameLength (0xC1#8 :: frameBody kind tag payload crc) = payload.length := by
  simp only [frameLength, frameBody, field_cons_succ, field_cons_one]
  exact toNat_byte (by omega)

theorem atVerdict_frame : atVerdict (0xC1#8 :: frameBody kind tag payload crc) = true := by
  have within : ¬ Config.maxPayload < payload.length := Nat.not_lt.2 short
  simp only [atVerdict, frameLength_frame short, if_neg within, List.length_cons, length_frameBody, Bool.and_eq_true,
    decide_eq_true_eq]
  omega

theorem frameRequest_frame : frameRequest (0xC1#8 :: frameBody kind tag payload crc) =
    (kindOfCode kind).map fun k => ⟨k, tag, payload⟩ := by
  have read : framePayload (0xC1#8 :: frameBody kind tag payload crc) = payload := by
    rw [framePayload, frameLength_frame short]
    exact List.take_left
  rw [frameRequest, read, frameKind_frame]
  rfl

theorem frameCheck_frame : frameCheck (0xC1#8 :: frameBody kind tag payload crc) =
    decide (crc = crc16 ([kind, tag, byte payload.length] ++ payload)) := by
  have sent : field (0xC1#8 :: frameBody kind tag payload crc) (4 + payload.length) 2 = crc.toNat := by
    have front : ([0xC1#8, kind, tag, byte payload.length] ++ payload).length = 4 + payload.length := by simp; omega
    rw [frameBody_eq, field_append_of_le _ _ front.le, front, Nat.sub_self, field_be]
    exact Nat.mod_eq_of_lt crc.isLt
  have covered : ((0xC1#8 :: frameBody kind tag payload crc).drop 1).take (3 + payload.length) =
      [kind, tag, byte payload.length] ++ payload := by
    rw [Nat.add_comm]
    simp [frameBody]
  rw [frameCheck, frameLength_frame short, sent, covered, Bool.eq_iff_iff, beq_iff_eq, decide_eq_true_iff]
  exact BitVec.toNat_inj

end

/-! ### The verdict (Table 10-1) -/

theorem IntakeVerdict.code_eq_taken {v : IntakeVerdict} : v.code = 0xA0#8 ↔ v = .taken := by
  cases v <;> decide

/-- A length above 48 gets its verdict after the length byte (R176, R177). -/
theorem State.intakeVerdict_long {kind tag len : Byte} (long : 48 < len.toNat) :
    atVerdict [0xC1#8, kind, tag, len] = true ∧ s.intakeVerdict p [0xC1#8, kind, tag, len] ≠ .taken ∧
      (s.intakeVerdict p [0xC1#8, kind, tag, len]).code = if s.phase = .running then 0xA5#8 else 0xA6#8 := by
  have length : frameLength [0xC1#8, kind, tag, len] = len.toNat := by simp [frameLength]
  have above : Config.maxPayload < frameLength [0xC1#8, kind, tag, len] := length ▸ long
  refine ⟨by simp [atVerdict, above], ?_⟩
  unfold State.intakeVerdict
  rw [if_pos above]
  by_cases running : s.phase = .running
  · rw [if_neg (not_not.2 running), if_pos running]
    decide
  · rw [if_pos running, if_neg running]
    decide

/-! ### Codes and ports of the kinds (Table 10-2) -/

theorem mem_allKinds (k : Kind) : k ∈ allKinds := by cases k <;> decide

theorem Kind.code_injective {j k : Kind} (same : j.code = k.code) : j = k := by
  have apart : (allKinds.map Kind.code).Nodup := by decide
  exact List.inj_on_of_nodup_map apart (mem_allKinds j) (mem_allKinds k) same

theorem kindOfCode_eq_some {b : Byte} {k : Kind} : kindOfCode b = some k ↔ k.code = b := by
  constructor
  · exact fun found => by simpa using List.find?_some found
  · rintro rfl
    have listed : (kindOfCode k.code).isSome = true := List.find?_isSome.2 ⟨k, mem_allKinds k, by simp⟩
    obtain ⟨j, found⟩ := Option.isSome_iff_exists.1 listed
    have same : j.code = k.code := by simpa using List.find?_some found
    rw [found, Kind.code_injective same]

theorem Kind.acceptedOn_eq (k : Kind) (p : Port) : k.acceptedOn p =
    (if k ∈ [.present, .queryHold, .readTime, .readIdentity] then true
     else if k ∈ [.draw, .extend, .settle, .release] then decide (p ≠ .mp) else decide (p = .mp)) := by
  cases k <;> cases p <;> rfl

/-! ### Bits (R174) -/

theorem ofBoolListBE_bitsOf (b : Byte) : BitVec.ofBoolListBE (bitsOf b) = b := by
  refine BitVec.eq_of_getMsbD_eq fun i within => ?_
  rw [BitVec.getMsbD_ofBoolListBE]
  have within : i < 8 := within
  interval_cases i <;> rfl

theorem bytesOfBits_flatMap (bytes : List Byte) {cut : List Bool} (incomplete : cut.length < 8) :
    bytesOfBits (bytes.flatMap bitsOf ++ cut) = bytes := by
  induction bytes with
  | nil =>
    rw [List.flatMap_nil, List.nil_append]
    unfold bytesOfBits
    split
    · simp at incomplete
      omega
    · rfl
  | cons b rest ih =>
    rw [List.flatMap_cons, List.append_assoc]
    exact congrArg₂ List.cons (ofBoolListBE_bitsOf b) ih

/-! ### The statement -/

/-- Settles O46: a run of bytes before the verdict byte, the verdict byte, and a run after it. -/
theorem requestIntakeFollowsTheTable : Obligations.RequestIntakeFollowsTheTable := by
  refine ⟨?whole, ?long, fun _ _ _ => ⟨rfl, rfl⟩,
    fun s p falls rises front back i j on => ⟨_, rfl, congrArg _ (State.exchange_append on falls rises front back i j)⟩,
    ?rest, ?abandoned, fun bytes cut => bytesOfBits_flatMap bytes, fun b k => kindOfCode_eq_some,
    fun k => by cases k <;> decide, Kind.acceptedOn_eq⟩
  case whole =>
    intro s p kind tag payload crc last spare verdict frame on short hframe hverdict
    rw [← frameBody_eq] at hframe
    subst hframe
    have judged := atVerdict_frame (kind := kind) (tag := tag) (crc := crc) short
    have code : verdict = (s.intakeVerdict p (0xC1#8 :: frameBody kind tag payload crc)).code := by
      rw [hverdict, State.intakeVerdict, frameLength_frame short, frameCheck_frame short, frameKind_frame,
        if_neg (c := Config.maxPayload < payload.length) (Nat.not_lt.2 short)]
      simp only [apply_ite IntakeVerdict.code, decide_eq_false_iff_not]
      cases kindOfCode kind with
      | none => rfl
      | some k => simp only [apply_ite IntakeVerdict.code]; rfl
    refine ⟨fun b => ?_, fun cut within => ?_⟩
    · refine congrArg Host.Outcome.next ((State.exchange_request on judged b last spare).trans ?_)
      rw [code, length_frameBody, frameRequest_frame short]
      simp only [IntakeVerdict.code_eq_taken]
    · obtain ⟨out, cutShort⟩ := State.exchange_request_cut on judged within spare
      exact ⟨out, congrArg _ cutShort⟩
  case long =>
    intro s p kind tag len b last spare on long
    obtain ⟨judged, refused, code⟩ := State.intakeVerdict_long (s := s) (p := p) (kind := kind) (tag := tag) long
    refine congrArg Host.Outcome.next ((State.exchange_request on judged b last spare).trans ?_)
    rw [if_neg refused, code]
    rfl
  case rest =>
    intro s p tr kind tag payload crc b last spare on short opened abandoned fetching received
    rw [← frameBody_eq] at received
    have judged := atVerdict_frame (kind := kind) (tag := tag) (crc := crc) short
    have request : tr.isRequest := ⟨by rw [received]; rfl, fetching, abandoned⟩
    have rest : s.exchange p ⟨false, b :: last, spare, true⟩ = _ := State.exchange_rest on opened _ _
    rw [State.foldl_clockByte_verdict request (received ▸ judged), State.inTransaction_closed, received] at rest
    refine ⟨_, _, rfl, rfl, ?_⟩
    dsimp only
    rw [received, State.exchange_request on judged, rest]
    simp [State.joins, length_frameBody]
  case abandoned =>
    intro s p tr ds spare on opened abandoned
    obtain ⟨u, still, run⟩ := State.foldl_clockByte_abandoned (s := s) (p := p) abandoned ds (s.port p).sdo
    refine ⟨congrArg Host.Outcome.next ?_, u, still, congrArg Host.Outcome.next ?_⟩
    · rw [State.exchange_rest on opened, run, State.inTransaction_closed]
    · exact (State.exchange_within on opened ds spare).trans run

end Sys2Proof.Machine
end

section
/-! Fetch, Port Status, attention, the data output, and the codes of responses (O47). -/

namespace Sys2Proof.Machine

variable {s : State} {p : Port}

/-! ### The frames of a Fetch (R182, R189) -/

theorem length_frameBytes (kind tag status : Byte) (payload : List Byte) :
    (frameBytes kind tag status payload).length = payload.length + 6 := by simp [frameBytes]

theorem frameBytes_ne_nil (kind tag status : Byte) (payload : List Byte) : frameBytes kind tag status payload ≠ [] := nofun

theorem State.afterByte_fetch_filled {r : Response} {rest : List Response} (filled : (s.port p).filled = r :: rest)
    (summary : Byte) : s.afterByte p ⟨summary, [], [], false, false⟩ 0xC2#8 =
      ⟨summary, [0xC2#8], r.frame, true, false⟩ := by
  simp [State.afterByte, fetchType, filled]

theorem State.afterByte_fetch_empty (noResponse : (s.port p).filled = []) (summary : Byte) :
    s.afterByte p ⟨summary, [], [], false, false⟩ 0xC2#8 = ⟨summary, [0xC2#8], emptyFrame, false, false⟩ := by
  simp [State.afterByte, fetchType, noResponse]

/-- A Fetch with a filled response removes it when its last byte has been clocked out. -/
theorem State.exchange_fetch_filled (on : s.phase ≠ .off) {r : Response} {rest : List Response}
    (filled : (s.port p).filled = r :: rest) (bytes : List Byte) (spare : Nat) :
    s.exchange p ⟨true, 0xC2#8 :: bytes, spare, true⟩ = s.setPort p { s.port p with
      filled := if bytes.length < r.payload.length + 6 then r :: rest else rest
      transaction := none
      sdo := s.summary p :: (r.frame.take bytes.length
        ++ List.replicate (bytes.length - (r.payload.length + 6)) 0xFF#8) } := by
  have size : r.frame.length = r.payload.length + 6 := length_frameBytes _ _ _ _
  rw [State.exchange_fetch on (frame := r.frame) (frameBytes_ne_nil _ _ _ _) (State.afterByte_fetch_filled filled _), size,
    filled]
  by_cases short : bytes.length < r.payload.length + 6
  · simp [short, Nat.not_le.2 short]
  · simp [short, Nat.not_lt.1 short]

/-- A Fetch with no filled response sends the empty response. -/
theorem State.exchange_fetch_empty (on : s.phase ≠ .off) (noResponse : (s.port p).filled = []) (bytes : List Byte) (spare : Nat) :
    s.exchange p ⟨true, 0xC2#8 :: bytes, spare, true⟩ = s.setPort p { s.port p with
      transaction := none
      sdo := s.summary p :: (emptyFrame.take bytes.length ++ List.replicate (bytes.length - 6) 0xFF#8) } := by
  rw [State.exchange_fetch on (frame := emptyFrame) nofun (State.afterByte_fetch_empty noResponse _)]
  simp only [Bool.false_eq_true, false_and, if_false]
  rfl

/-! ### The port summary (R175) -/

/-- The bits of a summary byte whose counts are those of four places. -/
theorem summary_bits {filled free : Nat} (few : filled ≤ 4) (room : free ≤ 4) (reserved : Bool) :
    let b : Byte := byte (128 + 16 * filled + 2 * free + if reserved then 1 else 0)
    b.getLsbD 7 = true ∧ (b.extractLsb' 4 3).toNat = filled ∧ (b.extractLsb' 1 3).toNat = free ∧ b.getLsbD 0 = reserved := by
  interval_cases filled <;> interval_cases free <;> cases reserved <;> decide

theorem State.summary_of_running (running : s.phase = .running) (within : (s.port p).withinPlaces) :
    (s.summary p).getLsbD 7 = true ∧ ((s.summary p).extractLsb' 4 3).toNat = (s.port p).filled.length ∧
      ((s.summary p).extractLsb' 1 3).toNat + (s.port p).requests.length = 4 ∧
      (s.summary p).getLsbD 0 = !(s.port p).reserved.isEmpty := by
  obtain ⟨requests, responses⟩ : (s.port p).requests.length ≤ 4 ∧
    (s.port p).filled.length + (s.port p).reserved.length ≤ 4 := within
  have formed : s.summary p = byte (128 + 16 * (s.port p).filled.length + 2 * (4 - (s.port p).requests.length)
      + if (!(s.port p).reserved.isEmpty) = true then 1 else 0) := by
    rw [State.summary, if_pos running]
    cases (s.port p).reserved <;> rfl
  obtain ⟨ready, filled, free, reserved⟩ := summary_bits (filled := (s.port p).filled.length)
    (free := 4 - (s.port p).requests.length) (by omega) (by omega) (!(s.port p).reserved.isEmpty)
  rw [formed]
  exact ⟨ready, filled, by rw [free]; omega, reserved⟩

/-! ### Attention (R184, R188) -/

theorem PortState.attention_iff (x : PortState) : x.attention = true ↔ x.filled ≠ [] := by
  simp [PortState.attention]

theorem State.attention_answered (p q : Port) (x : Response) :
    ((s.answered p x).port q).attention = (decide (q = p) || (s.port q).attention) := by
  by_cases same : q = p
  · subst same
    simp [PortState.attention, State.answered]
  · simp [same, PortState.attention, State.answered, State.port_setPort]

theorem State.attention_accepted (p q : Port) (k tag : Byte) (c : Change) :
    ((s.accepted p k tag c).port q).attention = (s.port q).attention := by
  cases p <;> cases q <;> rfl

/-! ### The data output (R174, R193) -/

theorem State.dataOut_of_on (on : s.phase ≠ .off) : s.dataOut p = (s.port p).transaction.map (s.outByte p) := if_neg on

theorem State.dataOut_eq_none_iff : s.dataOut p = none ↔ s.phase = .off ∨ (s.port p).transaction = none := by
  by_cases off : s.phase = .off
  · simp [State.dataOut, off]
  · simp [State.dataOut, off]

/-- Chip select falls: the output carries the summary. -/
theorem State.dataOut_of_fall (on : s.phase ≠ .off) :
    (s.exchange p ⟨true, [], 0, false⟩).dataOut p = some (s.summary p) := by
  have opened : s.exchange p ⟨true, [], 0, false⟩ = s.inTransaction p ⟨s.summary p, [], [], false, false⟩ [] :=
    State.exchange_of_on on _
  have stays : (s.inTransaction p ⟨s.summary p, [], [], false, false⟩ []).phase ≠ .off :=
    (State.setPort_phase _ _ _).symm ▸ on
  have carries : ((s.inTransaction p ⟨s.summary p, [], [], false, false⟩ []).port p).transaction =
      some ⟨s.summary p, [], [], false, false⟩ := by simp [State.inTransaction]
  rw [opened, State.dataOut_of_on stays, carries]
  rfl

/-- Chip select rises: the output is high-impedance. -/
theorem State.dataOut_of_rise (on : s.phase ≠ .off) : (s.exchange p ⟨false, [], 0, true⟩).dataOut p = none := by
  have closed : s.exchange p ⟨false, [], 0, true⟩ = s.closeTransaction p := State.exchange_of_on on _
  rw [closed, State.dataOut_eq_none_iff]
  simp [State.closeTransaction]

/-- A byte clocked drives what the output carried (R174). -/
theorem State.sdo_of_clocked (on : s.phase ≠ .off) {d : Byte} (carries : s.dataOut p = some d) (b : Byte) :
    ((s.exchange p ⟨false, [b], 0, false⟩).port p).sdo = (s.port p).sdo ++ [d] := by
  rw [State.dataOut_of_on on, Option.map_eq_some_iff] at carries
  obtain ⟨t, opened, rfl⟩ := carries
  rw [State.exchange_within on opened, List.foldl_cons, List.foldl_nil, State.clockByte_inTransaction]
  simp [State.inTransaction]

/-! ### The statement -/

/-- Settles O47: each type of transaction by its closed form, and the codes case by case. -/
theorem fetchAndPortStatus : Obligations.FetchAndPortStatus := by
  refine ⟨?fetch, ⟨?status, ?closed, fun s p => State.summary_of_running⟩, ?attention, ?output,
    fun x => by cases x <;> decide, fun p => by cases p <;> decide, fun x => by cases x <;> decide,
    fun x => by cases x <;> decide, ⟨rfl, fun _ _ => rfl, fun _ => rfl⟩, fun x => by cases x <;> decide,
    fun x => by cases x <;> decide, fun x => by cases x <;> decide⟩
  case fetch =>
    exact fun s p bytes spare on =>
      ⟨fun r rest filled => congrArg Host.Outcome.next (State.exchange_fetch_filled on filled bytes spare),
       fun none => congrArg Host.Outcome.next (State.exchange_fetch_empty on none bytes spare)⟩
  case status =>
    exact fun s p bytes spare on => congrArg Host.Outcome.next (State.exchange_portStatus on bytes spare)
  case closed => exact fun s p closed => if_neg closed
  case attention =>
    refine fun s p q => ⟨PortState.attention_iff _, State.attention_answered p q, State.attention_accepted p q, ?_, ?_⟩
    · intro accounted closed
      obtain ⟨-, none, -⟩ := (accounted p).2 closed
      rw [PortState.attention, none]
      rfl
    · intro r bytes spare on only whole
      refine ⟨_, congrArg Host.Outcome.next (State.exchange_fetch_filled on only bytes spare), ?_⟩
      simp [PortState.attention, Nat.not_lt.2 whole]
  case output =>
    refine fun s p => ⟨State.dataOut_eq_none_iff, fun off x => ?_, fun on => ?_⟩
    · refine ⟨_, congrArg Host.Outcome.next (if_pos off), ?_⟩
      cases x.selectRises <;> cases x.selectFalls <;> rfl
    · exact ⟨_, _, rfl, State.dataOut_of_fall on, rfl, State.dataOut_of_rise on,
        fun b d carries => ⟨_, rfl, State.sdo_of_clocked on carries b⟩⟩

end Sys2Proof.Machine
end

section
/-! The readers of Table 10-4 whose payload is a token ID with a few bytes: what each reads, and that it reads nothing else. -/

namespace Sys2Proof.Machine

variable {id bytes : List Byte}

/-! ### Token IDs (Table 10-3) -/

theorem readId_eq_some {q : List Byte} : readId q = some (id, bytes) ↔
    4 ≤ id.length ∧ id.length ≤ 12 ∧ q = idField id ++ bytes := by
  constructor
  · intro read
    unfold readId at read
    split at read
    · cases read
    next n rest =>
      split at read
      next size =>
        obtain ⟨low, high, there⟩ := size
        cases read
        have length : (rest.take n.toNat).length = n.toNat := List.length_take_of_le there
        refine ⟨length.symm ▸ low, length.symm ▸ high, ?_⟩
        rw [idField, length, byte_toNat, List.cons_append, List.take_append_drop]
      · cases read
  · rintro ⟨low, high, rfl⟩
    have length : (byte id.length).toNat = id.length := toNat_byte (by omega)
    simp only [idField, List.cons_append, readId, length]
    rw [if_pos ⟨low, high, by simp⟩, List.take_left, List.drop_left]

theorem readIdThen_eq_some {n : Nat} {q : List Byte} : readIdThen n q = some (id, bytes) ↔
    (4 ≤ id.length ∧ id.length ≤ 12 ∧ q = idField id ++ bytes) ∧ bytes.length = n := by
  rw [← readId_eq_some, readIdThen]
  cases readId q with
  | none => simp
  | some x =>
    obtain ⟨id', rest⟩ := x
    simp only [Option.ite_none_right_eq_some, Option.some.injEq, Prod.mk.injEq]
    exact ⟨by rintro ⟨size, rfl, rfl⟩; exact ⟨⟨rfl, rfl⟩, size⟩,
      by rintro ⟨⟨rfl, rfl⟩, size⟩; exact ⟨size, rfl, rfl⟩⟩

theorem readIdThen_idField (low : 4 ≤ id.length) (high : id.length ≤ 12) :
    readIdThen bytes.length (idField id ++ bytes) = some (id, bytes) :=
  readIdThen_eq_some.2 ⟨⟨low, high, rfl⟩, rfl⟩

/-- A payload that a reader of a token ID and `n` bytes takes for something is one. -/
theorem exists_idField_of_reads {α : Type} {n : Nat} {q : List Byte} {read : List Byte → Option α} {x : α}
    (malformed : readIdThen n q = none → read q = none) (reads : read q = some x) :
    ∃ id bytes, (4 ≤ id.length ∧ id.length ≤ 12) ∧ bytes.length = n ∧ q = idField id ++ bytes := by
  cases h : readIdThen n q with
  | none => rw [malformed h] at reads; cases reads
  | some y =>
    obtain ⟨⟨low, high, parts⟩, size⟩ := readIdThen_eq_some.1 h
    exact ⟨y.1, y.2, ⟨low, high⟩, size, parts⟩

/-! ### Flags (R190) -/

theorem eq_yesNo_iff {b : Byte} {f : Bool} : b = yesNo f ↔ b.toNat = if f then 1 else 0 := by
  cases f <;> exact BitVec.toNat_inj.symm

theorem readYesNo_eq_some {b : Byte} {f : Bool} : readYesNo b.toNat = some f ↔ b = yesNo f := by
  rw [eq_yesNo_iff, readYesNo]
  cases f <;> split <;> simp_all

theorem readFlagged_eq_some {b : Byte} {v : Nat} {x : Option Nat} :
    readFlagged b.toNat v = some x ↔ ∃ f, b = yesNo f ∧ x = if f then some v else none := by
  simp only [eq_yesNo_iff, readFlagged, Bool.exists_bool]
  split
  next absent => simp [absent, eq_comm]
  next =>
    split
    next present => simp [present, eq_comm]
    next => simp_all

/-- A value of `n` bytes behind its flag, as it is sent. -/
theorem exists_flagged (n : Nat) {x : Option Nat} (fits : ∀ v, x = some v → v < 256 ^ n) :
    ∃ f l, l.length = n ∧ flagged n x = yesNo f :: l ∧ x = if f then some (beNat l) else none := by
  cases x with
  | none => exact ⟨false, _, List.length_replicate, rfl, rfl⟩
  | some v => exact ⟨true, be n v, length_be n v, rfl, by rw [beNat_be, Nat.mod_eq_of_lt (fits v rfl)]; rfl⟩

theorem field_cons_one_all (b : Byte) {n : Nat} (size : bytes.length = n) : field (b :: bytes) 1 n = beNat bytes := by
  rw [field_cons_succ, field, List.drop_zero, List.take_of_length_le size.le]

/-! ### Present, Draw, Top Up (R53, R54, R131) -/

/-- Two bytes are a number from 1 to 65,535, or 0. -/
theorem exists_be_two (size : bytes.length = 2) : ∃ u ≤ 65535, field bytes 0 2 = u ∧ bytes = be 2 u :=
  ⟨_, field_two_le bytes 0, rfl, by rw [be_field _ size.ge, List.take_of_length_le size.le]⟩

theorem field_be_two {u : Nat} (most : u ≤ 65535) : field (be 2 u ++ bytes) 0 2 = u := by
  rw [field_be_append, Nat.mod_eq_of_lt (by omega)]

theorem readPresent_eq_some {q : List Byte} {x : Option Nat} : readPresent q = some (id, x) ↔
    4 ≤ id.length ∧ id.length ≤ 12 ∧
      (x = none ∧ q = idField id ∨ ∃ u, x = some u ∧ 1 ≤ u ∧ u ≤ 65535 ∧ q = idField id ++ be 2 u) := by
  constructor
  · intro read
    unfold readPresent at read
    split at read
    next id' rest h =>
      obtain ⟨low, high, rfl⟩ := readId_eq_some.1 h
      split at read
      next alone =>
        cases read
        exact ⟨low, high, .inl ⟨rfl, by rw [List.length_eq_zero_iff.1 alone, List.append_nil]⟩⟩
      next =>
        split at read
        next units =>
          cases read
          obtain ⟨u, most, value, rfl⟩ := exists_be_two units.1
          rw [value] at units ⊢
          exact ⟨low, high, .inr ⟨u, rfl, Nat.one_le_iff_ne_zero.2 units.2, most, rfl⟩⟩
        · cases read
    · cases read
  · rintro ⟨low, high, ⟨rfl, rfl⟩ | ⟨u, rfl, positive, most, rfl⟩⟩
    · rw [readPresent, readId_eq_some.2 ⟨low, high, (List.append_nil _).symm⟩]
      rfl
    · have value : field (be 2 u) 0 2 = u := by simpa using field_be_two (bytes := []) most
      rw [readPresent, readId_eq_some.2 ⟨low, high, rfl⟩]
      simp [value, Nat.one_le_iff_ne_zero.1 positive]

theorem readPresent_isSome {q : List Byte} : (readPresent q).isSome = true ↔ ∃ id, 4 ≤ id.length ∧ id.length ≤ 12 ∧
    (q = idField id ∨ ∃ u, 1 ≤ u ∧ u ≤ 65535 ∧ q = idField id ++ be 2 u) := by
  rw [Option.isSome_iff_exists]
  constructor
  · rintro ⟨⟨id, x⟩, read⟩
    obtain ⟨low, high, ⟨-, parts⟩ | ⟨u, -, parts⟩⟩ := readPresent_eq_some.1 read
    · exact ⟨id, low, high, .inl parts⟩
    · exact ⟨id, low, high, .inr ⟨u, parts⟩⟩
  · rintro ⟨id, low, high, parts | ⟨u, parts⟩⟩
    · exact ⟨_, readPresent_eq_some.2 ⟨low, high, .inl ⟨rfl, parts⟩⟩⟩
    · exact ⟨_, readPresent_eq_some.2 ⟨low, high, .inr ⟨u, rfl, parts⟩⟩⟩

theorem readDraw_eq_some {q : List Byte} {u : Nat} {f : Bool} : readDraw q = some (id, u, f) ↔
    4 ≤ id.length ∧ id.length ≤ 12 ∧ 1 ≤ u ∧ u ≤ 65535 ∧ q = idField id ++ be 2 u ++ [yesNo f] := by
  constructor
  · intro read
    obtain ⟨id', rest, ⟨low, high⟩, size, rfl⟩ := exists_idField_of_reads (n := 3) (fun h => by rw [readDraw, h]) read
    obtain ⟨a, b, c, rfl⟩ := List.length_eq_three.1 size
    obtain ⟨v, most, value, units⟩ := exists_be_two (bytes := [a, b]) rfl
    have value : field [a, b, c] 0 2 = v := value
    rw [readDraw, ← size, readIdThen_idField low high] at read
    simp only [value, field_cons_succ, field_cons_one] at read
    split at read
    next flag =>
      split at read
      · cases read
      next positive =>
        cases read
        rw [readYesNo_eq_some] at flag
        subst flag
        exact ⟨low, high, Nat.one_le_iff_ne_zero.2 positive, most, by rw [← units, List.append_assoc]; rfl⟩
    · cases read
  · rintro ⟨low, high, positive, most, rfl⟩
    have size : (be 2 u ++ [yesNo f]).length = 3 := by simp
    have flag : field (be 2 u ++ [yesNo f]) 2 1 = (yesNo f).toNat := by simp [field_be_append_of_le]
    rw [List.append_assoc, readDraw, ← size, readIdThen_idField low high]
    dsimp only
    rw [flag, readYesNo_eq_some.2 rfl, field_be_two most]
    exact if_neg (by omega)

theorem readDraw_isSome {q : List Byte} : (readDraw q).isSome = true ↔ ∃ id u f, 4 ≤ id.length ∧ id.length ≤ 12 ∧
    1 ≤ u ∧ u ≤ 65535 ∧ q = idField id ++ be 2 u ++ [yesNo f] := by
  rw [Option.isSome_iff_exists]
  exact ⟨fun ⟨⟨id, u, f⟩, read⟩ => ⟨id, u, f, readDraw_eq_some.1 read⟩,
    fun ⟨_, _, _, parts⟩ => ⟨_, readDraw_eq_some.2 parts⟩⟩

theorem readTopUp_eq_some {q : List Byte} {item : Item} : readTopUp q = some item ↔
    ∃ id v, 4 ≤ id.length ∧ id.length ≤ 12 ∧ 1 ≤ v ∧ v ≤ 16777215 ∧ q = idField id ++ be 3 v ∧ item = .topUp id v := by
  constructor
  · intro read
    obtain ⟨id, rest, ⟨low, high⟩, size, rfl⟩ := exists_idField_of_reads (n := 3) (fun h => by rw [readTopUp, h]) read
    rw [readTopUp, ← size, readIdThen_idField low high, size] at read
    have amount : be 3 (field rest 0 3) = rest := by rw [be_field _ size.ge, List.take_of_length_le size.le]
    obtain ⟨positive, same⟩ := Option.ite_none_left_eq_some.1 read
    exact ⟨id, _, low, high, Nat.one_le_iff_ne_zero.2 positive, field_three_le rest 0, by rw [amount],
      (Option.some.inj same).symm⟩
  · rintro ⟨id, v, low, high, positive, most, rfl, rfl⟩
    have value : field (be 3 v) 0 3 = v := by rw [field_be, Nat.mod_eq_of_lt (by omega)]
    rw [readTopUp, readIdThen_eq_some.2 ⟨⟨low, high, rfl⟩, length_be 3 v⟩]
    dsimp only
    rw [value, if_neg (by omega)]

theorem readTopUp_isSome {q : List Byte} : (readTopUp q).isSome = true ↔
    ∃ id v, 4 ≤ id.length ∧ id.length ≤ 12 ∧ 1 ≤ v ∧ v ≤ 16777215 ∧ q = idField id ++ be 3 v := by
  rw [Option.isSome_iff_exists]
  constructor
  · rintro ⟨x, read⟩
    obtain ⟨id, v, low, high, positive, most, parts, -⟩ := readTopUp_eq_some.1 read
    exact ⟨id, v, low, high, positive, most, parts⟩
  · rintro ⟨id, v, low, high, positive, most, parts⟩
    exact ⟨_, readTopUp_eq_some.2 ⟨id, v, low, high, positive, most, parts, rfl⟩⟩

/-! ### Bar, Unbar, Retire and Relocate (R190) -/

/-- A token ID and an optional value of `n` bytes behind its flag: what Bar, Unbar, Retire and Relocate have in common. -/
def readIdFlagged (n : Nat) (q : List Byte) : Option (List Byte × Option Nat) :=
  (readIdThen (n + 1) q).bind fun x => (readFlagged (field x.2 0 1) (field x.2 1 n)).map (x.1, ·)

theorem readIdExpected_eq (q : List Byte) : readIdExpected q = readIdFlagged 1 q := by
  unfold readIdExpected readIdFlagged
  cases readIdThen 2 q with
  | none => rfl
  | some x => dsimp only [Option.bind_some]; cases readFlagged (field x.2 0 1) (field x.2 1 1) <;> rfl

theorem readRelocate_eq (q : List Byte) : readRelocate q = readIdFlagged 2 q := by
  unfold readRelocate readIdFlagged
  cases readIdThen 3 q with
  | none => rfl
  | some x => dsimp only [Option.bind_some]; cases readFlagged (field x.2 0 1) (field x.2 1 2) <;> rfl

theorem readIdFlagged_eq_some {n : Nat} {q : List Byte} {x : Option Nat} : readIdFlagged n q = some (id, x) ↔
    4 ≤ id.length ∧ id.length ≤ 12 ∧ ∃ f l, l.length = n ∧ q = idField id ++ yesNo f :: l ∧
      x = if f then some (beNat l) else none := by
  constructor
  · intro read
    obtain ⟨id', rest, ⟨low, high⟩, size, rfl⟩ :=
      exists_idField_of_reads (n := n + 1) (fun h => by rw [readIdFlagged, h]; rfl) read
    obtain ⟨c, l, rfl⟩ := List.exists_cons_of_length_eq_add_one size
    have count : l.length = n := Nat.succ.inj size
    rw [readIdFlagged, readIdThen_eq_some.2 ⟨⟨low, high, rfl⟩, size⟩, Option.bind_some, field_cons_one,
      field_cons_one_all c count, Option.map_eq_some_iff] at read
    obtain ⟨v, flag, same⟩ := read
    cases same
    obtain ⟨f, rfl, value⟩ := readFlagged_eq_some.1 flag
    exact ⟨low, high, f, l, count, rfl, value⟩
  · rintro ⟨low, high, f, l, size, rfl, value⟩
    rw [readIdFlagged, readIdThen_eq_some.2 ⟨⟨low, high, rfl⟩, by simp [size]⟩, Option.bind_some, field_cons_one,
      field_cons_one_all _ size, readFlagged_eq_some.2 ⟨f, rfl, value⟩, Option.map_some]

/-- A payload with an optional value reads back, whether the value is present or not. -/
theorem readIdFlagged_flagged (low : 4 ≤ id.length) (high : id.length ≤ 12) {n : Nat} {x : Option Nat}
    (fits : ∀ v, x = some v → v < 256 ^ n) : readIdFlagged n (idField id ++ flagged n x) = some (id, x) := by
  obtain ⟨f, l, size, sent, value⟩ := exists_flagged n fits
  exact readIdFlagged_eq_some.2 ⟨low, high, f, l, size, by rw [sent], value⟩

theorem readIdFlagged_isSome {n : Nat} {q : List Byte} : (readIdFlagged n q).isSome = true ↔
    ∃ id f l, 4 ≤ id.length ∧ id.length ≤ 12 ∧ l.length = n ∧ q = idField id ++ yesNo f :: l := by
  rw [Option.isSome_iff_exists]
  constructor
  · rintro ⟨⟨id, x⟩, read⟩
    obtain ⟨low, high, f, l, size, parts, -⟩ := readIdFlagged_eq_some.1 read
    exact ⟨id, f, l, low, high, size, parts⟩
  · rintro ⟨id, f, l, low, high, size, parts⟩
    exact ⟨_, readIdFlagged_eq_some.2 ⟨low, high, f, l, size, parts, rfl⟩⟩

theorem readIdExpected_isSome {q : List Byte} : (readIdExpected q).isSome = true ↔ ∃ (id : List Byte) (f : Bool) (a : Byte),
    4 ≤ id.length ∧ id.length ≤ 12 ∧ q = idField id ++ [yesNo f, a] := by
  rw [readIdExpected_eq, readIdFlagged_isSome]
  constructor
  · rintro ⟨id, f, l, low, high, size, parts⟩
    obtain ⟨a, rfl⟩ := List.length_eq_one_iff.1 size
    exact ⟨id, f, a, low, high, parts⟩
  · exact fun ⟨id, f, a, low, high, parts⟩ => ⟨id, f, [a], low, high, rfl, parts⟩

theorem readRelocate_isSome {q : List Byte} : (readRelocate q).isSome = true ↔ ∃ (id : List Byte) (f : Bool) (a b : Byte),
    4 ≤ id.length ∧ id.length ≤ 12 ∧ q = idField id ++ [yesNo f, a, b] := by
  rw [readRelocate_eq, readIdFlagged_isSome]
  constructor
  · rintro ⟨id, f, l, low, high, size, parts⟩
    obtain ⟨a, b, rfl⟩ := List.length_eq_two.1 size
    exact ⟨id, f, a, b, low, high, parts⟩
  · exact fun ⟨id, f, a, b, low, high, parts⟩ => ⟨id, f, [a, b], low, high, rfl, parts⟩

/-! ### Read Entry, Start Scan and handles -/

theorem readEntryName_byId {q : List Byte} {x : EntryName} : readEntryName (1#8 :: q) = some x ↔
    ∃ id, 4 ≤ id.length ∧ id.length ≤ 12 ∧ q = idField id ∧ x = .byId id := by
  have selected : readEntryName (1#8 :: q) = (readIdThen 0 q).map fun x => EntryName.byId x.1 := rfl
  rw [selected, Option.map_eq_some_iff]
  constructor
  · rintro ⟨⟨id, rest⟩, read, rfl⟩
    obtain ⟨⟨low, high, rfl⟩, size⟩ := readIdThen_eq_some.1 read
    exact ⟨id, low, high, by rw [List.length_eq_zero_iff.1 size, List.append_nil], rfl⟩
  · rintro ⟨id, low, high, rfl, rfl⟩
    exact ⟨(id, []), readIdThen_eq_some.2 ⟨⟨low, high, (List.append_nil _).symm⟩, rfl⟩, rfl⟩

theorem readEntryName_bySlot {q : List Byte} {x : EntryName} : readEntryName (2#8 :: q) = some x ↔
    ∃ n ≤ 65535, q = be 2 n ∧ x = .bySlot n := by
  have selected : readEntryName (2#8 :: q) = if q.length = 2 then some (.bySlot (field q 0 2)) else none := rfl
  rw [selected, Option.ite_none_right_eq_some]
  constructor
  · rintro ⟨size, same⟩
    obtain ⟨n, most, value, units⟩ := exists_be_two size
    cases same
    exact ⟨n, most, units, by rw [value]⟩
  · rintro ⟨n, most, rfl, rfl⟩
    have value : field (be 2 n) 0 2 = n := by simpa using field_be_two (bytes := []) most
    exact ⟨length_be 2 n, by rw [value]⟩

theorem readEntryName_isSome {q : List Byte} : (readEntryName q).isSome = true ↔
    (∃ id, 4 ≤ id.length ∧ id.length ≤ 12 ∧ q = 1#8 :: idField id) ∨ ∃ n, n ≤ 65535 ∧ q = 2#8 :: be 2 n := by
  rw [Option.isSome_iff_exists]
  constructor
  · rintro ⟨x, read⟩
    cases q with
    | nil => cases read
    | cons selector rest =>
      obtain rfl | rfl | other : selector = 1#8 ∨ selector = 2#8 ∨ selector.toNat ≠ 1 ∧ selector.toNat ≠ 2 := by
        bv_omega
      · obtain ⟨id, low, high, rfl, -⟩ := readEntryName_byId.1 read
        exact .inl ⟨id, low, high, rfl⟩
      · obtain ⟨n, most, rfl, -⟩ := readEntryName_bySlot.1 read
        exact .inr ⟨n, most, rfl⟩
      · dsimp only [readEntryName] at read
        split at read
        next one => exact absurd one other.1
        next two => exact absurd two other.2
        next => cases read
  · rintro (⟨id, low, high, rfl⟩ | ⟨n, most, rfl⟩)
    · exact ⟨_, readEntryName_byId.2 ⟨id, low, high, rfl, rfl⟩⟩
    · exact ⟨_, readEntryName_bySlot.2 ⟨n, most, rfl, rfl⟩⟩

theorem readStartScan_isSome {q : List Byte} : (readStartScan q).isSome = true ↔ field q 0 1 = 1 ∨ field q 0 1 = 4 ∨
    (field q 0 1 = 2 ∧ field q 1 2 ≤ 15) ∨ (field q 0 1 = 3 ∧ field q 1 2 ≠ 0) := by
  have classes : field q 1 2 < Config.classes ↔ field q 1 2 ≤ 15 := Nat.lt_succ_iff
  unfold readStartScan
  dsimp only
  split
  next kind => simp [kind]
  next kind => split <;> simp_all
  next kind => split <;> simp_all
  next kind => simp [kind]
  next => simp_all

section
variable {a : Nat}

theorem field_argument (kind : Byte) (most : a ≤ 65535) : field (kind :: be 2 a) 1 2 = a := by
  simpa using field_be_two (bytes := []) most

theorem readStartScan_unread : readStartScan (1#8 :: be 2 a) = some (.expiry, none) ∧
    readStartScan (4#8 :: be 2 a) = some (.clear, none) := ⟨rfl, rfl⟩

theorem readStartScan_cls (most : a ≤ 15) : readStartScan (2#8 :: be 2 a) = some (.cls, some a) := by
  have read : readStartScan (2#8 :: be 2 a) = if field (2#8 :: be 2 a) 1 2 < Config.classes then
      some (.cls, some (field (2#8 :: be 2 a) 1 2)) else none := rfl
  rw [read, field_argument _ (by omega)]
  exact if_pos (Nat.lt_succ_of_le most)

theorem readStartScan_group (positive : 1 ≤ a) (most : a ≤ 65535) :
    readStartScan (3#8 :: be 2 a) = some (.group, some a) := by
  have read : readStartScan (3#8 :: be 2 a) = if field (3#8 :: be 2 a) 1 2 = 0 then none else
      some (.group, some (field (3#8 :: be 2 a) 1 2)) := rfl
  rw [read, field_argument _ most]
  exact if_neg (by omega)

end

theorem readHandle_sent {n g e : Nat} (number : n ≤ 255) (generation : g ≤ 255) (epoch : e ≤ 65535) :
    readHandle ([byte n, byte g] ++ be 2 e) = ⟨n, g, e⟩ := by
  have value : field (be 2 e) 0 2 = e := by simpa using field_be_two (bytes := []) epoch
  simp [readHandle, toNat_byte (Nat.lt_succ_of_le number), toNat_byte (Nat.lt_succ_of_le generation), value]

/-! ### Stage (Table 10-4) -/

theorem readStage_cases (c : Byte) (rest : List Byte) :
    (c = 1#8 → readStage (c :: rest) = (readImage rest).map .insert) ∧ (c = 2#8 → readStage (c :: rest) = readModify rest) ∧
    (c = 3#8 → readStage (c :: rest) = readTopUp rest) ∧ (c = 4#8 → readStage (c :: rest) = readBarItem rest) ∧
    (c = 5#8 → readStage (c :: rest) = readUnbarItem rest) ∧ (c = 6#8 → readStage (c :: rest) = readRetireItem rest) ∧
    (c = 0#8 ∨ 6 < c.toNat → readStage (c :: rest) = none) := by
  refine ⟨?_, ?_, ?_, ?_, ?_, ?_, fun outside => ?none⟩
  case none =>
    have outside : c.toNat = 0 ∨ 6 < c.toNat := outside.imp_left (congrArg BitVec.toNat)
    dsimp only [readStage]
    split
    case h_7 => rfl
    all_goals omega
  all_goals rintro rfl; rfl

end Sys2Proof.Machine
end

section
/-! Class records, entry images and Modifies: bytes of flags, the fields that a payload carries, and what makes it malformed. -/

namespace Sys2Proof.Machine

variable {id bytes : List Byte}

/-! ### Bytes of flags -/

/-- The bits of a byte that is the sum of its flags. -/
theorem getLsbD_byte_flags (b0 b1 b2 b3 b4 b5 b6 : Bool) (i : Nat) :
    (byte ((if b0 then 1 else 0) + (if b1 then 2 else 0) + (if b2 then 4 else 0) + (if b3 then 8 else 0)
      + (if b4 then 16 else 0) + (if b5 then 32 else 0) + (if b6 then 64 else 0))).getLsbD i =
      [b0, b1, b2, b3, b4, b5, b6].getD i false := by
  by_cases within : i < 8
  · revert i b0 b1 b2 b3 b4 b5 b6
    decide
  · rw [BitVec.getLsbD_of_ge _ _ (by omega), List.getD_eq_default _ _ (by simp; omega)]

theorem presentIs_iff {p : Nat → Bool} {x : Option Nat} : presentIs p x = true ↔ ∀ v, x = some v → p v = true := by
  cases x <;> simp [presentIs]

theorem getD_none_eq_some {x : Option (Option Nat)} {v : Nat} : x.getD none = some v ↔ x = some (some v) := by
  cases x <;> simp

theorem whenBit_eq_some {mask : Byte} {i v u : Nat} : whenBit mask i v = some u ↔ mask.getLsbD i = true ∧ v = u := by
  simp [whenBit]

/-- What must hold of a value where its flag names it. -/
theorem forall_whenBit {mask : Byte} {i v : Nat} {P : Nat → Prop} :
    (∀ u, whenBit mask i v = some u → P u) ↔ (mask.getLsbD i = true → P v) := by
  simp only [whenBit_eq_some]
  exact ⟨fun h named => h v ⟨named, rfl⟩, by rintro h _ ⟨named, rfl⟩; exact h named⟩

/-- A value that its flag names is read, and one that it does not name is not. -/
theorem whenBit_eq {mask : Byte} {i v : Nat} {x : Option Nat} (bit : mask.getLsbD i = x.isSome)
    (value : ∀ u, x = some u → v = u) : whenBit mask i v = x := by
  cases x with
  | none => simp [whenBit, bit]
  | some u => simp [whenBit, bit, value u rfl]

/-- An optional value of `n` bytes reads as itself where it is present. -/
theorem getD_mod_eq {n : Nat} {x : Option Nat} (fits : ∀ v, x = some v → v < 256 ^ n) (u : Nat) (present : x = some u) :
    x.getD 0 % 256 ^ n = u := by
  rw [present, Option.getD_some, Nat.mod_eq_of_lt (fits u present)]

/-! ### Class records (Table 10-6) -/

/-- The bytes of a number within a list. -/
theorem be_field_at {i n : Nat} (within : i + n ≤ bytes.length) : be n (field bytes i n) = (bytes.drop i).take n :=
  be_field (bytes.drop i) (by rw [List.length_drop]; omega)

/-- A byte of six flags is the sum of them. -/
theorem byte_flags_eq {b : Byte} (six : b.getLsbD 6 = false) (seven : b.getLsbD 7 = false) :
    byte ((if b.getLsbD 0 then 1 else 0) + (if b.getLsbD 1 then 2 else 0) + (if b.getLsbD 2 then 4 else 0)
      + (if b.getLsbD 3 then 8 else 0) + (if b.getLsbD 4 then 16 else 0) + (if b.getLsbD 5 then 32 else 0)) = b := by
  refine BitVec.eq_of_getLsbD_eq fun i within => ?_
  refine (getLsbD_byte_flags _ _ _ _ _ _ false i).trans ?_
  match i, within with
  | 0, _ | 1, _ | 2, _ | 3, _ | 4, _ | 5, _ => rfl
  | 6, _ => exact six.symm
  | 7, _ => exact seven.symm

theorem ClassRecord.bytes_flags (r : ClassRecord) : ∃ b : Byte, r.bytes = b :: (be 2 r.lifetime ++ be 2 r.lifetimeLimit) ∧
    ∀ i, b.getLsbD i =
      [r.enabled, r.guarded, r.tp0Allowed, r.tp1Allowed, r.partialDraws, r.retireOnExhaustion, false].getD i false :=
  ⟨_, rfl, getLsbD_byte_flags _ _ _ _ _ _ false⟩

theorem readClassRecord_iff {r : ClassRecord} : readClassRecord bytes = some r ↔
    10 ≤ r.lifetime ∧ r.lifetime ≤ r.lifetimeLimit ∧ r.lifetimeLimit ≤ 65535 ∧ bytes = r.bytes := by
  constructor
  · intro read
    obtain ⟨low, ordered, most⟩ := readClassRecord_eq_some read
    obtain ⟨⟨size, six, seven, -⟩, same⟩ := Option.ite_none_right_eq_some.1 read
    obtain ⟨flags, rest, rfl⟩ := List.exists_cons_of_length_eq_add_one size
    have size : rest.length = 4 := Nat.succ.inj size
    refine ⟨low, ordered, most, ?_⟩
    have lifetimes : be 2 (field rest 0 2) ++ be 2 (field rest 2 2) = rest := by
      rw [be_field_at (by omega), be_field_at (by omega), List.take_of_length_le (l := rest.drop 2) (by simp [size])]
      exact List.take_append_drop 2 rest
    cases same
    exact congrArg₂ List.cons (byte_flags_eq six seven).symm lifetimes.symm
  · rintro ⟨low, ordered, most, rfl⟩
    obtain ⟨b, sent, flag⟩ := r.bytes_flags
    have life : field (b :: (be 2 r.lifetime ++ be 2 r.lifetimeLimit)) 1 2 = r.lifetime := field_be_two (by omega)
    have limit : field (b :: (be 2 r.lifetime ++ be 2 r.lifetimeLimit)) 3 2 = r.lifetimeLimit := by
      simpa [field_be_append_of_le] using field_be_two (bytes := []) most
    rw [sent, readClassRecord]
    simp only [List.head?_cons, Option.getD_some, flag, life, limit]
    exact if_pos ⟨by simp, rfl, rfl, low, ordered, most⟩

theorem readSetClass_sent {c : Nat} {x : ClassRecord} (cls : c ≤ 15) (low : 10 ≤ x.lifetime)
    (ordered : x.lifetime ≤ x.lifetimeLimit) (most : x.lifetimeLimit ≤ 65535) :
    readSetClass (byte c :: x.bytes) = some (c, x) := by
  have number : (byte c).toNat = c := toNat_byte (by omega)
  rw [readSetClass, number, if_pos (show c < Config.classes from Nat.lt_succ_of_le cls),
    readClassRecord_iff.2 ⟨low, ordered, most, rfl⟩]
  rfl

theorem readSetClass_isSome {q : List Byte} : (readSetClass q).isSome = true ↔ ∃ c flags life limit, c ≤ 15 ∧ flags < 64 ∧
    10 ≤ life ∧ life ≤ limit ∧ limit ≤ 65535 ∧ q = byte c :: byte flags :: (be 2 life ++ be 2 limit) := by
  constructor
  · intro reads
    cases q with
    | nil => cases reads
    | cons c rest =>
      obtain ⟨y, read⟩ := Option.isSome_iff_exists.1 reads
      obtain ⟨cls, read⟩ := Option.ite_none_right_eq_some.1 read
      obtain ⟨r, record, -⟩ := Option.map_eq_some_iff.1 read
      obtain ⟨low, ordered, most, rfl⟩ := readClassRecord_iff.1 record
      obtain ⟨b, sent, flag⟩ := r.bytes_flags
      have six : b.toNat < 2 ^ 6 := Nat.lt_pow_two_of_testBit _ fun i above => by
        rw [BitVec.testBit_toNat, flag]
        obtain rfl | above := Nat.eq_or_lt_of_le above
        · rfl
        · exact List.getD_eq_default _ _ above
      exact ⟨c.toNat, b.toNat, _, _, Nat.le_of_lt_succ cls, six, low, ordered, most, by rw [sent, byte_toNat, byte_toNat]⟩
  · rintro ⟨c, flags, life, limit, cls, six, low, ordered, most, rfl⟩
    have clear : ∀ i, 6 ≤ i → (byte flags).getLsbD i = false := fun i above => by
      rw [byte, BitVec.getLsbD_ofNat, Nat.testBit_lt_two_pow (six.trans_le (Nat.pow_le_pow_right Nat.two_pos above)),
        Bool.and_false]
    have record : byte flags :: (be 2 life ++ be 2 limit) = ClassRecord.bytes ⟨(byte flags).getLsbD 0, (byte flags).getLsbD 1,
        (byte flags).getLsbD 2, (byte flags).getLsbD 3, (byte flags).getLsbD 4, (byte flags).getLsbD 5, life, limit⟩ :=
      congrArg (· :: _) (byte_flags_eq (clear 6 (by decide)) (clear 7 (by decide))).symm
    rw [record, readSetClass_sent cls low ordered most]
    rfl

/-! ### Entry images (Table 10-5) -/

/-- The entry that an image carries in its presence byte and the 25 bytes after it (R2, R191). -/
def imageFields (id : List Byte) (presence : Byte) (rest : List Byte) : Entry where
  id := id
  cls := field rest 0 1
  state := if field rest 1 1 = 1 then .active else if field rest 1 1 = 2 then .barred else .retiring
  validFrom := whenBit presence 0 (field rest 3 4)
  validUntil := whenBit presence 1 (field rest 7 4)
  balance := whenBit presence 2 (field rest 11 3)
  ceiling := whenBit presence 3 (field rest 14 2)
  holdsLimit := if field rest 2 1 = 0 then 1 else field rest 2 1
  groupTag := whenBit presence 4 (field rest 16 2)
  useCount := 0
  lastUse := none
  revision := 0

theorem readImage_idField (low : 4 ≤ id.length) (high : id.length ≤ 12) (presence : Byte) (size : bytes.length = 25) :
    readImage (idField id ++ presence :: bytes) =
      if presence.getLsbD 6 = false ∧ presence.getLsbD 7 = false ∧ (imageFields id presence bytes).newImageOk = true then
        some (imageFields id presence bytes)
      else none := by
  rw [readImage, readIdThen_eq_some.2 ⟨⟨low, high, rfl⟩, by rw [List.length_cons, size]⟩]
  rfl

theorem Entry.newImageOk_iff {e : Entry} : e.newImageOk = true ↔
    (4 ≤ e.id.length ∧ e.id.length ≤ 12) ∧ e.cls ≤ 15 ∧ (e.state = .active ∨ e.state = .barred) ∧
      (∀ v, e.validFrom = some v → v ≤ maxSeconds) ∧ (∀ v, e.validUntil = some v → v ≤ maxSeconds) ∧
      (∀ v, e.balance = some v → v ≤ maxBalance) ∧ (∀ v, e.ceiling = some v → 1 ≤ v ∧ v ≤ maxCount16) ∧
      (∀ v, e.groupTag = some v → 1 ≤ v ∧ v ≤ maxCount16) ∧ (1 ≤ e.holdsLimit ∧ e.holdsLimit ≤ 4) ∧
      (∀ v w, e.validFrom = some v → e.validUntil = some w → v < w) := by
  have classes : e.cls < Config.classes ↔ e.cls ≤ 15 := Nat.lt_succ_iff
  simp only [Entry.newImageOk, Bool.and_eq_true, decide_eq_true_eq, presentIs_iff, windowOk_iff, classes, and_assoc]

/-- The values that follow the presence byte of an image. -/
def Entry.imageValues (e : Entry) : List Byte :=
  byte e.cls :: e.state.code :: byte e.holdsLimit :: (be 4 (e.validFrom.getD 0) ++ (be 4 (e.validUntil.getD 0)
    ++ (be 3 (e.balance.getD 0) ++ (be 2 (e.ceiling.getD 0) ++ (be 2 (e.groupTag.getD 0) ++ (be 2 e.useCount
      ++ (be 4 (e.lastUse.getD 0) ++ [byte e.revision])))))))

theorem Entry.image_eq (e : Entry) : e.image e.state = idField e.id ++ e.presence :: e.imageValues := by
  simp [Entry.image, Entry.imageValues, valueOrZero]

theorem Entry.length_imageValues (e : Entry) : e.imageValues.length = 25 := by
  simp [Entry.imageValues]

theorem Entry.fields_imageValues (e : Entry) :
    field e.imageValues 0 1 = (byte e.cls).toNat ∧ field e.imageValues 1 1 = e.state.code.toNat ∧
    field e.imageValues 2 1 = (byte e.holdsLimit).toNat ∧ field e.imageValues 3 4 = e.validFrom.getD 0 % 256 ^ 4 ∧
    field e.imageValues 7 4 = e.validUntil.getD 0 % 256 ^ 4 ∧ field e.imageValues 11 3 = e.balance.getD 0 % 256 ^ 3 ∧
    field e.imageValues 14 2 = e.ceiling.getD 0 % 256 ^ 2 ∧ field e.imageValues 16 2 = e.groupTag.getD 0 % 256 ^ 2 := by
  simp only [Entry.imageValues, field_cons_succ, field_cons_one, field_be_append, field_be_append_of_le,
    Nat.reduceLeDiff, Nat.reduceSub, Nat.le_refl, true_and]

theorem Entry.presence_flags (e : Entry) (i : Nat) : e.presence.getLsbD i = [e.validFrom.isSome, e.validUntil.isSome,
    e.balance.isSome, e.ceiling.isSome, e.groupTag.isSome, e.lastUse.isSome, false].getD i false :=
  getLsbD_byte_flags _ _ _ _ _ _ false i

theorem EntryState.code_of_new {x : EntryState} (new : x = .active ∨ x = .barred) :
    (if x.code.toNat = 1 then EntryState.active else if x.code.toNat = 2 then .barred else .retiring) = x := by
  obtain rfl | rfl := new <;> rfl

theorem imageFields_sent {e : Entry} (ok : e.newImageOk = true) : imageFields e.id e.presence e.imageValues =
    { e with useCount := 0, lastUse := none, revision := 0 } := by
  obtain ⟨-, cls, state, start, finish, balance, ceiling, tag, ⟨one, four⟩, -⟩ := Entry.newImageOk_iff.1 ok
  obtain ⟨clsField, stateField, limitField, fromField, untilField, balanceField, ceilingField, tagField⟩ :=
    e.fields_imageValues
  rw [imageFields, Entry.mk.injEq, clsField, stateField, limitField, fromField, untilField, balanceField, ceilingField,
    tagField, toNat_byte (by omega), toNat_byte (by omega), if_neg (show e.holdsLimit ≠ 0 by omega)]
  exact ⟨rfl, rfl, EntryState.code_of_new state,
    whenBit_eq (e.presence_flags 0) (getD_mod_eq fun v h => lt_pow_of_seconds (start v h)),
    whenBit_eq (e.presence_flags 1) (getD_mod_eq fun v h => lt_pow_of_seconds (finish v h)),
    whenBit_eq (e.presence_flags 2) (getD_mod_eq fun v h => lt_pow_of_balance (balance v h)),
    whenBit_eq (e.presence_flags 3) (getD_mod_eq fun v h => lt_pow_of_count16 (ceiling v h).2), rfl,
    whenBit_eq (e.presence_flags 4) (getD_mod_eq fun v h => lt_pow_of_count16 (tag v h).2), rfl, rfl, rfl⟩

theorem readImage_sent {e : Entry} (ok : e.newImageOk = true) :
    readImage (e.image e.state) = some { e with useCount := 0, lastUse := none, revision := 0 } := by
  obtain ⟨⟨low, high⟩, -⟩ := Entry.newImageOk_iff.1 ok
  rw [Entry.image_eq, readImage_idField low high _ e.length_imageValues, imageFields_sent ok]
  exact if_pos ⟨e.presence_flags 6, e.presence_flags 7, ok⟩

theorem EntryState.read_new {v : Nat} : (if v = 1 then EntryState.active else if v = 2 then .barred else .retiring) = .active ∨
    (if v = 1 then EntryState.active else if v = 2 then .barred else .retiring) = .barred ↔ v = 1 ∨ v = 2 := by
  split
  next active => simp [active]
  next active =>
    split
    next barred => simp [barred]
    next barred => simp [active, barred]

/-- What makes an image well formed beyond its length: the numbers of fewer bytes than their range admits are in it. -/
theorem imageFields_newImageOk {presence : Byte} (low : 4 ≤ id.length) (high : id.length ≤ 12) :
    (imageFields id presence bytes).newImageOk = true ↔
      field bytes 0 1 ≤ 15 ∧ (field bytes 1 1 = 1 ∨ field bytes 1 1 = 2) ∧ field bytes 2 1 ≤ 4 ∧
      (presence.getLsbD 0 = true → presence.getLsbD 1 = true → field bytes 3 4 < field bytes 7 4) ∧
      (presence.getLsbD 3 = true → field bytes 14 2 ≠ 0) ∧ (presence.getLsbD 4 = true → field bytes 16 2 ≠ 0) := by
  have limit : (1 ≤ (if field bytes 2 1 = 0 then 1 else field bytes 2 1) ∧
      (if field bytes 2 1 = 0 then 1 else field bytes 2 1) ≤ 4) ↔ field bytes 2 1 ≤ 4 := by split <;> omega
  have window : (∀ v w, whenBit presence 0 (field bytes 3 4) = some v →
        whenBit presence 1 (field bytes 7 4) = some w → v < w) ↔
      (presence.getLsbD 0 = true → presence.getLsbD 1 = true → field bytes 3 4 < field bytes 7 4) := by
    simp only [whenBit_eq_some]
    exact ⟨fun h start finish => h _ _ ⟨start, rfl⟩ ⟨finish, rfl⟩,
      by rintro h _ _ ⟨start, rfl⟩ ⟨finish, rfl⟩; exact h start finish⟩
  rw [Entry.newImageOk_iff]
  simp only [imageFields, forall_whenBit, EntryState.read_new, limit, window, low, high, field_four_le, field_three_le,
    field_two_le, implies_true, true_and, and_true]
  simp only [Nat.one_le_iff_ne_zero]
  exact ⟨fun ⟨cls, state, ceiling, tag, holds, window⟩ => ⟨cls, state, holds, window, ceiling, tag⟩,
    fun ⟨cls, state, holds, window, ceiling, tag⟩ => ⟨cls, state, ceiling, tag, holds, window⟩⟩

theorem readImage_isSome {q : List Byte} : (readImage q).isSome = true ↔ ∃ (id : List Byte) (flags : Byte) (rest : List Byte),
    4 ≤ id.length ∧ id.length ≤ 12 ∧ rest.length = 25 ∧ q = idField id ++ flags :: rest ∧
    flags.getLsbD 6 = false ∧ flags.getLsbD 7 = false ∧ (imageFields id flags rest).newImageOk = true := by
  constructor
  · intro reads
    obtain ⟨e, read⟩ := Option.isSome_iff_exists.1 reads
    obtain ⟨id, all, ⟨low, high⟩, size, rfl⟩ := exists_idField_of_reads (n := 26) (fun h => by rw [readImage, h]) read
    obtain ⟨flags, rest, rfl⟩ := List.exists_cons_of_length_eq_add_one size
    have size : rest.length = 25 := Nat.succ.inj size
    rw [readImage_idField low high flags size] at read
    exact ⟨id, flags, rest, low, high, size, rfl, (Option.ite_none_right_eq_some.1 read).1⟩
  · rintro ⟨id, flags, rest, low, high, size, rfl, formed⟩
    rw [readImage_idField low high flags size, if_pos formed]
    rfl

/-! ### Modify (R128, R190) -/

/-- The changes that a Modify names in its two masks and the 17 value bytes after them. -/
def modifyFields (mask gone : Byte) (values : List Byte) : FieldChanges where
  cls := changedField mask 0 (field values 0 1)
  holdsLimit := changedField mask 1 (field values 1 1)
  validFrom := changedOptional mask gone 2 (field values 2 4)
  validUntil := changedOptional mask gone 3 (field values 6 4)
  balance := changedOptional mask gone 4 (field values 10 3)
  ceiling := changedOptional mask gone 5 (field values 13 2)
  groupTag := changedOptional mask gone 6 (field values 15 2)

theorem readModify_idField (low : 4 ≤ id.length) (high : id.length ≤ 12) (flag a mask gone : Byte) (size : bytes.length = 17) :
    readModify (idField id ++ flag :: a :: mask :: gone :: bytes) = (readFlagged flag.toNat a.toNat).bind fun expected =>
      if masksOk mask gone = true ∧ (modifyFields mask gone bytes).inRange = true then
        some (.modify id expected (modifyFields mask gone bytes))
      else none := by
  rw [readModify, readIdThen_eq_some.2 ⟨⟨low, high, rfl⟩, by simp only [List.length_cons, size]⟩]
  simp only [field_cons_one, field_cons_succ]
  cases readFlagged flag.toNat a.toNat <;> rfl

theorem and_not_eq_zero_iff {a b : Byte} : a &&& ~~~b = 0#8 ↔ ∀ i, a.getLsbD i = true → b.getLsbD i = true := by
  constructor
  · intro none i set
    have bit := congrArg (fun x : Byte => x.getLsbD i) none
    have within := BitVec.lt_of_getLsbD set
    simpa [set, within] using bit
  · intro sub
    refine BitVec.eq_of_getLsbD_eq fun i within => ?_
    have := sub i
    cases h : a.getLsbD i <;> simp_all

theorem masksOk_iff {mask gone : Byte} : masksOk mask gone = true ↔ mask ≠ 0#8 ∧ mask.getLsbD 7 = false ∧
    gone.getLsbD 0 = false ∧ gone.getLsbD 1 = false ∧ ∀ i, gone.getLsbD i = true → mask.getLsbD i = true := by
  simp only [masksOk, Bool.and_eq_true, Bool.not_eq_true', beq_eq_false_iff_ne, beq_iff_eq, and_not_eq_zero_iff]
  constructor
  · rintro ⟨⟨⟨⟨⟨names, seven⟩, -⟩, sub⟩, zero⟩, one⟩
    exact ⟨names, seven, zero, one, sub⟩
  · rintro ⟨names, seven, zero, one, sub⟩
    exact ⟨⟨⟨⟨⟨names, seven⟩, Bool.eq_false_iff.2 fun h => by rw [sub 7 h] at seven; cases seven⟩, sub⟩, zero⟩, one⟩

theorem FieldChanges.inRange_iff {f : FieldChanges} : f.inRange = true ↔
    (∀ v, f.cls = some v → v ≤ 15) ∧ (∀ v, f.holdsLimit = some v → 1 ≤ v ∧ v ≤ 4) ∧
      (∀ v, f.validFrom = some (some v) → v ≤ maxSeconds) ∧ (∀ v, f.validUntil = some (some v) → v ≤ maxSeconds) ∧
      (∀ v, f.balance = some (some v) → v ≤ maxBalance) ∧ (∀ v, f.ceiling = some (some v) → 1 ≤ v ∧ v ≤ maxCount16) ∧
      (∀ v, f.groupTag = some (some v) → 1 ≤ v ∧ v ≤ maxCount16) := by
  have classes : ∀ v, v < Config.classes ↔ v ≤ 15 := fun v => Nat.lt_succ_iff
  simp only [FieldChanges.inRange, Bool.and_eq_true, presentIs_iff, getD_none_eq_some, decide_eq_true_eq, classes,
    and_assoc]

/-- What must hold of a value where the masks set it. -/
theorem forall_changedOptional {mask gone : Byte} {i v : Nat} {P : Nat → Prop} :
    (∀ u, changedOptional mask gone i v = some (some u) → P u) ↔
      (mask.getLsbD i = true → gone.getLsbD i = false → P v) := by
  unfold changedOptional
  cases mask.getLsbD i <;> cases gone.getLsbD i <;> simp

theorem forall_changedField {mask : Byte} {i v : Nat} {P : Nat → Prop} :
    (∀ u, changedField mask i v = some u → P u) ↔ (mask.getLsbD i = true → P v) := forall_whenBit

theorem modifyFields_inRange {mask gone : Byte} : (modifyFields mask gone bytes).inRange = true ↔
    (mask.getLsbD 0 = true → field bytes 0 1 ≤ 15) ∧ (mask.getLsbD 1 = true → 1 ≤ field bytes 1 1 ∧ field bytes 1 1 ≤ 4) ∧
      (mask.getLsbD 5 = true → gone.getLsbD 5 = false → field bytes 13 2 ≠ 0) ∧
      (mask.getLsbD 6 = true → gone.getLsbD 6 = false → field bytes 15 2 ≠ 0) := by
  rw [FieldChanges.inRange_iff]
  simp only [modifyFields, forall_changedField, forall_changedOptional, field_four_le, field_three_le, field_two_le,
    implies_true, true_and, and_true, Nat.one_le_iff_ne_zero]

theorem readModify_isSome {q : List Byte} : (readModify q).isSome = true ↔
    ∃ (id : List Byte) (f : Bool) (a mask gone : Byte) (vs : List Byte), 4 ≤ id.length ∧ id.length ≤ 12 ∧ vs.length = 17 ∧
      q = idField id ++ yesNo f :: a :: mask :: gone :: vs ∧ masksOk mask gone = true ∧
      (modifyFields mask gone vs).inRange = true := by
  constructor
  · intro reads
    obtain ⟨x, read⟩ := Option.isSome_iff_exists.1 reads
    obtain ⟨id, all, ⟨low, high⟩, size, rfl⟩ := exists_idField_of_reads (n := 21) (fun h => by rw [readModify, h]) read
    obtain ⟨flag, all, rfl⟩ := List.exists_cons_of_length_eq_add_one size
    obtain ⟨a, all, rfl⟩ := List.exists_cons_of_length_eq_add_one (Nat.succ.inj size)
    obtain ⟨mask, all, rfl⟩ := List.exists_cons_of_length_eq_add_one (Nat.succ.inj (Nat.succ.inj size))
    obtain ⟨gone, vs, rfl⟩ := List.exists_cons_of_length_eq_add_one (Nat.succ.inj (Nat.succ.inj (Nat.succ.inj size)))
    have count : vs.length = 17 := by simpa using size
    rw [readModify_idField low high flag a mask gone count, Option.bind_eq_some_iff] at read
    obtain ⟨expected, flagged, read⟩ := read
    obtain ⟨f, rfl, -⟩ := readFlagged_eq_some.1 flagged
    exact ⟨id, f, a, mask, gone, vs, low, high, count, rfl, (Option.ite_none_right_eq_some.1 read).1⟩
  · rintro ⟨id, f, a, mask, gone, vs, low, high, size, rfl, formed⟩
    rw [readModify_idField low high _ a mask gone size, readFlagged_eq_some.2 ⟨f, rfl, rfl⟩, Option.bind_some, if_pos formed]
    rfl

/-! A Modify as it is sent: which fields its masks name, and what stands in its value bytes. -/

/-- The field mask of a Modify. -/
def FieldChanges.mask (f : FieldChanges) : Byte :=
  byte ((if f.cls.isSome then 1 else 0) + (if f.holdsLimit.isSome then 2 else 0) + (if f.validFrom.isSome then 4 else 0)
    + (if f.validUntil.isSome then 8 else 0) + (if f.balance.isSome then 16 else 0) + (if f.ceiling.isSome then 32 else 0)
    + (if f.groupTag.isSome then 64 else 0))

/-- The absent mask of a Modify. -/
def FieldChanges.gone (f : FieldChanges) : Byte :=
  byte ((if decide (f.validFrom = some none) then 4 else 0) + (if decide (f.validUntil = some none) then 8 else 0)
    + (if decide (f.balance = some none) then 16 else 0) + (if decide (f.ceiling = some none) then 32 else 0)
    + (if decide (f.groupTag = some none) then 64 else 0))

/-- The value bytes of a Modify. -/
def FieldChanges.values (f : FieldChanges) : List Byte :=
  be 1 (f.cls.getD 0) ++ (be 1 (f.holdsLimit.getD 0) ++ (be 4 ((f.validFrom.getD none).getD 0)
    ++ (be 4 ((f.validUntil.getD none).getD 0) ++ (be 3 ((f.balance.getD none).getD 0)
    ++ (be 2 ((f.ceiling.getD none).getD 0) ++ be 2 ((f.groupTag.getD none).getD 0))))))

theorem modifyPayload_eq (id : List Byte) (x : Option Nat) (f : FieldChanges) :
    modifyPayload id x f = idField id ++ (flagged 1 x ++ f.mask :: f.gone :: f.values) := by
  simp only [modifyPayload, List.append_assoc]
  rfl

theorem FieldChanges.mask_flags (f : FieldChanges) (i : Nat) : f.mask.getLsbD i = [f.cls.isSome, f.holdsLimit.isSome,
    f.validFrom.isSome, f.validUntil.isSome, f.balance.isSome, f.ceiling.isSome, f.groupTag.isSome].getD i false :=
  getLsbD_byte_flags _ _ _ _ _ _ _ i

theorem FieldChanges.gone_flags (f : FieldChanges) (i : Nat) : f.gone.getLsbD i = [false, false, decide (f.validFrom = some none),
    decide (f.validUntil = some none), decide (f.balance = some none), decide (f.ceiling = some none),
    decide (f.groupTag = some none)].getD i false := by
  rw [← getLsbD_byte_flags]
  simp [FieldChanges.gone]

theorem FieldChanges.length_values (f : FieldChanges) : f.values.length = 17 := by
  simp [FieldChanges.values]

theorem FieldChanges.fields_values (f : FieldChanges) :
    field f.values 0 1 = f.cls.getD 0 % 256 ^ 1 ∧ field f.values 1 1 = f.holdsLimit.getD 0 % 256 ^ 1 ∧
    field f.values 2 4 = (f.validFrom.getD none).getD 0 % 256 ^ 4 ∧
    field f.values 6 4 = (f.validUntil.getD none).getD 0 % 256 ^ 4 ∧
    field f.values 10 3 = (f.balance.getD none).getD 0 % 256 ^ 3 ∧
    field f.values 13 2 = (f.ceiling.getD none).getD 0 % 256 ^ 2 ∧
    field f.values 15 2 = (f.groupTag.getD none).getD 0 % 256 ^ 2 := by
  simp only [FieldChanges.values, field_be, field_be_append, field_be_append_of_le, Nat.reduceLeDiff, Nat.reduceSub,
    Nat.le_refl, true_and]

/-- A field that the masks set or make absent is read as that, and one that they do not name is not read. -/
theorem changedOptional_eq {mask gone : Byte} {i n : Nat} {x : Option (Option Nat)} (bit : mask.getLsbD i = x.isSome)
    (absent : gone.getLsbD i = decide (x = some none)) (fits : ∀ v, x = some (some v) → v < 256 ^ n) :
    changedOptional mask gone i ((x.getD none).getD 0 % 256 ^ n) = x := by
  unfold changedOptional
  rw [bit, absent]
  obtain _ | _ | v := x
  · rfl
  · rfl
  · simp [Nat.mod_eq_of_lt (fits v rfl)]

theorem modifyFields_sent {f : FieldChanges} (ok : f.inRange = true) : modifyFields f.mask f.gone f.values = f := by
  obtain ⟨cls, holds, start, finish, balance, ceiling, tag⟩ := FieldChanges.inRange_iff.1 ok
  obtain ⟨clsField, holdsField, fromField, untilField, balanceField, ceilingField, tagField⟩ := f.fields_values
  rw [modifyFields, clsField, holdsField, fromField, untilField, balanceField, ceilingField, tagField,
    changedOptional_eq (f.mask_flags 2) (f.gone_flags 2) fun v h => lt_pow_of_seconds (start v h),
    changedOptional_eq (f.mask_flags 3) (f.gone_flags 3) fun v h => lt_pow_of_seconds (finish v h),
    changedOptional_eq (f.mask_flags 4) (f.gone_flags 4) fun v h => lt_pow_of_balance (balance v h),
    changedOptional_eq (f.mask_flags 5) (f.gone_flags 5) fun v h => lt_pow_of_count16 (ceiling v h).2,
    changedOptional_eq (f.mask_flags 6) (f.gone_flags 6) fun v h => lt_pow_of_count16 (tag v h).2]
  have clsRead : changedField f.mask 0 (f.cls.getD 0 % 256 ^ 1) = f.cls :=
    whenBit_eq (f.mask_flags 0) (getD_mod_eq fun v h => lt_pow_of_byte ((cls v h).trans (by decide)))
  have holdsRead : changedField f.mask 1 (f.holdsLimit.getD 0 % 256 ^ 1) = f.holdsLimit :=
    whenBit_eq (f.mask_flags 1) (getD_mod_eq fun v h => lt_pow_of_byte ((holds v h).2.trans (by decide)))
  rw [clsRead, holdsRead]

/-- The masks of a Modify that names a field are well formed: it makes absent only what it names. -/
theorem FieldChanges.masksOk_sent {f : FieldChanges} (names : f ≠ ⟨none, none, none, none, none, none, none⟩) :
    masksOk f.mask f.gone = true := by
  refine masksOk_iff.2 ⟨fun zero => names ?_, f.mask_flags 7, f.gone_flags 0, f.gone_flags 1, fun i => ?_⟩
  · have unnamed : ∀ i, f.mask.getLsbD i = false := fun i => by rw [zero]; exact BitVec.getLsbD_zero
    have absent := fun i => (f.mask_flags i).symm.trans (unnamed i)
    have none_of : ∀ {α : Type} {x : Option α}, x.isSome = false → x = none := fun h => by simpa using h
    obtain ⟨a, b, c, d, e, g, h⟩ := f
    rw [FieldChanges.mk.injEq]
    exact ⟨none_of (absent 0), none_of (absent 1), none_of (absent 2), none_of (absent 3), none_of (absent 4),
      none_of (absent 5), none_of (absent 6)⟩
  · have named : ∀ {x : Option (Option Nat)}, decide (x = some none) = true → x.isSome = true := fun h => by
      rw [of_decide_eq_true h]; rfl
    rw [f.mask_flags, f.gone_flags]
    match i with
    | 0 | 1 | _ + 7 => nofun
    | 2 | 3 | 4 | 5 | 6 => exact named

theorem readModify_sent (low : 4 ≤ id.length) (high : id.length ≤ 12) {x : Option Nat} (revision : ∀ v, x = some v → v ≤ 255)
    {f : FieldChanges} (ok : f.inRange = true) (names : f ≠ ⟨none, none, none, none, none, none, none⟩) :
    readModify (modifyPayload id x f) = some (.modify id x f) := by
  obtain ⟨flag, l, size, sent, value⟩ := exists_flagged 1 (x := x) fun v h => lt_pow_of_byte (revision v h)
  obtain ⟨a, rfl⟩ := List.length_eq_one_iff.1 size
  have read : readFlagged (yesNo flag).toNat a.toNat = some x :=
    readFlagged_eq_some.2 ⟨flag, rfl, by simpa [beNat] using value⟩
  rw [modifyPayload_eq, sent]
  refine (readModify_idField low high _ a _ _ f.length_values).trans ?_
  rw [read, modifyFields_sent ok, Option.bind_some, if_pos ⟨FieldChanges.masksOk_sent names, ok⟩]

/-! ### The statement -/

/-- Settles O48: each reader takes exactly the payloads laid out from its fields. -/
theorem payloadsReadBack : Obligations.PayloadsReadBack := by
  refine ⟨fun id low high => ?named, fun n most => readEntryName_bySlot.2 ⟨n, most, rfl, rfl⟩, fun e ok _ _ => readImage_sent ok,
    fun c x => readSetClass_sent, fun g => readStartScan_group, fun c => readStartScan_cls, fun a _ => readStartScan_unread,
    fun n g e => readHandle_sent, ⟨rfl, readStage_cases⟩, fun q => ⟨readPresent_isSome, readDraw_isSome, readTopUp_isSome,
      ⟨Option.isSome_map, Option.isSome_map, Option.isSome_map⟩, readIdExpected_isSome, readRelocate_isSome,
      readEntryName_isSome, readSetClass_isSome, fun _ => readStartScan_isSome, readImage_isSome.trans ?image,
      readModify_isSome.trans ?modify⟩⟩
  case named =>
    refine ⟨readPresent_eq_some.2 ⟨low, high, .inl ⟨rfl, rfl⟩⟩, fun u positive most =>
      ⟨readPresent_eq_some.2 ⟨low, high, .inr ⟨u, rfl, positive, most, rfl⟩⟩,
        fun f => readDraw_eq_some.2 ⟨low, high, positive, most, rfl⟩⟩,
      fun v positive most => readTopUp_eq_some.2 ⟨id, v, low, high, positive, most, rfl, rfl⟩,
      fun x revision => ?expected, fun x slot => ?target, readEntryName_byId.2 ⟨id, low, high, rfl, rfl⟩, fun a b => ?unread⟩
    case expected =>
      have read : readIdExpected (idField id ++ flagged 1 x) = some (id, x) := by
        rw [readIdExpected_eq]
        exact readIdFlagged_flagged low high fun v h => lt_pow_of_byte (revision v h)
      rw [readBarItem, readUnbarItem, readRetireItem, read]
      exact ⟨rfl, rfl, rfl, fun f ok names => readModify_sent low high revision ok names⟩
    case target =>
      rw [readRelocate_eq]
      exact readIdFlagged_flagged low high fun v h => lt_pow_of_count16 (slot v h)
    case unread =>
      rw [readIdExpected_eq, readRelocate_eq]
      exact ⟨readIdFlagged_eq_some.2 ⟨low, high, false, [a], rfl, rfl, rfl⟩,
        readIdFlagged_eq_some.2 ⟨low, high, false, [a, b], rfl, rfl, rfl⟩⟩
  case image =>
    refine exists_congr fun id => exists_congr fun flags => exists_congr fun rest => and_congr_right fun low =>
      and_congr_right fun high => ?_
    rw [imageFields_newImageOk low high]
  case modify => simp only [masksOk_iff, modifyFields_inRange, and_assoc]

end Sys2Proof.Machine
end

section
/-! Suspend, Resume and Abort Scan (O43): the answer of each in every state of the scan, and how an Abort ends the walk. -/

namespace Sys2Proof.Machine

variable {s : State} {r : Request}

/-! ### Suspend (R168) -/

theorem exec_suspendScan (ht : s.takeable .mp .suspendScan = some r) :
    exec .suspendScan s = .next (takeSuspendScan r (s.dequeue .mp)) :=
  congrArg Host.Outcome.next (State.take_of_takeable ht _)

theorem takeSuspendScan_of_running (hk : r.kind = .suspendScan) (running : s.scan.state = .running) :
    takeSuspendScan r (s.dequeue .mp) = (s.setScan { s.scan with state := .suspended }).answered .mp
      ⟨0x39#8, r.tag, .ok, be 2 s.scan.cursor⟩ := by
  simp only [takeSuspendScan, State.dequeue_scan, running, State.dequeue_setScan_answer, hk, Kind.code]

theorem takeSuspendScan_of_idle (hk : r.kind = .suspendScan) (idle : s.scan.state = .idle) :
    takeSuspendScan r (s.dequeue .mp) = s.answered .mp ⟨0x39#8, r.tag, .scanIdle, []⟩ := by
  simp only [takeSuspendScan, State.dequeue_scan, idle, State.dequeue_answer, hk, Kind.code]

/-- Only a running scan can be suspended. -/
theorem takeSuspendScan_of_stopped (hk : r.kind = .suspendScan)
    (stopped : s.scan.state = .suspended ∨ s.scan.state = .draining) :
    takeSuspendScan r (s.dequeue .mp) = s.answered .mp ⟨0x39#8, r.tag, .scanActive, []⟩ := by
  rcases stopped with state | state
  all_goals simp only [takeSuspendScan, State.dequeue_scan, state, State.dequeue_answer, hk, Kind.code]

/-! ### Resume (R169) -/

theorem exec_resumeScan (ht : s.takeable .mp .resumeScan = some r) :
    exec .resumeScan s = .next (takeResumeScan r (s.dequeue .mp)) :=
  congrArg Host.Outcome.next (State.take_of_takeable ht _)

theorem takeResumeScan_of_idle (hk : r.kind = .resumeScan) (idle : s.scan.state = .idle) :
    takeResumeScan r (s.dequeue .mp) = s.answered .mp ⟨0x3A#8, r.tag, .scanIdle, []⟩ := by
  simp only [takeResumeScan, State.dequeue_scan, idle, State.dequeue_answer, hk, Kind.code]

/-- Only a scan that was suspended goes on by a Resume. -/
theorem takeResumeScan_of_not_suspended (hk : r.kind = .resumeScan)
    (active : s.scan.state = .running ∨ s.scan.state = .draining) :
    takeResumeScan r (s.dequeue .mp) = s.answered .mp ⟨0x3A#8, r.tag, .scanActive, []⟩ := by
  rcases active with state | state
  all_goals simp only [takeResumeScan, State.dequeue_scan, state, State.dequeue_answer, hk, Kind.code]

/-- A suspended scan goes on, except beside a batch that is being applied (R149). -/
theorem takeResumeScan_of_suspended (hk : r.kind = .resumeScan) (suspended : s.scan.state = .suspended) :
    takeResumeScan r (s.dequeue .mp) =
      if s.batch.state = .writing ∨ s.batch.state = .promoting then
        s.answered .mp ⟨0x3A#8, r.tag, .applyInProgress, []⟩
      else (s.setScan { s.scan with state := .running }).answered .mp ⟨0x3A#8, r.tag, .ok, be 2 s.scan.cursor⟩ := by
  simp only [takeResumeScan, State.dequeue_scan, State.dequeue_batch, suspended, Batch.isLocked_iff, State.dequeue_answer,
    State.dequeue_setScan_answer, hk, Kind.code]

/-! ### Abort (R170) -/

theorem exec_abortScan (ht : s.takeable .mp .abortScan = some r) :
    exec .abortScan s = .next (takeAbortScan r (s.dequeue .mp)) :=
  congrArg Host.Outcome.next (State.take_of_takeable ht _)

theorem takeAbortScan_of_idle (hk : r.kind = .abortScan) (idle : s.scan.state = .idle) :
    takeAbortScan r (s.dequeue .mp) = s.answered .mp ⟨0x3B#8, r.tag, .scanIdle, []⟩ := by
  simp only [takeAbortScan, State.dequeue_scan, idle, State.dequeue_answer, hk, Kind.code]

theorem takeAbortScan_of_draining (hk : r.kind = .abortScan) (draining : s.scan.state = .draining) :
    takeAbortScan r (s.dequeue .mp) = s.answered .mp ⟨0x3B#8, r.tag, .scanActive, []⟩ := by
  simp only [takeAbortScan, State.dequeue_scan, draining, State.dequeue_answer, hk, Kind.code]

/-- An Abort of a walk under way answers first; the walk ends in the answered state (log 27). -/
theorem takeAbortScan_of_walking (hk : r.kind = .abortScan)
    (walking : s.scan.state = .running ∨ s.scan.state = .suspended) :
    takeAbortScan r (s.dequeue .mp) = (s.answered .mp ⟨0x3B#8, r.tag, .ok, be 2 s.scan.cursor⟩).endWalk := by
  rcases walking with state | state
  all_goals simp only [takeAbortScan, State.dequeue_scan, state, State.dequeue_answer, hk, Kind.code]

/-- What an answer leaves of the scan: all of it. -/
theorem State.answered_scan (s : State) (p : Port) (x : Response) : (s.answered p x).scan = s.scan :=
  State.setPort_scan _ _ _

/-- An answer and a rewrite of the scan may be made in either order. -/
theorem State.answered_setScan (s : State) (p : Port) (x : Response) (y : Scan) :
    (s.answered p x).setScan y = (s.setScan y).answered p x := by cases p <;> rfl

/-- A walk that ends with commits in flight drains. -/
theorem State.answered_endWalk_of_inFlight (x : Response) (busy : s.scan.inFlight ≠ 0) :
    (s.answered .mp x).endWalk = (s.setScan { s.scan with state := .draining }).answered .mp x := by
  rw [State.endWalk, State.answered_scan, if_neg busy, State.answered_setScan]

/-- A walk that ends before the last slot with nothing in flight was aborted. -/
theorem State.answered_endWalk_of_aborted (x : Response) (quiet : s.scan.inFlight = 0) (before : s.scan.cursor < 4352) :
    (s.answered .mp x).endWalk = ((s.setScan { s.scan with state := .idle }).answered .mp x).fillReserved .mp 0xB8#8
      s.scan.startTag .scanAborted s.scan.notice := by
  have aborted : s.scan.endStatus = .scanAborted := if_neg (Nat.ne_of_lt before)
  rw [State.endWalk, State.answered_scan, if_pos quiet, State.endScan, State.answered_scan, State.answered_setScan, aborted,
    scanNotice]

/-! ### The statement -/

/-- Settles O43: each request answers by the scan's state, and an Abort of a walk under way ends it after its answer. -/
theorem scanControlRequests : Obligations.ScanControlRequests := by
  refine fun r s => ⟨fun ht => ?suspend, fun ht => ?resume, fun ht => ?abort⟩
  case suspend =>
    have hk : r.kind = .suspendScan := State.takeable_kind ht
    rw [exec_suspendScan ht]
    cases state : s.scan.state with
    | running => rw [takeSuspendScan_of_running hk state]; rfl
    | idle => rw [takeSuspendScan_of_idle hk state]
    | suspended => rw [takeSuspendScan_of_stopped hk (.inl state)]
    | draining => rw [takeSuspendScan_of_stopped hk (.inr state)]
  case resume =>
    have hk : r.kind = .resumeScan := State.takeable_kind ht
    rw [exec_resumeScan ht]
    cases state : s.scan.state with
    | idle => rw [takeResumeScan_of_idle hk state]
    | running => rw [takeResumeScan_of_not_suspended hk (.inl state)]
    | draining => rw [takeResumeScan_of_not_suspended hk (.inr state)]
    | suspended => rw [takeResumeScan_of_suspended hk state]; rfl
  case abort =>
    have hk : r.kind = .abortScan := State.takeable_kind ht
    rw [exec_abortScan ht]
    refine ⟨fun idle => ?none, fun draining => ?ending, fun walking => ?walking⟩
    case none => rw [takeAbortScan_of_idle hk idle]
    case ending => rw [takeAbortScan_of_draining hk draining]
    case walking =>
      rw [takeAbortScan_of_walking hk walking]
      refine ⟨fun busy => ?drains, fun quiet before => ?ends⟩
      case drains => rw [State.answered_endWalk_of_inFlight _ busy]; rfl
      case ends => rw [State.answered_endWalk_of_aborted _ quiet before]; rfl

end Sys2Proof.Machine
end
